-- ==== Sys2Proof/Word.lean ====
section
/-! DEFINITION. The words the manual counts in and the small finite index types that every other file names. -/

namespace Sys2Proof

/-- One byte of a station port frame or of a line record (R202, R203, R205). -/
abbrev Byte := BitVec 8

/-- One slot of a line cycle (R204). -/
abbrev Word16 := BitVec 16

/-- A quantity kept modulo 2^32: RD, MS_TIME, the capture timebase, a tally value. -/
abbrev Word32 := BitVec 32

/-- A 12-bit analog count, 0..4095 (section 1.6.2). -/
abbrev Sample := BitVec 12

/-- A 16-bit voice sample in two's complement (R204). -/
abbrev Voice := BitVec 16

/-- A cabin, as the index of its record in the cabin table; cabin number `n` of the manual is index `n - 1` (R1). -/
abbrev Cabin := Fin 96

/-- The cabin number 1..96 of the manual (R1). -/
def Cabin.number (c : Cabin) : Nat := c.val + 1

/-- A tally counter; counter `n` of the manual is index `n - 1` (R185). -/
abbrev CounterIx := Fin 8

end Sys2Proof
end

