-- ==== Sys2Proof/Syntax.lean ====
section
/-! DEFINITION. The commands of the part: one constructor of Instr for each row of the operation and event table. -/

namespace Sys2Proof

/-- The five drive channels (Table 4-1). -/
inductive Channel where
  | opener | closer | switch | release | gate
  deriving DecidableEq, Repr

/-- The two end positions of a drive channel (chapter 4). -/
inductive End where
  | a | b
  deriving DecidableEq, Repr

/-- The two call channels of the line telephone (Table 9-1). -/
inductive CallChannel where
  | a | b
  deriving DecidableEq, Repr

/-- The bullwheel input that has changed at a count (R20). -/
inductive BullInput where
  | bwA | bwB
  deriving DecidableEq, Repr

/-- The seven segments of the station track, in the order of their codes 1..7 (Tables 3-1 and 13-1). -/
inductive Segment where
  | opn | sti | cls | lck | grp | gat | att
  deriving DecidableEq, Repr

/-- A line cycle as the receiver or the transmitter holds it: its eight slots (Table 7-2). -/
structure LineCycle where
  sync    : Word16
  control : Word16
  voiceA  : Word16
  voiceB  : Word16
  msg4    : Word16
  msg5    : Word16
  tower   : Word16
  check   : Word16
  deriving DecidableEq, Repr

/-- One bit of LINE_RX at the recovered bit clock: its value, and whether it had a Manchester code violation, that is
no transition at its centre (section 7.1, R124). -/
structure RxBit where
  level     : Bool
  violation : Bool
  deriving DecidableEq, Repr

/-- 128 bits of LINE_RX as a cycle: its slots, and whether any bit of it had a code violation (R124 to R126). -/
structure RxCycle where
  slots     : LineCycle
  violation : Bool
  deriving DecidableEq, Repr

/-- The commands. Each is one whole and indivisible step of the part. The rows of the table carry no operands; an
operand here is what the row's rule says the event brings with it. A host request brings its TAG and its body bytes
(R203), so that every length and value check of R192 is the part's own. -/
inductive Instr where
  | powerOn
  | resetnAsserted
  | endOfReset
  | profileLoad
  | measuringWheelPulse
  | bullwheelCount (input : BullInput)
  | quadratureJump
  | measuringWheelStall
  | bullwheelStall
  | tensionSample (n : Sample)
  | gripSample (n : Sample)
  | currentSample (ch : Channel) (n : Sample)
  | arrPassage
  | opnPassage
  | clsPassage
  | lckPassage
  | grpPassage
  | grpTrailingEdge
  | gatPassage
  | gatTrailingEdge
  | attPassage
  | stiPassage
  | stmPassage
  | readerStrobe (code : BitVec 7)
  | endInputChange (ch : Channel) (e : End) (level : Bool)
  | strokeTimeout (ch : Channel)
  | retryPauseExpiry
  | launchDecision
  | switchThrow
  | tallySample
  | lineCycleTransmit
  | towerStale (t : Fin 40)
  | censusRequestPlacement
  | syncCandidate (bits : List RxBit)
  | confirmCycle (bits : List RxBit)
  | goodCycle (bits : List RxBit)
  | badCycle (bits : List RxBit)
  | linkLossExpiry
  | censusWaitExpiry
  | seizeTimeExpiry (ch : CallChannel)
  | ringTimeExpiry (ch : CallChannel)
  | clearGuardExpiry (ch : CallChannel)
  | voicePortFrame (ch : CallChannel) (v : Voice)
  | hostDeadlineMissed
  | commitCompletion (equal : Bool)
  | badFrame (chars : List Byte)
  | frameGapTimeout
  | breakReceived
  | unknownKind (kind : Byte) (tag : Byte) (body : List Byte)
  | frameTransmit
  | hostResetEntry
  | registerCabin (tag : Byte) (body : List Byte)
  | unregisterCabin (tag : Byte) (body : List Byte)
  | readCabin (tag : Byte) (body : List Byte)
  | readList (tag : Byte) (body : List Byte)
  | withdrawCabin (tag : Byte) (body : List Byte)
  | reinstateCabin (tag : Byte) (body : List Byte)
  | retireCabin (tag : Byte) (body : List Byte)
  | cabinServiced (tag : Byte) (body : List Byte)
  | readRope (tag : Byte) (body : List Byte)
  | bindEntry (tag : Byte) (body : List Byte)
  | setSwitch (tag : Byte) (body : List Byte)
  | releaseFromStorage (tag : Byte) (body : List Byte)
  | readTrack (tag : Byte) (body : List Byte)
  | driveTest (tag : Byte) (body : List Byte)
  | readDrives (tag : Byte) (body : List Byte)
  | holdLaunches (tag : Byte) (body : List Byte)
  | resumeLaunches (tag : Byte) (body : List Byte)
  | readLaunch (tag : Byte) (body : List Byte)
  | declareLost (tag : Byte) (body : List Byte)
  | readLineTrack (tag : Byte) (body : List Byte)
  | readLink (tag : Byte) (body : List Byte)
  | readTowers (tag : Byte) (body : List Byte)
  | sendLineText (tag : Byte) (body : List Byte)
  | sendPriorityText (tag : Byte) (body : List Byte)
  | readLineText (tag : Byte) (body : List Byte)
  | readRecordChannel (tag : Byte) (body : List Byte)
  | placeCall (tag : Byte) (body : List Byte)
  | answerCall (tag : Byte) (body : List Byte)
  | endCall (tag : Byte) (body : List Byte)
  | readCalls (tag : Byte) (body : List Byte)
  | ackCause (tag : Byte) (body : List Byte)
  | ackAll (tag : Byte) (body : List Byte)
  | hostStop (tag : Byte) (body : List Byte)
  | liftRestriction (tag : Byte) (body : List Byte)
  | keepalive (tag : Byte) (body : List Byte)
  | setMode (tag : Byte) (body : List Byte)
  | readCauses (tag : Byte) (body : List Byte)
  | setTally (tag : Byte) (body : List Byte)
  | writeTally (tag : Byte) (body : List Byte)
  | readTally (tag : Byte) (body : List Byte)
  | clearOverflow (tag : Byte) (body : List Byte)
  | freezeTally (tag : Byte) (body : List Byte)
  | unfreezeTally (tag : Byte) (body : List Byte)
  | identify (tag : Byte) (body : List Byte)
  | readStatus (tag : Byte) (body : List Byte)
  | resetPart (tag : Byte) (body : List Byte)
  | readParam (tag : Byte) (body : List Byte)
  | writeParam (tag : Byte) (body : List Byte)
  | commitProfile (tag : Byte) (body : List Byte)
  | restoreDefaults (tag : Byte) (body : List Byte)
  | supplyLoss
  deriving DecidableEq, Repr

end Sys2Proof
end

