-- ==== Sys2Proof/Config.lean ====
section
/-! DEFINITION. What is fixed from outside the running part: the shape of the operating profile, and the free values
of the model, which the manual leaves open and which no proof can look into. -/

namespace Sys2Proof

/-- One value for each drive channel. -/
structure PerChannel (α : Type) where
  opener  : α
  closer  : α
  switch  : α
  release : α
  gate    : α
  deriving DecidableEq, Repr, Inhabited

/-- One value for each of the seven segments. -/
structure PerSegment (α : Type) where
  opn : α
  sti : α
  cls : α
  lck : α
  grp : α
  gat : α
  att : α
  deriving DecidableEq, Repr, Inhabited

/-- One value for each of the six segments that have a SEG_LIMIT; SEG-GAT has none (Table 3-1). -/
structure PerLimited (α : Type) where
  opn : α
  sti : α
  cls : α
  lck : α
  grp : α
  att : α
  deriving DecidableEq, Repr, Inhabited

/-- The segments that have a SEG_LIMIT (Table 3-1). -/
inductive Limited where
  | opn | sti | cls | lck | grp | att
  deriving DecidableEq, Repr

/-- The parameters of the profile, in the order of their numbers (Table 13-4, R196). On/off parameters hold 1 for on
and 0 for off, as they are carried (section 13.2). -/
structure Params where
  /-- MW_STEP_UM (1). -/
  mwStepUm : Nat
  /-- BW_STEP_UM (2). -/
  bwStepUm : Nat
  /-- SLIP_VMIN (3). -/
  slipVmin : Nat
  /-- SLIP_LIMIT (4). -/
  slipLimit : Nat
  /-- SLIP_HOLD_MM (5). -/
  slipHoldMm : Nat
  /-- V_MAX (6). -/
  vMax : Nat
  /-- V_EMG_MARGIN (7). -/
  vEmgMargin : Nat
  /-- V_INSPECT (8). -/
  vInspect : Nat
  /-- V_RESTRICT (9). -/
  vRestrict : Nat
  /-- TENSION_SPAN (10). -/
  tensionSpan : Nat
  /-- TENSION_LO_LIM (11). -/
  tensionLoLim : Nat
  /-- TENSION_LO (12). -/
  tensionLo : Nat
  /-- TENSION_HI (13). -/
  tensionHi : Nat
  /-- TENSION_HI_LIM (14). -/
  tensionHiLim : Nat
  /-- SENSOR_FILTER (15). -/
  sensorFilter : Nat
  /-- READER_SPAN (16). -/
  readerSpan : Nat
  /-- SWITCH_CLEAR (17). -/
  switchClear : Nat
  /-- SEG_CAP (18). -/
  segCap : PerSegment Nat
  /-- SEG_LIMIT (19). -/
  segLimit : PerLimited Nat
  /-- STORE_CAP (20). -/
  storeCap : Nat
  /-- AUTO_STORE (21). -/
  autoStore : Nat
  /-- RELEASE_WAIT (22). -/
  releaseWait : Nat
  /-- STROKE_TIME (23). -/
  strokeTime : PerChannel Nat
  /-- DUTY (24). -/
  duty : PerChannel Nat
  /-- CUR_SCALE (25). -/
  curScale : Nat
  /-- I_LIMIT (26). -/
  iLimit : PerChannel Nat
  /-- I_SAMPLES (27). -/
  iSamples : Nat
  /-- DOOR_RETRIES (28). -/
  doorRetries : Nat
  /-- RETRY_PAUSE (29). -/
  retryPause : Nat
  /-- CLOSER_REACH (30). -/
  closerReach : Nat
  /-- GRIP_ZERO (31). -/
  gripZero : Nat
  /-- GRIP_SCALE (32). -/
  gripScale : Nat
  /-- GRIP_MIN (33). -/
  gripMin : Nat
  /-- GRIP_MAX (34). -/
  gripMax : Nat
  /-- GRIP_WINDOW_MAX (35). -/
  gripWindowMax : Nat
  /-- SPACING (36). -/
  spacing : Nat
  /-- LAUNCH_VMIN (37). -/
  launchVmin : Nat
  /-- LAUNCH_WAIT (38). -/
  launchWait : Nat
  /-- GATE_LEAVE (39). -/
  gateLeave : Nat
  /-- SERVICE_LAUNCHES (40). -/
  serviceLaunches : Nat
  /-- LINE_LEN (41). -/
  lineLen : Nat
  /-- ARR_TOL (42). -/
  arrTol : Nat
  /-- CENSUS_WAIT (43). -/
  censusWait : Nat
  /-- LINK_LOSS_MS (44). -/
  linkLossMs : Nat
  /-- TOWER_COUNT (45). -/
  towerCount : Nat
  /-- TOWER_DWELL (46). -/
  towerDwell : Nat
  /-- TOWER_STALE (47). -/
  towerStale : Nat
  /-- RING_TIME (48). -/
  ringTime : Nat
  /-- HK_PERIOD (49). -/
  hkPeriod : Nat
  /-- HK_WINDOW (50). -/
  hkWindow : Nat
  deriving DecidableEq, Repr, Inhabited

/-- The contents of a profile, working or stored: the parameters, and for each registered cabin its launch count
(R196). -/
structure Profile where
  params : Params
  regs   : Vector (Option Nat) 96
  deriving DecidableEq, Repr, Inhabited

/-- One parameter with its index where it has one per channel or per segment (Table 13-4). -/
inductive Param where
  | mwStepUm
  | bwStepUm
  | slipVmin
  | slipLimit
  | slipHoldMm
  | vMax
  | vEmgMargin
  | vInspect
  | vRestrict
  | tensionSpan
  | tensionLoLim
  | tensionLo
  | tensionHi
  | tensionHiLim
  | sensorFilter
  | readerSpan
  | switchClear
  | segCap (g : Segment)
  | segLimit (g : Limited)
  | storeCap
  | autoStore
  | releaseWait
  | strokeTime (ch : Channel)
  | duty (ch : Channel)
  | curScale
  | iLimit (ch : Channel)
  | iSamples
  | doorRetries
  | retryPause
  | closerReach
  | gripZero
  | gripScale
  | gripMin
  | gripMax
  | gripWindowMax
  | spacing
  | launchVmin
  | launchWait
  | gateLeave
  | serviceLaunches
  | lineLen
  | arrTol
  | censusWait
  | linkLossMs
  | towerCount
  | towerDwell
  | towerStale
  | ringTime
  | hkPeriod
  | hkWindow
  deriving DecidableEq, Repr

/-- FREE VALUE (log entry 3). What a stored copy holds whose write was cut off, or whose read-back differed; the number
tells one such copy from another. -/
opaque Config.freeProfile : Nat → Profile

/-- FREE VALUE (log entry 3). Whether the check word of a stored copy whose read-back differed is found good at the
next start. R199 and R201 do not say. -/
opaque Config.freeCheck : Nat → Bool

end Sys2Proof
end

