-- ==== Sys2Proof/Machine/Params.lean ====
section
/-! DEFINITION. The parameters of the profile: their defaults, ranges and numbers, and how one of them is read and
replaced (Tables 2-6, 4-5, 5-5, 6-1, 7-1, 13-4 and the parameters given in the text). -/

namespace Sys2Proof

/-- The value of one channel. -/
def PerChannel.get {α : Type} (x : PerChannel α) : Channel → α
  | .opener => x.opener
  | .closer => x.closer
  | .switch => x.switch
  | .release => x.release
  | .gate => x.gate

/-- `x` with the value of one channel replaced. -/
def PerChannel.put {α : Type} (x : PerChannel α) (ch : Channel) (v : α) : PerChannel α :=
  match ch with
  | .opener => { x with opener := v }
  | .closer => { x with closer := v }
  | .switch => { x with switch := v }
  | .release => { x with release := v }
  | .gate => { x with gate := v }

/-- The value of one segment. -/
def PerSegment.get {α : Type} (x : PerSegment α) : Segment → α
  | .opn => x.opn
  | .sti => x.sti
  | .cls => x.cls
  | .lck => x.lck
  | .grp => x.grp
  | .gat => x.gat
  | .att => x.att

/-- `x` with the value of one segment replaced. -/
def PerSegment.put {α : Type} (x : PerSegment α) (g : Segment) (v : α) : PerSegment α :=
  match g with
  | .opn => { x with opn := v }
  | .sti => { x with sti := v }
  | .cls => { x with cls := v }
  | .lck => { x with lck := v }
  | .grp => { x with grp := v }
  | .gat => { x with gat := v }
  | .att => { x with att := v }

/-- The value of one limited segment. -/
def PerLimited.get {α : Type} (x : PerLimited α) : Limited → α
  | .opn => x.opn
  | .sti => x.sti
  | .cls => x.cls
  | .lck => x.lck
  | .grp => x.grp
  | .att => x.att

/-- `x` with the value of one limited segment replaced. -/
def PerLimited.put {α : Type} (x : PerLimited α) (g : Limited) (v : α) : PerLimited α :=
  match g with
  | .opn => { x with opn := v }
  | .sti => { x with sti := v }
  | .cls => { x with cls := v }
  | .lck => { x with lck := v }
  | .grp => { x with grp := v }
  | .att => { x with att := v }

/-- The SEG_LIMIT of a segment that has one; SEG-GAT has none (Table 3-1). -/
def Segment.limited : Segment → Option Limited
  | .opn => some .opn
  | .sti => some .sti
  | .cls => some .cls
  | .lck => some .lck
  | .grp => some .grp
  | .gat => none
  | .att => some .att

/-- The SEG_LIMIT of a segment in a profile, absent for SEG-GAT (R44). -/
def Params.limitOf (p : Params) (g : Segment) : Option Nat := g.limited.map p.segLimit.get

/-- The default of every parameter. -/
def Params.default : Params where
  mwStepUm := 4712
  bwStepUm := 14726
  slipVmin := 500
  slipLimit := 30
  slipHoldMm := 2000
  vMax := 6000
  vEmgMargin := 600
  vInspect := 500
  vRestrict := 2000
  tensionSpan := 2000
  tensionLoLim := 200
  tensionLo := 500
  tensionHi := 1500
  tensionHiLim := 1800
  sensorFilter := 5
  readerSpan := 1500
  switchClear := 3000
  segCap := ⟨2, 2, 2, 2, 2, 4, 2⟩
  segLimit := ⟨20000, 20000, 20000, 20000, 20000, 20000⟩
  storeCap := 12
  autoStore := 0
  releaseWait := 8000
  strokeTime := ⟨1500, 1500, 1500, 1500, 1500⟩
  duty := ⟨60, 60, 60, 60, 60⟩
  curScale := 8000
  iLimit := ⟨3000, 3000, 3000, 3000, 3000⟩
  iSamples := 8
  doorRetries := 2
  retryPause := 400
  closerReach := 1200
  gripZero := 200
  gripScale := 24000
  gripMin := 11000
  gripMax := 16000
  gripWindowMax := 1500
  spacing := 60000
  launchVmin := 1000
  launchWait := 15000
  gateLeave := 3000
  serviceLaunches := 0
  lineLen := 2400000
  arrTol := 20000
  censusWait := 2000
  linkLossMs := 100
  towerCount := 18
  towerDwell := 8
  towerStale := 1000
  ringTime := 30
  hkPeriod := 500
  hkWindow := 0

/-- The default profile: every parameter at its default and no cabin registered (R9, R201). -/
def Profile.default : Profile := { params := Params.default, regs := Vector.replicate 96 none }

/-- The value a profile holds for a parameter. -/
def Params.get (p : Params) : Param → Nat
  | .mwStepUm => p.mwStepUm
  | .bwStepUm => p.bwStepUm
  | .slipVmin => p.slipVmin
  | .slipLimit => p.slipLimit
  | .slipHoldMm => p.slipHoldMm
  | .vMax => p.vMax
  | .vEmgMargin => p.vEmgMargin
  | .vInspect => p.vInspect
  | .vRestrict => p.vRestrict
  | .tensionSpan => p.tensionSpan
  | .tensionLoLim => p.tensionLoLim
  | .tensionLo => p.tensionLo
  | .tensionHi => p.tensionHi
  | .tensionHiLim => p.tensionHiLim
  | .sensorFilter => p.sensorFilter
  | .readerSpan => p.readerSpan
  | .switchClear => p.switchClear
  | .segCap g => p.segCap.get g
  | .segLimit g => p.segLimit.get g
  | .storeCap => p.storeCap
  | .autoStore => p.autoStore
  | .releaseWait => p.releaseWait
  | .strokeTime ch => p.strokeTime.get ch
  | .duty ch => p.duty.get ch
  | .curScale => p.curScale
  | .iLimit ch => p.iLimit.get ch
  | .iSamples => p.iSamples
  | .doorRetries => p.doorRetries
  | .retryPause => p.retryPause
  | .closerReach => p.closerReach
  | .gripZero => p.gripZero
  | .gripScale => p.gripScale
  | .gripMin => p.gripMin
  | .gripMax => p.gripMax
  | .gripWindowMax => p.gripWindowMax
  | .spacing => p.spacing
  | .launchVmin => p.launchVmin
  | .launchWait => p.launchWait
  | .gateLeave => p.gateLeave
  | .serviceLaunches => p.serviceLaunches
  | .lineLen => p.lineLen
  | .arrTol => p.arrTol
  | .censusWait => p.censusWait
  | .linkLossMs => p.linkLossMs
  | .towerCount => p.towerCount
  | .towerDwell => p.towerDwell
  | .towerStale => p.towerStale
  | .ringTime => p.ringTime
  | .hkPeriod => p.hkPeriod
  | .hkWindow => p.hkWindow

/-- A profile with one parameter replaced. -/
def Params.set (p : Params) (q : Param) (v : Nat) : Params :=
  match q with
  | .mwStepUm => { p with mwStepUm := v }
  | .bwStepUm => { p with bwStepUm := v }
  | .slipVmin => { p with slipVmin := v }
  | .slipLimit => { p with slipLimit := v }
  | .slipHoldMm => { p with slipHoldMm := v }
  | .vMax => { p with vMax := v }
  | .vEmgMargin => { p with vEmgMargin := v }
  | .vInspect => { p with vInspect := v }
  | .vRestrict => { p with vRestrict := v }
  | .tensionSpan => { p with tensionSpan := v }
  | .tensionLoLim => { p with tensionLoLim := v }
  | .tensionLo => { p with tensionLo := v }
  | .tensionHi => { p with tensionHi := v }
  | .tensionHiLim => { p with tensionHiLim := v }
  | .sensorFilter => { p with sensorFilter := v }
  | .readerSpan => { p with readerSpan := v }
  | .switchClear => { p with switchClear := v }
  | .segCap g => { p with segCap := p.segCap.put g v }
  | .segLimit g => { p with segLimit := p.segLimit.put g v }
  | .storeCap => { p with storeCap := v }
  | .autoStore => { p with autoStore := v }
  | .releaseWait => { p with releaseWait := v }
  | .strokeTime ch => { p with strokeTime := p.strokeTime.put ch v }
  | .duty ch => { p with duty := p.duty.put ch v }
  | .curScale => { p with curScale := v }
  | .iLimit ch => { p with iLimit := p.iLimit.put ch v }
  | .iSamples => { p with iSamples := v }
  | .doorRetries => { p with doorRetries := v }
  | .retryPause => { p with retryPause := v }
  | .closerReach => { p with closerReach := v }
  | .gripZero => { p with gripZero := v }
  | .gripScale => { p with gripScale := v }
  | .gripMin => { p with gripMin := v }
  | .gripMax => { p with gripMax := v }
  | .gripWindowMax => { p with gripWindowMax := v }
  | .spacing => { p with spacing := v }
  | .launchVmin => { p with launchVmin := v }
  | .launchWait => { p with launchWait := v }
  | .gateLeave => { p with gateLeave := v }
  | .serviceLaunches => { p with serviceLaunches := v }
  | .lineLen => { p with lineLen := v }
  | .arrTol => { p with arrTol := v }
  | .censusWait => { p with censusWait := v }
  | .linkLossMs => { p with linkLossMs := v }
  | .towerCount => { p with towerCount := v }
  | .towerDwell => { p with towerDwell := v }
  | .towerStale => { p with towerStale := v }
  | .ringTime => { p with ringTime := v }
  | .hkPeriod => { p with hkPeriod := v }
  | .hkWindow => { p with hkWindow := v }

/-- The lower bound of a parameter's range. -/
def Param.lo : Param → Nat
  | .mwStepUm => 500
  | .bwStepUm => 1000
  | .slipVmin => 100
  | .slipLimit => 5
  | .slipHoldMm => 100
  | .vMax => 500
  | .vEmgMargin => 100
  | .vInspect => 100
  | .vRestrict => 300
  | .tensionSpan => 100
  | .tensionLoLim => 0
  | .tensionLo => 0
  | .tensionHi => 0
  | .tensionHiLim => 0
  | .sensorFilter => 1
  | .readerSpan => 100
  | .switchClear => 500
  | .segCap _ => 1
  | .segLimit _ => 1000
  | .storeCap => 1
  | .autoStore => 0
  | .releaseWait => 1000
  | .strokeTime _ => 100
  | .duty _ => 10
  | .curScale => 1000
  | .iLimit _ => 100
  | .iSamples => 1
  | .doorRetries => 0
  | .retryPause => 100
  | .closerReach => 200
  | .gripZero => 0
  | .gripScale => 1000
  | .gripMin => 0
  | .gripMax => 0
  | .gripWindowMax => 200
  | .spacing => 5000
  | .launchVmin => 100
  | .launchWait => 1000
  | .gateLeave => 500
  | .serviceLaunches => 0
  | .lineLen => 100000
  | .arrTol => 1000
  | .censusWait => 500
  | .linkLossMs => 10
  | .towerCount => 1
  | .towerDwell => 1
  | .towerStale => 50
  | .ringTime => 5
  | .hkPeriod => 100
  | .hkWindow => 0

/-- The upper bound of a parameter's range; those of I_LIMIT and of the four tension bounds are taken against the
working CUR_SCALE and TENSION_SPAN (R197). -/
def Param.hi (p : Params) : Param → Nat
  | .mwStepUm => 20000
  | .bwStepUm => 50000
  | .slipVmin => 3000
  | .slipLimit => 200
  | .slipHoldMm => 20000
  | .vMax => 12000
  | .vEmgMargin => 2000
  | .vInspect => 1500
  | .vRestrict => 6000
  | .tensionSpan => 5000
  | .tensionLoLim => p.tensionSpan
  | .tensionLo => p.tensionSpan
  | .tensionHi => p.tensionSpan
  | .tensionHiLim => p.tensionSpan
  | .sensorFilter => 50
  | .readerSpan => 10000
  | .switchClear => 20000
  | .segCap _ => 6
  | .segLimit _ => 100000
  | .storeCap => 24
  | .autoStore => 1
  | .releaseWait => 20000
  | .strokeTime _ => 5000
  | .duty _ => 100
  | .curScale => 20000
  | .iLimit _ => p.curScale
  | .iSamples => 64
  | .doorRetries => 3
  | .retryPause => 2000
  | .closerReach => 5000
  | .gripZero => 2000
  | .gripScale => 60000
  | .gripMin => 60000
  | .gripMax => 60000
  | .gripWindowMax => 5000
  | .spacing => 500000
  | .launchVmin => 6000
  | .launchWait => 50000
  | .gateLeave => 10000
  | .serviceLaunches => 65000
  | .lineLen => 10000000
  | .arrTol => 200000
  | .censusWait => 10000
  | .linkLossMs => 500
  | .towerCount => 40
  | .towerDwell => 64
  | .towerStale => 5000
  | .ringTime => 120
  | .hkPeriod => 2000
  | .hkWindow => 1

/-- The default of one parameter. -/
def Param.dflt (q : Param) : Nat := Params.default.get q

/-- The channel a channel code names (R202). -/
def channelOfCode : Nat → Option Channel
  | 1 => some .opener
  | 2 => some .closer
  | 3 => some .switch
  | 4 => some .release
  | 5 => some .gate
  | _ => none

/-- The segment a segment code names (Table 13-1). -/
def segmentOfCode : Nat → Option Segment
  | 1 => some .opn
  | 2 => some .sti
  | 3 => some .cls
  | 4 => some .lck
  | 5 => some .grp
  | 6 => some .gat
  | 7 => some .att
  | _ => none

/-- The parameter that a number and an index name, absent where either is not defined (Table 13-4). -/
def Param.ofNumber (number index : Nat) : Option Param :=
  match number with
  | 1 => if index = 0 then some .mwStepUm else none
  | 2 => if index = 0 then some .bwStepUm else none
  | 3 => if index = 0 then some .slipVmin else none
  | 4 => if index = 0 then some .slipLimit else none
  | 5 => if index = 0 then some .slipHoldMm else none
  | 6 => if index = 0 then some .vMax else none
  | 7 => if index = 0 then some .vEmgMargin else none
  | 8 => if index = 0 then some .vInspect else none
  | 9 => if index = 0 then some .vRestrict else none
  | 10 => if index = 0 then some .tensionSpan else none
  | 11 => if index = 0 then some .tensionLoLim else none
  | 12 => if index = 0 then some .tensionLo else none
  | 13 => if index = 0 then some .tensionHi else none
  | 14 => if index = 0 then some .tensionHiLim else none
  | 15 => if index = 0 then some .sensorFilter else none
  | 16 => if index = 0 then some .readerSpan else none
  | 17 => if index = 0 then some .switchClear else none
  | 18 => (segmentOfCode index).map .segCap
  | 19 => ((segmentOfCode index).bind Segment.limited).map .segLimit
  | 20 => if index = 0 then some .storeCap else none
  | 21 => if index = 0 then some .autoStore else none
  | 22 => if index = 0 then some .releaseWait else none
  | 23 => (channelOfCode index).map .strokeTime
  | 24 => (channelOfCode index).map .duty
  | 25 => if index = 0 then some .curScale else none
  | 26 => (channelOfCode index).map .iLimit
  | 27 => if index = 0 then some .iSamples else none
  | 28 => if index = 0 then some .doorRetries else none
  | 29 => if index = 0 then some .retryPause else none
  | 30 => if index = 0 then some .closerReach else none
  | 31 => if index = 0 then some .gripZero else none
  | 32 => if index = 0 then some .gripScale else none
  | 33 => if index = 0 then some .gripMin else none
  | 34 => if index = 0 then some .gripMax else none
  | 35 => if index = 0 then some .gripWindowMax else none
  | 36 => if index = 0 then some .spacing else none
  | 37 => if index = 0 then some .launchVmin else none
  | 38 => if index = 0 then some .launchWait else none
  | 39 => if index = 0 then some .gateLeave else none
  | 40 => if index = 0 then some .serviceLaunches else none
  | 41 => if index = 0 then some .lineLen else none
  | 42 => if index = 0 then some .arrTol else none
  | 43 => if index = 0 then some .censusWait else none
  | 44 => if index = 0 then some .linkLossMs else none
  | 45 => if index = 0 then some .towerCount else none
  | 46 => if index = 0 then some .towerDwell else none
  | 47 => if index = 0 then some .towerStale else none
  | 48 => if index = 0 then some .ringTime else none
  | 49 => if index = 0 then some .hkPeriod else none
  | 50 => if index = 0 then some .hkWindow else none
  | _ => none

/-- The number of a parameter (Table 13-4). -/
def Param.number : Param → Nat
  | .mwStepUm => 1
  | .bwStepUm => 2
  | .slipVmin => 3
  | .slipLimit => 4
  | .slipHoldMm => 5
  | .vMax => 6
  | .vEmgMargin => 7
  | .vInspect => 8
  | .vRestrict => 9
  | .tensionSpan => 10
  | .tensionLoLim => 11
  | .tensionLo => 12
  | .tensionHi => 13
  | .tensionHiLim => 14
  | .sensorFilter => 15
  | .readerSpan => 16
  | .switchClear => 17
  | .segCap _ => 18
  | .segLimit _ => 19
  | .storeCap => 20
  | .autoStore => 21
  | .releaseWait => 22
  | .strokeTime _ => 23
  | .duty _ => 24
  | .curScale => 25
  | .iLimit _ => 26
  | .iSamples => 27
  | .doorRetries => 28
  | .retryPause => 29
  | .closerReach => 30
  | .gripZero => 31
  | .gripScale => 32
  | .gripMin => 33
  | .gripMax => 34
  | .gripWindowMax => 35
  | .spacing => 36
  | .launchVmin => 37
  | .launchWait => 38
  | .gateLeave => 39
  | .serviceLaunches => 40
  | .lineLen => 41
  | .arrTol => 42
  | .censusWait => 43
  | .linkLossMs => 44
  | .towerCount => 45
  | .towerDwell => 46
  | .towerStale => 47
  | .ringTime => 48
  | .hkPeriod => 49
  | .hkWindow => 50

/-- The parameters of Table 2-6 in the order of the table, in which a restore takes them (R35). -/
def Param.ropeOrder : List Param :=
  [.mwStepUm, .bwStepUm, .slipVmin, .slipLimit, .slipHoldMm, .vMax, .vEmgMargin, .vInspect, .vRestrict, .tensionSpan, .tensionLoLim, .tensionLo, .tensionHi, .tensionHiLim]

/-- An on/off parameter is on. -/
def Params.autoStoreOn (p : Params) : Bool := p.autoStore == 1

/-- HK_WINDOW is on (R178). -/
def Params.hkWindowOn (p : Params) : Bool := p.hkWindow == 1

end Sys2Proof
end

