-- ==== Sys2Proof/Machine/State.lean ====
section
/-! DEFINITION. The state of the SV-410 as plain data, block by block (Table 1-1), its values after a reset, and the
two kinds of reason for which a step could stop. -/

namespace Sys2Proof.Machine

/-! ### Names -/

/-- The mode of the part; OFF while it is held in reset (R180). -/
inductive Mode where
  | off | start | service | run
  deriving DecidableEq, Repr

/-- Why the part was last reset (R195). -/
inductive ResetCause where
  | powerOn | pin | hostRequest | profileRestore
  deriving DecidableEq, Repr

/-- The effective demand, and the category of a cause (R171, Table 10-1). -/
inductive Demand where
  | none | warn | hold | service | emergency
  deriving DecidableEq, Repr

/-- The causes, in the order of their numbers 1..46 (Table 10-2). -/
inductive Cause where
  | overspeedHigh
  | tensionLimit
  | ropeDerail
  | summitStopEmg
  | gateUnsafe
  | switchUnsafe
  | hostStopEmg
  | overspeed
  | slip
  | tensionRange
  | ropePosition
  | linkLost
  | summitStopSvc
  | summitNotReady
  | stationSequence
  | stationStall
  | stationFull
  | storageFull
  | releaseStuck
  | driveFault
  | gripFail
  | gripSensor
  | doorNotLockedStop
  | launchStuck
  | overdueUp
  | overdueDown
  | phantomArrival
  | identityConflict
  | hostSilent
  | hostStopSvc
  | unidentifiedAtGate
  | doorNotLocked
  | gripNotPassed
  | linkBacklog
  | hostHold
  | arrivalOrder
  | reader
  | summitOrder
  | early
  | lineRecordConflict
  | lineRecordBad
  | lineOverrun
  | censusMismatch
  | doorOpenFail
  | doorCloseFail
  | towerSilent
  deriving DecidableEq, Repr

/-- The detail a cause is reported with: absent, or a cabin, a tower number or a drive channel (R169). -/
inductive Detail where
  | absent
  | cabin (c : Cabin)
  | tower (n : Nat)
  | channel (ch : Channel)
  deriving DecidableEq, Repr

/-- The direction of rope travel (R21). -/
inductive Direction where
  | forward | reverse
  deriving DecidableEq, Repr

/-- Where a cabin is held (R2). -/
inductive Location where
  | unplaced | storage | station | upLine | summit | downLine | withdrawn | lost
  deriving DecidableEq, Repr

/-- The door condition of a cabin (R3). -/
inductive DoorState where
  | unknown | opened | closed | locked
  deriving DecidableEq, Repr

/-- The outcome of a grip test (R86). -/
inductive GripResult where
  | none | pass | fail
  deriving DecidableEq, Repr

/-- The two ways an arrival can be routed (R51). -/
inductive Route where
  | line | store
  deriving DecidableEq, Repr

/-- Position and motion of a drive channel (R63). -/
inductive DriveState where
  | atA | atB | toA | toB | blocked | unknown | fault
  deriving DecidableEq, Repr

/-- Why a DRIVE_EVENT notice is sent (R82). -/
inductive DriveReason where
  | completed | timeout | obstruction | reversal | endLost | bothEnds | foundEnd
  deriving DecidableEq, Repr

/-- The ten inputs the Station Track Unit filters (R39). -/
inductive StationInput where
  | arr | opn | cls | lck | grp | gat | att | sti | stm | lckOk
  deriving DecidableEq, Repr

/-- The sync states of the receiver (section 7.2). -/
inductive SyncState where
  | hunt | confirm | locked
  deriving DecidableEq, Repr

/-- The state of a tower entry (R134). -/
inductive TowerState where
  | unknown | centre | inboard | outboard | derailed | sensorFault
  deriving DecidableEq, Repr

/-- The kinds of line record (Table 8-1). -/
inductive RecordKind where
  | launched | arrived | departed | censusRequest | census | text
  deriving DecidableEq, Repr

/-- Who queued a record of the transmit queue (R144). -/
inductive Origin where
  | host | part
  deriving DecidableEq, Repr

/-- The stage of a call (Table 9-3). -/
inductive CallState where
  | idle | seizing | ringback | ringing | connected | clearing
  deriving DecidableEq, Repr

/-- Which terminal placed a call (Table 9-3). -/
inductive CallOrigin where
  | outgoing | incoming
  deriving DecidableEq, Repr

/-- The five defined call codes (chapter 9). -/
inductive CallCode where
  | idle | seize | alert | answer | clear
  deriving DecidableEq, Repr

/-- The kinds of call timer (R161). -/
inductive TimerKind where
  | seize | ring | guard
  deriving DecidableEq, Repr

/-- The reason of a call channel's change of state (Table 9-5). -/
inductive CallReason where
  | placed | incoming | alerted | glare | answered | noResponse | noAnswer | localClear | farClear | cleared | linkLost
  deriving DecidableEq, Repr

/-- The fifteen sources of a tally counter (Tables 11-2 and 11-3). -/
inductive TallySource where
  | launch | valleyArrival | doorReversal | gripFail | badCycle | recordRx | recordTx | readerMiss | passage
  | stationOccupancy | gateQueue | rxStoreFill | uplineCount | slipAbs | speedDm
  deriving DecidableEq, Repr

/-- The profile status (R196). -/
inductive ProfileStatus where
  | valid | modified | invalid
  deriving DecidableEq, Repr

/-- The status of a reply (Table 12-1). -/
inductive Status where
  | ok | unknownKind | badLength | badValue | wrongMode | wrongState | busy | full | notFound | stillActive
  | inconsistent | worn | refused
  deriving DecidableEq, Repr

/-- The event of a CABIN_EVENT notice (Table 13-1). -/
inductive CabinEvent where
  | due | found | launched | untracked
  deriving DecidableEq, Repr

/-- How a census wait ended (R115). -/
inductive CensusOutcome where
  | received | expired | abandoned
  deriving DecidableEq, Repr

/-- The phases of a door task (sections 4.5 and 4.6); a pause keeps its start. -/
inductive TaskPhase where
  | opening
  | closing
  | reversing
  | pause (start : Word32)
  | returning
  deriving DecidableEq, Repr

/-! ### Pins -/

/-- The raw levels of the ten station inputs. -/
structure PerInput (α : Type) where
  arr   : α
  opn   : α
  cls   : α
  lck   : α
  grp   : α
  gat   : α
  att   : α
  sti   : α
  stm   : α
  lckOk : α
  deriving DecidableEq, Repr

/-- A pair of end inputs of a drive channel. -/
structure EndLevels where
  a : Bool
  b : Bool
  deriving DecidableEq, Repr

/-- The raw levels of the input pins (Table 1-3). The world outside sets them; no command changes them. The bits of
LINE_RX come with the commands of its cycles; `lineSilent` says that it carries no transitions now (R126). -/
structure Pins where
  profileRestore : Bool
  bwA            : Bool
  bwB            : Bool
  mwP            : Bool
  station        : PerInput Bool
  cid            : BitVec 7
  cidStb         : Bool
  analog         : Vector Sample 7
  ends           : PerChannel EndLevels
  vp1            : Voice
  vp2            : Voice
  lineSilent     : Bool
  deriving DecidableEq, Repr

/-! ### Time -/

/-- The two clocks of the part and the phases of what it does at fixed intervals. -/
structure Clock where
  /-- The capture timebase in microseconds (R24). -/
  timebase   : Word32
  /-- The microsecond within the present millisecond, 0..999. -/
  micro      : Nat
  /-- MS_TIME (Table 1-2). -/
  ms         : Word32
  /-- The microsecond within the present own line cycle and voice frame, 0..124 (R121, R165). -/
  cyclePhase : Nat
  /-- The microsecond within the present rotation of the analog scan, 0..499 (R32). -/
  scanPhase  : Nat
  deriving DecidableEq, Repr

/-- A filtered input: its level and the count of consecutive samples that differ from it (R39, R64). -/
structure Filter where
  level : Bool
  count : Nat
  deriving DecidableEq, Repr

/-! ### Rope Measurement Unit and Analog Scan -/

/-- One source of the rope measurement: its period window, oldest first, its timing state (OPEN with the kept capture
time, or CLOSED), and its speed with the OVERRANGE flag (R24 to R26). -/
structure Source where
  window    : List Nat
  kept      : Option Word32
  speed     : Nat
  overrange : Bool
  deriving DecidableEq, Repr

/-- The Rope Measurement Unit (R19 to R36). The conditions it reports are the active fields of the cause table. -/
structure Rmu where
  rd        : Word32
  rem       : Nat
  direction : Direction
  mw        : Source
  bw        : Source
  slip      : Int
  slipStart : Option Word32
  jumps     : Nat
  /-- The reference level of MW_P (R19). -/
  mwRef     : Bool
  /-- The reference pair of BW_A and BW_B (R20). -/
  bwRefA    : Bool
  bwRefB    : Bool
  /-- The tension window, oldest first (R33). -/
  tension   : List Nat
  deriving DecidableEq, Repr

/-! ### Cabins and lists -/

/-- One record of the cabin table (Table 1-5); the line stamps stand in the line lists' entries (R6). -/
structure CabinRecord where
  registered : Bool
  location   : Location
  door       : DoorState
  grip       : GripResult
  force      : Nat
  launches   : Nat
  due        : Bool
  retire     : Bool
  deriving DecidableEq, Repr

/-- Who a station entry stands for: a cabin, or an unidentified one with its own grip result and force (R7). -/
inductive Occupant where
  | cabin (c : Cabin)
  | unidentified (grip : GripResult) (force : Nat)
  deriving DecidableEq, Repr

/-- An entry of the station list (R7). `id` is the model's own: it tells entries apart, so that a door task, a grip
window or a launch can follow the entry it was started for (R72, R84, R94). -/
structure StationEntry where
  id      : Nat
  who     : Occupant
  segment : Segment
  entryRd : Word32
  atGate  : Bool
  deriving DecidableEq, Repr

/-- An entry of the up-line, summit or down-line list, with its stamp (R6, R8). -/
structure LineEntry where
  cabin : Cabin
  stamp : Word32
  deriving DecidableEq, Repr

/-- The five ordered lists, head first, each with its change count (R7, R8). -/
structure Lists where
  station       : List StationEntry
  storage       : List Cabin
  upLine        : List LineEntry
  summit        : List LineEntry
  downLine      : List LineEntry
  stationCount  : Word16
  storageCount  : Word16
  upLineCount   : Word16
  summitCount   : Word16
  downLineCount : Word16
  deriving DecidableEq, Repr

/-! ### Station Track Unit -/

/-- The contents of the identity reader latch (R48). -/
structure Latch where
  code : BitVec 7
  rd   : Word32
  deriving DecidableEq, Repr

/-- A release from storage in flight: in phase OPENING while there is no completion RD, in phase WAITING from then on
(R57, R58). -/
structure Release where
  cabin      : Cabin
  completion : Option Word32
  deriving DecidableEq, Repr

/-- The Station Track Unit, less the lists (R39 to R62). `nextId` numbers station entries for the model. -/
structure Stu where
  inputs       : PerInput Filter
  /-- The last level of CID_STB, of which a rising edge latches the code (R48). -/
  strobe       : Bool
  latch        : Option Latch
  lastArr      : Option Word32
  wanted       : Option Route
  throwPending : Bool
  release      : Option Release
  nextId       : Nat
  deriving DecidableEq, Repr

/-! ### Drive Unit -/

/-- A door task: the entry it was started for, that entry's cabin or none when unidentified, its phase, and for the
closer the reach reference (R72, R74). -/
structure DoorTask where
  entry : Nat
  cabin : Option Cabin
  phase : TaskPhase
  reach : Word32
  deriving DecidableEq, Repr

/-- The record of a drive channel (Table 4-2). The outputs PWM and DIR follow its state (R66). -/
structure DriveChannel where
  state       : DriveState
  endA        : Filter
  endB        : Filter
  strokeStart : Option Word32
  run         : Nat
  peak        : Nat
  latest      : Nat
  retry       : Nat
  task        : Option DoorTask
  deriving DecidableEq, Repr

/-! ### Launch Unit -/

/-- The open grip window (R84): its entry, that entry's cabin or none, its open RD and its peak. -/
structure GripWindow where
  entry  : Nat
  cabin  : Option Cabin
  openRd : Word32
  peak   : Nat
  deriving DecidableEq, Repr

/-- The force and result of a closed window (R101). -/
structure GripOutcome where
  force  : Nat
  result : GripResult
  deriving DecidableEq, Repr

/-- The launch-in-flight record (R94): phase OPENING until the trailing edge, LEFT from then on. -/
structure Flight where
  entry    : Nat
  cabin    : Cabin
  launchRd : Word32
  spacing  : Nat
  left     : Bool
  stuck    : Bool
  deriving DecidableEq, Repr

/-- The hold start (R91), with the candidate it was taken for. -/
structure HoldStart where
  entry : Nat
  rd    : Word32
  used  : Bool
  deriving DecidableEq, Repr

/-- The Launch Unit (chapter 5). -/
structure Lnu where
  window     : Option GripWindow
  lastResult : Option GripOutcome
  rdL        : Option Word32
  flight     : Option Flight
  hostHold   : Bool
  hold       : Option HoldStart
  deriving DecidableEq, Repr

/-! ### Line Tracking Unit -/

/-- The census wait: its start, and whether its request has been placed (R114). -/
structure CensusWait where
  start  : Word32
  placed : Bool
  deriving DecidableEq, Repr

/-- The outcome of the last census wait and the time it ended (chapter 6). -/
structure CensusEnd where
  outcome : CensusOutcome
  ms      : Word32
  deriving DecidableEq, Repr

/-- The Line Tracking Unit, less the lists (chapter 6). -/
structure Ltu where
  overUp    : Option Cabin
  overDown  : Option Cabin
  censusDue : Bool
  wait      : Option CensusWait
  lastEnd   : Option CensusEnd
  deriving DecidableEq, Repr

/-! ### Line Link Controller -/

/-- A record as the transmit queue or the priority slot holds it (R142). -/
structure TxRecord where
  kind   : RecordKind
  body   : List Byte
  origin : Origin
  deriving DecidableEq, Repr

/-- The record in progress: whether it comes from the priority slot, and its bytes already sent (R143). -/
structure Progress where
  fromPriority : Bool
  sent         : Nat
  deriving DecidableEq, Repr

/-- The record being assembled in the receive store (R149). -/
structure Assembly where
  bytes   : List Byte
  damaged : Bool
  tooLong : Bool
  deriving DecidableEq, Repr

/-- An entry of the tower table (R134). -/
structure TowerEntry where
  state    : TowerState
  age      : Nat
  run      : Nat
  changeRd : Option Word32
  deriving DecidableEq, Repr

/-- The receiver side of the Line Link Controller (sections 7.2 to 7.4). -/
structure LinkRx where
  sync         : SyncState
  confirm      : Nat
  expected     : Option (BitVec 4)
  badRun       : Nat
  badTotal     : Nat
  relocks      : Nat
  outOfLock    : Option Word32
  /-- The held far control word (R131). -/
  held         : Option Word16
  /-- The bits received and not yet done with, oldest first: in HUNT those still to be searched, otherwise those since
  the cycle boundary (R124 to R127). -/
  bits         : List RxBit
  /-- The capture time of the cycle boundary, from which the nominal 125 µs of a silent line run (R126). -/
  boundary     : Word32
  deriving DecidableEq, Repr

/-- The record channel (chapter 8). `reserved` says whether a LAUNCHED reservation is held. -/
structure RecordChannel where
  queue     : List TxRecord
  priority  : Option TxRecord
  progress  : Option Progress
  reserved  : Bool
  assembly  : Option Assembly
  texts     : List (List Byte)
  ownPause  : Bool
  sent      : Nat
  received  : Nat
  discarded : Nat
  dropped   : Nat
  deriving DecidableEq, Repr

/-- The tower table and its counts (section 7.5). -/
structure TowerTable where
  entries      : List TowerEntry
  outOfRange   : Nat
  invalidState : Nat
  deriving DecidableEq, Repr

/-- The Line Link Controller (chapters 7 and 8): the number of the next own cycle, the cycle being sent, and its
parts. -/
structure Lkc where
  ownNext : BitVec 4
  txCycle : LineCycle
  rx      : LinkRx
  chan    : RecordChannel
  towers  : TowerTable
  deriving DecidableEq, Repr

/-! ### Phone Unit -/

/-- A call timer (R161). -/
structure CallTimer where
  kind  : TimerKind
  start : Word32
  deriving DecidableEq, Repr

/-- A call channel record (Table 9-3), with the latest sample of its voice port (R165) and the sample last presented
to the port (R166). The sent code and the ring output follow the state (Table 9-4). -/
structure CallRecord where
  state     : CallState
  origin    : Option CallOrigin
  timer     : Option CallTimer
  farCode   : CallCode
  held      : Voice
  holdCount : Nat
  output    : Voice
  last      : Option CallReason
  undefined : Nat
  portIn    : Voice
  portOut   : Voice
  deriving DecidableEq, Repr

/-- The Phone Unit (chapter 9). -/
structure Phn where
  a : CallRecord
  b : CallRecord
  deriving DecidableEq, Repr

/-! ### Stop Supervisor -/

/-- The stop lines (R172). -/
structure StopLines where
  permit : Bool
  sstop  : Bool
  estop  : Bool
  deriving DecidableEq, Repr

/-- The stamps an entry takes when it stops being clear (R169). -/
structure FirstStamps where
  rd     : Word32
  ms     : Word32
  detail : Detail
  deriving DecidableEq, Repr

/-- An entry of the cause table (R169). -/
structure CauseEntry where
  active  : Bool
  latched : Bool
  count   : Nat
  first   : Option FirstStamps
  last    : Detail
  deriving DecidableEq, Repr

/-- The deadline reference of host supervision; `entry` marks the allowance of 2,000 ms given at the entry into
SERVICE, otherwise the allowance is HK_PERIOD (R178). -/
structure Deadline where
  ref   : Word32
  entry : Bool
  deriving DecidableEq, Repr

/-- The Stop Supervisor (chapter 10). -/
structure Ssv where
  causes     : Vector CauseEntry 46
  demand     : Demand
  mode       : Mode
  restricted : Bool
  lines      : StopLines
  lastKeep   : Option Word32
  deadline   : Option Deadline
  deriving DecidableEq, Repr

/-! ### Tally Unit -/

/-- A counter record (Table 11-1). -/
structure Counter where
  enable    : Bool
  source    : TallySource
  threshold : Nat
  invert    : Bool
  edge      : Bool
  notify    : Bool
  member    : Bool
  trigger   : Bool
  value     : Word32
  overflow  : Bool
  last      : Bool
  deriving DecidableEq, Repr

/-- The Tally Unit (chapter 11). -/
structure Tal where
  counters : Vector Counter 8
  frozen   : Bool
  deriving DecidableEq, Repr

/-! ### Station Port -/

/-- A notice as its block forms it (Table 12-4). -/
inductive Notice where
  | started (cause : ResetCause) (status : ProfileStatus) (writes : Nat)
  | modeChanged (mode : Mode) (restricted : Bool) (lines : StopLines)
  | demandChanged (new old : Demand) (lines : StopLines)
  | causeRaised (c : Cause) (d : Detail) (count : Nat) (rd : Word32)
  | cabinEvent (e : CabinEvent) (c : Cabin)
  | driveEvent (ch : Channel) (state : DriveState) (reason : DriveReason) (peak retry : Nat)
  | linkState (sync : SyncState) (lost : Bool) (relocks : Nat)
  | lineTextReady (len held : Nat)
  | callEvent (ch : CallChannel) (state : CallState) (origin : Option CallOrigin) (reason : CallReason)
  | tallyOverflow (k : CounterIx) (source : TallySource) (value : Word32) (frozen : Bool)
  deriving DecidableEq, Repr

/-- A waiting notice, stamped with the MS_TIME of its event (R193). -/
structure QueuedNotice where
  ms     : Word32
  notice : Notice
  deriving DecidableEq, Repr

/-- A reply: its kind, the request's tag, its status and its data (R192). `resets` marks the reply of RESET_PART,
after whose last byte the part enters reset (R195). -/
structure Reply where
  kind   : Byte
  tag    : Byte
  status : Status
  data   : List Byte
  resets : Bool
  deriving DecidableEq, Repr

/-- An entry of the reply queue: a reply, or the place held for the reply of a commit in flight (R193). -/
inductive ReplyEntry where
  | ready (r : Reply)
  | held (tag : Byte)
  deriving DecidableEq, Repr

/-- The frame on SP_TX: its bytes, whether it is the reply of RESET_PART, and the time its rest takes, in seventy-
seconds of a microsecond; 0 when its last byte has been sent (R193, chapter 12). -/
structure TxFrame where
  bytes     : List Byte
  resets    : Bool
  remaining : Nat
  deriving DecidableEq, Repr

/-- The receiver of the Station Port: hunting, or assembling a frame with the bytes taken after its start byte
(R191). -/
inductive RxState where
  | hunting
  | assembling (bytes : List Byte)
  deriving DecidableEq, Repr

/-- The Station Port (sections 12.1 to 12.3). -/
structure Spt where
  rx          : RxState
  /-- The receiver has been stopped by RESET_PART (R195). -/
  stopped     : Bool
  replies     : List ReplyEntry
  notices     : List QueuedNotice
  lost        : Bool
  badFrames   : Nat
  dropRequest : Nat
  dropNotice  : Nat
  tx          : Option TxFrame
  deriving DecidableEq, Repr

/-! ### Profile Store -/

/-- The stored profile: a good copy, a copy whose write was cut off and whose check fails, or a copy whose read-back
differed; what the last two hold is free (R199, R201). -/
inductive StoredCopy where
  | good (p : Profile)
  | torn (n : Nat)
  | worn (n : Nat)
  deriving DecidableEq, Repr

/-- A commit in flight: the contents fixed at its acceptance, and the tag of the reply it holds a place for, absent
for the commit of a PROFILE_RESTORE start (R198, R201). -/
structure Commit where
  contents : Profile
  tag      : Option Byte
  deriving DecidableEq, Repr

/-- The Profile Store (sections 12.5 to 12.7). The working profile is the working parameters, the registrations, which
stand in the cabin table, and the launch count of each registered cabin as last loaded or committed (R196); the launch
counts in use stand in the cabin table. -/
structure Pfs where
  working : Params
  /-- The launch counts of the working profile as last loaded or committed; absent for a number that is unregistered or
  newly registered (R196; log entry 48). -/
  counts  : Vector (Option Nat) 96
  status  : ProfileStatus
  writes  : Nat
  stored  : StoredCopy
  commit  : Option Commit
  deriving DecidableEq, Repr

/-! ### The part -/

/-- The whole state of the part, and the queue of the commands that wait for it. -/
structure State where
  pins       : Pins
  clock      : Clock
  /-- The supply is up (R195). -/
  supply     : Bool
  /-- The reset cause of the last start, or of the reset under way (R195). -/
  resetCause : ResetCause
  /-- The profile has been loaded since the last reset (R201). -/
  loaded     : Bool
  rmu        : Rmu
  /-- The latest sample of each analog channel AN0..AN6 (R32). -/
  asc        : Vector Sample 7
  cabins     : Vector CabinRecord 96
  lists      : Lists
  stu        : Stu
  dru        : PerChannel DriveChannel
  lnu        : Lnu
  ltu        : Ltu
  lkc        : Lkc
  phn        : Phn
  ssv        : Ssv
  tal        : Tal
  spt        : Spt
  pfs        : Pfs
  /-- The model's own: numbers the stored copies whose contents are free values. -/
  free       : Nat
  pending    : List Instr
  deriving DecidableEq, Repr

/-- The reasons for a fault. There are none: the manual gives every event of the part an effect, so no meaning
answers a fault. -/
inductive Fault where
  deriving DecidableEq, Repr

/-- The reasons for a refusal. -/
inductive Refusal where
  /-- Raised by exec's arm for a row of the table that has no meaning yet; safe, since nothing can be proved of a step
  that does not take place. No arm answers it now. -/
  | notModelled (mnemonic : String)
  deriving DecidableEq, Repr

/-! ### Values after a reset -/

/-- A source after every reset: stalled, with an empty window and timing CLOSED (R25, R36). -/
def Source.reset : Source := { window := [], kept := none, speed := 0, overrange := false }

/-- The Rope Measurement Unit after every reset (R36). The rule gives the reference levels of MW_P, BW_A and BW_B no
value before the profile has been loaded, and nothing reads them until then: false (DESIGN CHOICE, log entry 4). -/
def Rmu.reset : Rmu :=
  { rd := 0, rem := 0, direction := .forward, mw := Source.reset, bw := Source.reset, slip := 0, slipStart := none,
    jumps := 0, mwRef := false, bwRefA := false, bwRefB := false, tension := [] }

/-- The record of an unregistered number (R1). -/
def CabinRecord.unregistered : CabinRecord :=
  { registered := false, location := .unplaced, door := .unknown, grip := .none, force := 0, launches := 0,
    due := false, retire := false }

/-- The lists after every reset (R9). -/
def Lists.reset : Lists :=
  { station := [], storage := [], upLine := [], summit := [], downLine := [], stationCount := 0, storageCount := 0,
    upLineCount := 0, summitCount := 0, downLineCount := 0 }

/-- A filter at an inactive level with no differing sample. -/
def Filter.reset : Filter := { level := false, count := 0 }

/-- The Station Track Unit after every reset (R62). The rule gives the filtered levels and the kept level of CID_STB no
value before the profile has been loaded, when they are first taken: inactive, with count 0 (DESIGN CHOICE, log entry
4). -/
def Stu.reset : Stu :=
  { inputs := ⟨Filter.reset, Filter.reset, Filter.reset, Filter.reset, Filter.reset, Filter.reset, Filter.reset,
      Filter.reset, Filter.reset, Filter.reset⟩,
    strobe := false, latch := none, lastArr := none, wanted := none, throwPending := false, release := none,
    nextId := 0 }

/-- A drive channel from the reset until the profile has been loaded (R63). -/
def DriveChannel.reset : DriveChannel :=
  { state := .unknown, endA := Filter.reset, endB := Filter.reset, strokeStart := none, run := 0, peak := 0,
    latest := 0, retry := 0, task := none }

/-- The Drive Unit after every reset (R63). -/
def druReset : PerChannel DriveChannel :=
  ⟨DriveChannel.reset, DriveChannel.reset, DriveChannel.reset, DriveChannel.reset, DriveChannel.reset⟩

/-- The Launch Unit after every reset (R102). -/
def Lnu.reset : Lnu :=
  { window := none, lastResult := none, rdL := none, flight := none, hostHold := false, hold := none }

/-- The Line Tracking Unit after every reset (R119). -/
def Ltu.reset : Ltu := { overUp := none, overDown := none, censusDue := true, wait := none, lastEnd := none }

/-- A cycle of zero words: what the model holds before the first own cycle begins. -/
def LineCycle.zero : LineCycle :=
  { sync := 0, control := 0, voiceA := 0, voiceB := 0, msg4 := 0, msg5 := 0, tower := 0, check := 0 }

/-- A tower entry after every reset (R135, R140). -/
def TowerEntry.reset : TowerEntry := { state := .unknown, age := 0, run := 0, changeRd := none }

/-- The record channel after every reset (R155). -/
def RecordChannel.reset : RecordChannel :=
  { queue := [], priority := none, progress := none, reserved := false, assembly := none, texts := [],
    ownPause := false, sent := 0, received := 0, discarded := 0, dropped := 0 }

/-- The Line Link Controller after every reset (R140, R155). -/
def Lkc.reset : Lkc :=
  { ownNext := 0, txCycle := LineCycle.zero,
    rx := { sync := .hunt, confirm := 0, expected := none, badRun := 0, badTotal := 0, relocks := 0,
            outOfLock := none, held := none, bits := [], boundary := 0 },
    chan := RecordChannel.reset,
    towers := { entries := List.replicate Params.default.towerCount TowerEntry.reset, outOfRange := 0,
                invalidState := 0 } }

/-- A call channel after every reset (R156). -/
def CallRecord.reset : CallRecord :=
  { state := .idle, origin := none, timer := none, farCode := .idle, held := 0, holdCount := 0, output := 0,
    last := none, undefined := 0, portIn := 0, portOut := 0 }

/-- A clear entry of the cause table (R184). -/
def CauseEntry.clear : CauseEntry := { active := false, latched := false, count := 0, first := none, last := .absent }

/-- The levels of the stop lines in mode OFF (R172). -/
def StopLines.off : StopLines := { permit := false, sstop := true, estop := true }

/-- The levels of the stop lines at the end of a reset (R184). -/
def StopLines.start : StopLines := { permit := false, sstop := true, estop := false }

/-- The Stop Supervisor while the part is held in reset: clear in every field, mode OFF (R172, R184). -/
def Ssv.held (restricted : Bool) : Ssv :=
  { causes := Vector.replicate 46 CauseEntry.clear, demand := .none, mode := .off, restricted := restricted,
    lines := StopLines.off, lastKeep := none, deadline := none }

/-- A counter after every reset (Table 11-1). -/
def Counter.reset : Counter :=
  { enable := false, source := .launch, threshold := 0, invert := false, edge := false, notify := false,
    member := false, trigger := false, value := 0, overflow := false, last := false }

/-- The Tally Unit after every reset (R185). -/
def Tal.reset : Tal := { counters := Vector.replicate 8 Counter.reset, frozen := false }

/-- The Station Port after every reset (R195). -/
def Spt.reset : Spt :=
  { rx := .hunting, stopped := false, replies := [], notices := [], lost := false, badFrames := 0, dropRequest := 0,
    dropNotice := 0, tx := none }

/-- Both clocks at the end of a reset (Table 1-2, R24). -/
def Clock.reset : Clock := { timebase := 0, micro := 0, ms := 0, cyclePhase := 0, scanPhase := 0 }

/-- Every input low, and LINE_RX without transitions; DESIGN CHOICE (log entry 1): the manual gives input pins no
level. -/
def Pins.low : Pins :=
  { profileRestore := false, bwA := false, bwB := false, mwP := false,
    station := ⟨false, false, false, false, false, false, false, false, false, false⟩,
    cid := 0, cidStb := false, analog := Vector.replicate 7 0,
    ends := ⟨⟨false, false⟩, ⟨false, false⟩, ⟨false, false⟩, ⟨false, false⟩, ⟨false, false⟩⟩, vp1 := 0, vp2 := 0,
    lineSilent := true }

/-- The Profile Store of a part whose stored copy is the default profile; DESIGN CHOICE (log entry 2): the manual does
not say what a part holds before its first commit. -/
def Pfs.delivered : Pfs :=
  { working := Params.default, counts := Vector.replicate 96 none, status := .invalid, writes := 0,
    stored := .good Profile.default, commit := none }

/-- The part at the end of a power-on reset (R184 and the reset rule of each block): mode START, with the profile not
yet loaded. -/
def State.reset : State :=
  { pins := Pins.low, clock := Clock.reset, supply := true, resetCause := .powerOn, loaded := false,
    rmu := Rmu.reset, asc := Vector.replicate 7 0, cabins := Vector.replicate 96 CabinRecord.unregistered,
    lists := Lists.reset, stu := Stu.reset, dru := druReset, lnu := Lnu.reset, ltu := Ltu.reset, lkc := Lkc.reset,
    phn := { a := CallRecord.reset, b := CallRecord.reset },
    ssv := { Ssv.held false with mode := .start, lines := StopLines.start },
    tal := Tal.reset, spt := Spt.reset, pfs := Pfs.delivered, free := 0, pending := [] }

end Sys2Proof.Machine
end

