-- ==== Sys2Proof/Machine/Causes.lean ====
section
/-! DEFINITION. The fixed part of the cause table: number, category and restrict property of each cause (Tables 10-1
and 10-2, R169). -/

namespace Sys2Proof.Machine

/-- The number 1..46 of a cause (Table 10-2). -/
def Cause.number : Cause → Nat
  | .overspeedHigh => 1
  | .tensionLimit => 2
  | .ropeDerail => 3
  | .summitStopEmg => 4
  | .gateUnsafe => 5
  | .switchUnsafe => 6
  | .hostStopEmg => 7
  | .overspeed => 8
  | .slip => 9
  | .tensionRange => 10
  | .ropePosition => 11
  | .linkLost => 12
  | .summitStopSvc => 13
  | .summitNotReady => 14
  | .stationSequence => 15
  | .stationStall => 16
  | .stationFull => 17
  | .storageFull => 18
  | .releaseStuck => 19
  | .driveFault => 20
  | .gripFail => 21
  | .gripSensor => 22
  | .doorNotLockedStop => 23
  | .launchStuck => 24
  | .overdueUp => 25
  | .overdueDown => 26
  | .phantomArrival => 27
  | .identityConflict => 28
  | .hostSilent => 29
  | .hostStopSvc => 30
  | .unidentifiedAtGate => 31
  | .doorNotLocked => 32
  | .gripNotPassed => 33
  | .linkBacklog => 34
  | .hostHold => 35
  | .arrivalOrder => 36
  | .reader => 37
  | .summitOrder => 38
  | .early => 39
  | .lineRecordConflict => 40
  | .lineRecordBad => 41
  | .lineOverrun => 42
  | .censusMismatch => 43
  | .doorOpenFail => 44
  | .doorCloseFail => 45
  | .towerSilent => 46

/-- The place of a cause in the cause table. -/
def Cause.ix : Cause → Fin 46
  | .overspeedHigh => 0
  | .tensionLimit => 1
  | .ropeDerail => 2
  | .summitStopEmg => 3
  | .gateUnsafe => 4
  | .switchUnsafe => 5
  | .hostStopEmg => 6
  | .overspeed => 7
  | .slip => 8
  | .tensionRange => 9
  | .ropePosition => 10
  | .linkLost => 11
  | .summitStopSvc => 12
  | .summitNotReady => 13
  | .stationSequence => 14
  | .stationStall => 15
  | .stationFull => 16
  | .storageFull => 17
  | .releaseStuck => 18
  | .driveFault => 19
  | .gripFail => 20
  | .gripSensor => 21
  | .doorNotLockedStop => 22
  | .launchStuck => 23
  | .overdueUp => 24
  | .overdueDown => 25
  | .phantomArrival => 26
  | .identityConflict => 27
  | .hostSilent => 28
  | .hostStopSvc => 29
  | .unidentifiedAtGate => 30
  | .doorNotLocked => 31
  | .gripNotPassed => 32
  | .linkBacklog => 33
  | .hostHold => 34
  | .arrivalOrder => 35
  | .reader => 36
  | .summitOrder => 37
  | .early => 38
  | .lineRecordConflict => 39
  | .lineRecordBad => 40
  | .lineOverrun => 41
  | .censusMismatch => 42
  | .doorOpenFail => 43
  | .doorCloseFail => 44
  | .towerSilent => 45

/-- Every cause, in the order of the numbers (R169). -/
def Cause.all : List Cause :=
  [.overspeedHigh, .tensionLimit, .ropeDerail, .summitStopEmg, .gateUnsafe,
   .switchUnsafe, .hostStopEmg, .overspeed, .slip, .tensionRange,
   .ropePosition, .linkLost, .summitStopSvc, .summitNotReady, .stationSequence,
   .stationStall, .stationFull, .storageFull, .releaseStuck, .driveFault,
   .gripFail, .gripSensor, .doorNotLockedStop, .launchStuck, .overdueUp,
   .overdueDown, .phantomArrival, .identityConflict, .hostSilent, .hostStopSvc,
   .unidentifiedAtGate, .doorNotLocked, .gripNotPassed, .linkBacklog, .hostHold,
   .arrivalOrder, .reader, .summitOrder, .early, .lineRecordConflict,
   .lineRecordBad, .lineOverrun, .censusMismatch, .doorOpenFail, .doorCloseFail,
   .towerSilent]

/-- The cause of a number, absent outside 1..46 (R173). -/
def Cause.ofNumber : Nat → Option Cause
  | 1 => some .overspeedHigh
  | 2 => some .tensionLimit
  | 3 => some .ropeDerail
  | 4 => some .summitStopEmg
  | 5 => some .gateUnsafe
  | 6 => some .switchUnsafe
  | 7 => some .hostStopEmg
  | 8 => some .overspeed
  | 9 => some .slip
  | 10 => some .tensionRange
  | 11 => some .ropePosition
  | 12 => some .linkLost
  | 13 => some .summitStopSvc
  | 14 => some .summitNotReady
  | 15 => some .stationSequence
  | 16 => some .stationStall
  | 17 => some .stationFull
  | 18 => some .storageFull
  | 19 => some .releaseStuck
  | 20 => some .driveFault
  | 21 => some .gripFail
  | 22 => some .gripSensor
  | 23 => some .doorNotLockedStop
  | 24 => some .launchStuck
  | 25 => some .overdueUp
  | 26 => some .overdueDown
  | 27 => some .phantomArrival
  | 28 => some .identityConflict
  | 29 => some .hostSilent
  | 30 => some .hostStopSvc
  | 31 => some .unidentifiedAtGate
  | 32 => some .doorNotLocked
  | 33 => some .gripNotPassed
  | 34 => some .linkBacklog
  | 35 => some .hostHold
  | 36 => some .arrivalOrder
  | 37 => some .reader
  | 38 => some .summitOrder
  | 39 => some .early
  | 40 => some .lineRecordConflict
  | 41 => some .lineRecordBad
  | 42 => some .lineOverrun
  | 43 => some .censusMismatch
  | 44 => some .doorOpenFail
  | 45 => some .doorCloseFail
  | 46 => some .towerSilent
  | _ => none

/-- The category of a cause, as the demand it stands for (Table 10-2). -/
def Cause.category : Cause → Demand
  | .overspeedHigh => .emergency
  | .tensionLimit => .emergency
  | .ropeDerail => .emergency
  | .summitStopEmg => .emergency
  | .gateUnsafe => .emergency
  | .switchUnsafe => .emergency
  | .hostStopEmg => .emergency
  | .overspeed => .service
  | .slip => .service
  | .tensionRange => .service
  | .ropePosition => .service
  | .linkLost => .service
  | .summitStopSvc => .service
  | .summitNotReady => .service
  | .stationSequence => .service
  | .stationStall => .service
  | .stationFull => .service
  | .storageFull => .service
  | .releaseStuck => .service
  | .driveFault => .service
  | .gripFail => .service
  | .gripSensor => .service
  | .doorNotLockedStop => .service
  | .launchStuck => .service
  | .overdueUp => .service
  | .overdueDown => .service
  | .phantomArrival => .service
  | .identityConflict => .service
  | .hostSilent => .service
  | .hostStopSvc => .service
  | .unidentifiedAtGate => .hold
  | .doorNotLocked => .hold
  | .gripNotPassed => .hold
  | .linkBacklog => .hold
  | .hostHold => .hold
  | .arrivalOrder => .warn
  | .reader => .warn
  | .summitOrder => .warn
  | .early => .warn
  | .lineRecordConflict => .warn
  | .lineRecordBad => .warn
  | .lineOverrun => .warn
  | .censusMismatch => .warn
  | .doorOpenFail => .warn
  | .doorCloseFail => .warn
  | .towerSilent => .warn

/-- A cause latches unless it is of category HOLD (Table 10-1). -/
def Cause.latches (c : Cause) : Bool := c.category != .hold

/-- The restrict property belongs to LINK_LOST and TOWER_SILENT (R169). -/
def Cause.restricts : Cause → Bool
  | .linkLost => true
  | .towerSilent => true
  | _ => false

/-- The rank of a demand: NONE, WARN, HOLD, SERVICE, EMERGENCY in rising order (Table 10-1). -/
def Demand.rank : Demand → Nat
  | .none => 0
  | .warn => 1
  | .hold => 2
  | .service => 3
  | .emergency => 4

/-- The higher of two demands. -/
def Demand.max (x y : Demand) : Demand := if x.rank < y.rank then y else x

end Sys2Proof.Machine
end

