-- ==== Sys2Proof/Machine/Formats.lean ====
section
/-! DEFINITION. Every layout seen from outside: the coding of values, frames, control words, message slots and notices
(chapter 13), and the check word (R122). -/

namespace Sys2Proof.Machine

/-! ### Plain values (R202) -/

/-- A one-byte unsigned value. -/
def u8 (n : Nat) : List Byte := [BitVec.ofNat 8 n]

/-- A two-byte unsigned value, high byte first. -/
def u16 (n : Nat) : List Byte := [BitVec.ofNat 8 (n / 256), BitVec.ofNat 8 n]

/-- A four-byte unsigned value, high byte first. -/
def u32 (n : Nat) : List Byte :=
  [BitVec.ofNat 8 (n / 16777216), BitVec.ofNat 8 (n / 65536), BitVec.ofNat 8 (n / 256), BitVec.ofNat 8 n]

/-- A quantity kept modulo 2^32, in four bytes. -/
def w32 (w : Word32) : List Byte := u32 w.toNat

/-- A signed quantity in four bytes of two's complement. -/
def i32 (z : Int) : List Byte := w32 (BitVec.ofInt 32 z)

/-- A flag. -/
def flag (b : Bool) : List Byte := [if b then 1 else 0]

/-- An optional field other than a cabin, tower or channel: a presence byte, then the field, all its bytes 0 when it is
absent (R202). -/
def opt {α : Type} (size : Nat) (f : α → List Byte) : Option α → List Byte
  | some x => 1 :: f x
  | none => 0 :: List.replicate size 0

/-- A cabin field; 0 when absent. -/
def cabinField : Option Cabin → List Byte
  | some c => u8 (Cabin.number c)
  | none => u8 0

/-! ### Codes of the enumerations (Table 13-1, R202) -/

def Channel.code : Channel → Nat
  | .opener => 1 | .closer => 2 | .switch => 3 | .release => 4 | .gate => 5

def Segment.code : Segment → Nat
  | .opn => 1 | .sti => 2 | .cls => 3 | .lck => 4 | .grp => 5 | .gat => 6 | .att => 7

def Mode.code : Mode → Nat
  | .off => 0 | .start => 0 | .service => 1 | .run => 2

def Demand.code : Demand → Nat
  | .none => 0 | .warn => 1 | .hold => 2 | .service => 3 | .emergency => 4

def Location.code : Location → Nat
  | .unplaced => 0 | .storage => 1 | .station => 2 | .upLine => 3 | .summit => 4 | .downLine => 5 | .withdrawn => 6
  | .lost => 7

def DoorState.code : DoorState → Nat
  | .unknown => 0 | .opened => 1 | .closed => 2 | .locked => 3

def GripResult.code : GripResult → Nat
  | .none => 0 | .pass => 1 | .fail => 2

def DriveState.code : DriveState → Nat
  | .atA => 0 | .atB => 1 | .toA => 2 | .toB => 3 | .blocked => 4 | .unknown => 5 | .fault => 6

def DriveReason.code : DriveReason → Nat
  | .completed => 0 | .timeout => 1 | .obstruction => 2 | .reversal => 3 | .endLost => 4 | .bothEnds => 5
  | .foundEnd => 6

def Route.code : Route → Nat
  | .line => 0 | .store => 1

/-- The direction, in the order in which R21 names the two: no table codes it (DESIGN CHOICE, log entry 22). -/
def Direction.code : Direction → Nat
  | .forward => 0 | .reverse => 1

def CallChannel.code : CallChannel → Nat
  | .a => 0 | .b => 1

def SyncState.code : SyncState → Nat
  | .hunt => 0 | .confirm => 1 | .locked => 2

def TowerState.code : TowerState → Nat
  | .unknown => 0 | .centre => 1 | .inboard => 2 | .outboard => 3 | .derailed => 4 | .sensorFault => 5

/-- The kind codes of the line records (Table 8-1). A reply gives a record's kind by the same code (DESIGN CHOICE, log
entry 22). -/
def RecordKind.code : RecordKind → Nat
  | .launched => 0x11 | .arrived => 0x21 | .departed => 0x22 | .censusRequest => 0x31 | .census => 0x32 | .text => 0x41

def CallState.code : CallState → Nat
  | .idle => 0 | .seizing => 1 | .ringback => 2 | .ringing => 3 | .connected => 4 | .clearing => 5

def CallOrigin.code : CallOrigin → Nat
  | .outgoing => 0 | .incoming => 1

def CallCode.code : CallCode → Nat
  | .idle => 0 | .seize => 1 | .alert => 2 | .answer => 3 | .clear => 4

def TimerKind.code : TimerKind → Nat
  | .seize => 0 | .ring => 1 | .guard => 2

def CallReason.code : CallReason → Nat
  | .placed => 0 | .incoming => 1 | .alerted => 2 | .glare => 3 | .answered => 4 | .noResponse => 5 | .noAnswer => 6
  | .localClear => 7 | .farClear => 8 | .cleared => 9 | .linkLost => 10

def TallySource.code : TallySource → Nat
  | .launch => 0 | .valleyArrival => 1 | .doorReversal => 2 | .gripFail => 3 | .badCycle => 4 | .recordRx => 5
  | .recordTx => 6 | .readerMiss => 7 | .passage => 8 | .stationOccupancy => 9 | .gateQueue => 10 | .rxStoreFill => 11
  | .uplineCount => 12 | .slipAbs => 13 | .speedDm => 14

def ProfileStatus.code : ProfileStatus → Nat
  | .valid => 0 | .modified => 1 | .invalid => 2

def ResetCause.code : ResetCause → Nat
  | .powerOn => 0 | .pin => 1 | .hostRequest => 2 | .profileRestore => 3

def CabinEvent.code : CabinEvent → Nat
  | .due => 0 | .found => 1 | .launched => 2 | .untracked => 3

/-- The outcome of a census wait, in the order in which R115 lists the three: no table codes it (DESIGN CHOICE, log entry
22). -/
def CensusOutcome.code : CensusOutcome → Nat
  | .received => 0 | .expired => 1 | .abandoned => 2

/-- The status codes, in the order of Table 12-1. -/
def Status.code : Status → Nat
  | .ok => 0 | .unknownKind => 1 | .badLength => 2 | .badValue => 3 | .wrongMode => 4 | .wrongState => 5 | .busy => 6
  | .full => 7 | .notFound => 8 | .stillActive => 9 | .inconsistent => 10 | .worn => 11 | .refused => 12

/-- The phases of a door task, in the order of the table of R78 (log entry 22: no table defines the code). -/
def TaskPhase.code : TaskPhase → Nat
  | .opening => 0 | .closing => 1 | .reversing => 2 | .pause _ => 3 | .returning => 4

/-- A cause's detail as one byte (R202). -/
def Detail.code : Detail → Nat
  | .absent => 0
  | .cabin c => Cabin.number c
  | .tower n => n
  | .channel ch => Channel.code ch

/-- The three stop lines in one byte: bit 0 PERMIT, bit 1 SSTOP, bit 2 ESTOP (R202). -/
def StopLines.code (l : StopLines) : Nat :=
  (if l.permit then 1 else 0) + (if l.sstop then 2 else 0) + (if l.estop then 4 else 0)

/-! ### The check word (R122) -/

/-- One bit of the CRC-16 register with the generator polynomial 1021h. -/
def crcShift (c : Word16) : Word16 := if c.msb then (c <<< 1) ^^^ 0x1021#16 else c <<< 1

/-- The CRC-16 over one more byte, high bit first. -/
def crcByte (c : Word16) (b : Byte) : Word16 :=
  let x := c ^^^ (b.setWidth 16 <<< 8)
  crcShift (crcShift (crcShift (crcShift (crcShift (crcShift (crcShift (crcShift x)))))))

/-- The CRC-16 of R122 over a list of bytes, started at FFFFh. -/
def crc16 (bytes : List Byte) : Word16 := bytes.foldl crcByte 0xFFFF#16

/-- The two bytes of a slot, high byte first. -/
def wordBytes (w : Word16) : List Byte := [w.extractLsb' 8 8, w.extractLsb' 0 8]

/-- The check word of a line cycle: the CRC-16 over the twelve bytes of slots 1 to 6 (R122). -/
def cycleCheck (c : LineCycle) : Word16 :=
  crc16 (wordBytes c.control ++ wordBytes c.voiceA ++ wordBytes c.voiceB ++ wordBytes c.msg4 ++ wordBytes c.msg5 ++
    wordBytes c.tower)

/-- The sync word of slot 0 (Table 7-2). -/
def syncWord : Word16 := 0xB4E2#16

/-- The bits of a word, high bit first, each without a code violation (section 7.1). -/
def wordBits (w : Word16) : List RxBit :=
  [15, 14, 13, 12, 11, 10, 9, 8, 7, 6, 5, 4, 3, 2, 1, 0].map fun i => { level := w.getLsbD i, violation := false }

/-- The 128 bits of a line cycle as they are sent: slot 0 first, the high bit of each slot first (section 7.1). -/
def LineCycle.bits (c : LineCycle) : List RxBit :=
  wordBits c.sync ++ wordBits c.control ++ wordBits c.voiceA ++ wordBits c.voiceB ++ wordBits c.msg4 ++
    wordBits c.msg5 ++ wordBits c.tower ++ wordBits c.check

/-- The word that bits spell, high bit first. -/
def wordOfBits (l : List RxBit) : Word16 := l.foldl (fun w b => (w <<< 1) ||| (BitVec.ofBool b.level).setWidth 16) 0

/-- The 16 bits of a slot, taken from the bits of a cycle. -/
def slotOfBits (k : Nat) (l : List RxBit) : Word16 := wordOfBits ((l.drop (16 * k)).take 16)

/-- The first 128 of the bits received, as a cycle (R124 to R126). -/
def RxCycle.ofBits (l : List RxBit) : RxCycle :=
  { slots :=
      { sync := slotOfBits 0 l, control := slotOfBits 1 l, voiceA := slotOfBits 2 l, voiceB := slotOfBits 3 l,
        msg4 := slotOfBits 4 l, msg5 := slotOfBits 5 l, tower := slotOfBits 6 l, check := slotOfBits 7 l },
    violation := (l.take 128).any RxBit.violation }

/-- A cycle taken in CONFIRM or as a candidate is sound: sync word, check and no code violation (R124, R125). -/
def RxCycle.sound (rx : RxCycle) : Bool :=
  rx.slots.sync == syncWord && rx.slots.check == cycleCheck rx.slots && !rx.violation

/-! ### The control word (Table 13-6) -/

/-- A control word from its seven fields. -/
def controlWord (number : BitVec 4) (permit : Bool) (stop : BitVec 2) (pause : Bool) (codeA codeB : BitVec 3)
    (mode : BitVec 2) : Word16 :=
  (number ++ BitVec.ofBool permit ++ stop ++ BitVec.ofBool pause ++ codeA ++ codeB ++ mode : BitVec (4 + 1 + 2 + 1 + 3 + 3 + 2))

/-- Bits 15..12: the cycle number. -/
def ctlNumber (w : Word16) : BitVec 4 := w.extractLsb' 12 4

/-- Bit 11: the run permit. -/
def ctlPermit (w : Word16) : Bool := w.getLsbD 11

/-- Bits 10..9: the stop demand. -/
def ctlStop (w : Word16) : BitVec 2 := w.extractLsb' 9 2

/-- Bit 8: the pause. -/
def ctlPause (w : Word16) : Bool := w.getLsbD 8

/-- Bits 7..5: call code A. -/
def ctlCodeA (w : Word16) : BitVec 3 := w.extractLsb' 5 3

/-- Bits 4..2: call code B. -/
def ctlCodeB (w : Word16) : BitVec 3 := w.extractLsb' 2 3

/-- Bits 1..0: the sender mode. -/
def ctlMode (w : Word16) : BitVec 2 := w.extractLsb' 0 2

/-- The stop demand field a demand is sent as: EMERGENCY, SERVICE, or NONE for HOLD, WARN and NONE (R123). -/
def Demand.stopField : Demand → BitVec 2
  | .emergency => 2
  | .service => 1
  | .hold => 0
  | .warn => 0
  | .none => 0

/-- The defined call code a 3-bit value stands for, absent for the three undefined values (R158). -/
def CallCode.ofField (v : BitVec 3) : Option CallCode :=
  match v.toNat with
  | 0 => some .idle
  | 1 => some .seize
  | 2 => some .alert
  | 3 => some .answer
  | 4 => some .clear
  | _ => none

/-- The call code field of a code. -/
def CallCode.field (c : CallCode) : BitVec 3 := BitVec.ofNat 3 c.code

/-! ### Message slots and tower words (Table 13-7) -/

/-- A message slot that carries a byte. -/
def slotOf (byte : Byte) (last : Bool) : Word16 :=
  (BitVec.ofBool true ++ BitVec.ofBool last ++ (0 : BitVec 6) ++ byte : BitVec (1 + 1 + 6 + 8))

/-- Bit 15: the present flag. -/
def slotPresent (w : Word16) : Bool := w.getLsbD 15

/-- Bit 14: the end-of-record flag. -/
def slotEnd (w : Word16) : Bool := w.getLsbD 14

/-- Bits 7..0: the data byte. -/
def slotByte (w : Word16) : Byte := w.extractLsb' 0 8

/-- Bits 15..10 of a tower word: the tower number. -/
def towerNumber (w : Word16) : Nat := (w.extractLsb' 10 6).toNat

/-- The position state of a tower word, absent for the values 0, 6 and 7. -/
def towerState (w : Word16) : Option TowerState :=
  match (w.extractLsb' 0 3).toNat with
  | 1 => some .centre
  | 2 => some .inboard
  | 3 => some .outboard
  | 4 => some .derailed
  | 5 => some .sensorFault
  | _ => none

/-! ### Line records (R141, R142, R205) -/

/-- The bytes of a held record on the channel: kind code, length byte, body (R141). -/
def TxRecord.channelBytes (r : TxRecord) : List Byte :=
  BitVec.ofNat 8 r.kind.code :: BitVec.ofNat 8 r.body.length :: r.body

/-- The bytes a record occupies in the transmit queue or the priority slot (R142). -/
def TxRecord.heldSize (r : TxRecord) : Nat := 1 + r.body.length

/-- The spacing value of the first launch after a reset (R92). -/
def spacingAbsent : Nat := 16777215

/-- The body of a LAUNCHED record: the cabin, then the spacing in three bytes, high byte first (R205). -/
def launchedBody (c : Cabin) (spacing : Nat) : List Byte :=
  u8 (Cabin.number c) ++ [BitVec.ofNat 8 (spacing / 65536), BitVec.ofNat 8 (spacing / 256), BitVec.ofNat 8 spacing]

/-! ### Frames of the station port (R203) -/

/-- The start byte of a frame. -/
def startByte : Byte := 0xD5#8

/-- A whole frame: start byte, LEN, KIND, TAG, body and check (Table 13-2). -/
def frameBytes (kind tag : Byte) (body : List Byte) : List Byte :=
  let counted := BitVec.ofNat 8 (body.length + 2) :: kind :: tag :: body
  startByte :: counted ++ wordBytes (crc16 counted)

/-- The body of a reply: its status byte and its data. -/
def Reply.body (r : Reply) : List Byte := BitVec.ofNat 8 r.status.code :: r.data

/-- The kind of a notice (Table 12-4). -/
def Notice.kind : Notice → Byte
  | .started .. => 0xC0
  | .modeChanged .. => 0xC1
  | .demandChanged .. => 0xC2
  | .causeRaised .. => 0xC3
  | .cabinEvent .. => 0xC4
  | .driveEvent .. => 0xC5
  | .linkState .. => 0xC6
  | .lineTextReady .. => 0xC7
  | .callEvent .. => 0xC8
  | .tallyOverflow .. => 0xC9

/-- The data of a notice after MS_TIME and the flags byte (Table 13-5). -/
def Notice.data : Notice → List Byte
  | .started cause status writes => u8 cause.code ++ u8 status.code ++ u16 writes
  | .modeChanged mode restricted lines => u8 mode.code ++ flag restricted ++ u8 lines.code
  | .demandChanged new old lines => u8 new.code ++ u8 old.code ++ u8 lines.code
  | .causeRaised c d count rd => u8 c.number ++ u8 c.category.code ++ u8 d.code ++ u8 count ++ w32 rd
  | .cabinEvent e c => u8 e.code ++ u8 (Cabin.number c)
  | .driveEvent ch state reason peak retry =>
      u8 (Channel.code ch) ++ u8 state.code ++ u8 reason.code ++ u16 peak ++ u8 retry
  | .linkState sync lost relocks => u8 sync.code ++ flag lost ++ u16 relocks
  | .lineTextReady len held => u8 len ++ u8 held
  | .callEvent ch state origin reason =>
      u8 (CallChannel.code ch) ++ u8 state.code ++ opt 1 (fun o => u8 (CallOrigin.code o)) origin ++ u8 reason.code
  | .tallyOverflow k source value frozen => u8 (k.val + 1) ++ u8 source.code ++ w32 value ++ flag frozen

/-- The body of a notice as it is sent: MS_TIME of its event, the flags byte with the notice-lost flag in bit 0, its
data (Table 13-2, R193). -/
def QueuedNotice.body (q : QueuedNotice) (lost : Bool) : List Byte := w32 q.ms ++ flag lost ++ q.notice.data

/-- The time a frame takes on SP_TX in seventy-seconds of a microsecond: ten bits a character at 115,200 bit/s
(chapter 12). -/
def wireTime (bytes : List Byte) : Nat := bytes.length * 6250

end Sys2Proof.Machine
end

