-- ==== Sys2Proof/Machine/Flags.lean ====
section
/-! DEFINITION. What the blocks read from the state without changing it: distances, conditions, the launch conditions,
the applied far-end fields, fills and limits. -/

namespace Sys2Proof.Machine

/-! ### Arithmetic -/

/-- A saturating count (section 1.6.1). -/
def satInc (max n : Nat) : Nat := if n < max then n + 1 else n

/-- The distance since a kept RD: the difference modulo 2^32 read as signed (R23). -/
def distance (rd x : Word32) : Int := (rd - x).toInt

/-- The distance since a kept RD at the standing RD (R23). -/
def State.since (s : State) (x : Word32) : Int := distance s.rmu.rd x

/-- The time in ms since a kept MS_TIME, modulo 2^32 (Table 1-2). -/
def State.elapsed (s : State) (x : Word32) : Nat := (s.clock.ms - x).toNat

/-- A result truncated to a stated range (section 1.6.1). -/
def clampInt (lo hi z : Int) : Int := if z < lo then lo else if hi < z then hi else z

/-! ### Causes and stop lines -/

/-- The entry of a cause. -/
def State.cause (s : State) (c : Cause) : CauseEntry := s.ssv.causes[c.ix.val]'c.ix.isLt

/-- The condition of a cause as last reported. -/
def State.active (s : State) (c : Cause) : Bool := (s.cause c).active

/-- An entry is standing while it is active or latched (R169). -/
def CauseEntry.standing (e : CauseEntry) : Bool := e.active || e.latched

/-- The highest category among the standing entries, NONE when every entry is clear (R171). -/
def highestDemand (causes : Vector CauseEntry 46) : Demand :=
  Cause.all.foldl (fun d c => if (causes[c.ix.val]'c.ix.isLt).standing then d.max c.category else d) .none

/-- The levels of the stop lines for a mode and an effective demand (R172). -/
def linesOf (mode : Mode) (demand : Demand) : StopLines :=
  match mode with
  | .off => StopLines.off
  | m =>
    { permit := (m == .run || m == .service) && (demand == .none || demand == .warn || demand == .hold),
      sstop := m == .start || demand == .service || demand == .emergency,
      estop := demand == .emergency }

/-! ### Rope -/

/-- The rope is AT REST while both speeds are 0 (R27). -/
def State.atRest (s : State) : Bool := s.rmu.mw.speed == 0 && s.rmu.bw.speed == 0

/-- The speed limit that the mode and RESTRICTED select (R30). -/
def State.speedLimit (s : State) : Nat :=
  if s.ssv.mode == .service then s.pfs.working.vInspect
  else if s.ssv.restricted then s.pfs.working.vRestrict
  else s.pfs.working.vMax

/-- A speed from its window: floor(step × n × 1000 / S), 0 for an empty window, at most 12,000 with the OVERRANGE flag
(R26). -/
def speedOf (step : Nat) (window : List Nat) : Nat × Bool :=
  if window.isEmpty then (0, false)
  else
    let v := step * window.length * 1000 / window.sum
    if 12000 < v then (12000, true) else (v, false)

/-- SLIP from the two speeds: truncated toward zero, clamped to −999..+999, 0 below SLIP_VMIN (R28). -/
def slipOf (vmin vbw vmw : Nat) : Int :=
  if vbw < vmin then 0
  else clampInt (-999) 999 (Int.tdiv (((vbw : Int) - vmw) * 1000) vbw)

/-- The tension average, absent while the window holds fewer than 16 samples (R33). -/
def Rmu.tensionAverage (r : Rmu) : Option Nat := if r.tension.length < 16 then none else some (r.tension.sum / 16)

/-- The carriage position in mm (R33). -/
def carriageOf (average span : Nat) : Nat := average * span / 4095

/-- The standing carriage position, absent while there is no average (R33). -/
def State.carriage (s : State) : Option Nat :=
  s.rmu.tensionAverage.map fun a => carriageOf a s.pfs.working.tensionSpan

/-- The condition of OVERSPEED_HIGH (R31). -/
def State.overspeedHigh (s : State) : Bool :=
  decide (s.pfs.working.vMax + s.pfs.working.vEmgMargin < s.rmu.mw.speed) || s.rmu.mw.overrange

/-! ### Cabins and lists -/

/-- The record of a cabin. -/
def State.cab (s : State) (c : Cabin) : CabinRecord := s.cabins[c.val]'c.isLt

/-- The cabin of an entry, absent when it is unidentified. -/
def StationEntry.cabin (e : StationEntry) : Option Cabin :=
  match e.who with
  | .cabin c => some c
  | .unidentified _ _ => none

/-- The detail an entry is reported with: its cabin, or none when it is unidentified. -/
def detailOf : Option Cabin → Detail
  | some c => .cabin c
  | none => .absent

/-- The oldest entry of a segment: the one nearest the list head (R7). -/
def State.oldest (s : State) (g : Segment) : Option StationEntry := s.lists.station.find? fun e => e.segment == g

/-- The number of entries in a segment. -/
def State.segmentCount (s : State) (g : Segment) : Nat := s.lists.station.countP fun e => e.segment == g

/-- The segments in the order of their codes. -/
def Segment.all : List Segment := [.opn, .sti, .cls, .lck, .grp, .gat, .att]

/-- The place of a segment along the line track; SEG-STI lies on the branch (chapter 3). -/
def Segment.place : Segment → Nat
  | .sti => 0 | .opn => 1 | .cls => 2 | .lck => 3 | .grp => 4 | .gat => 5 | .att => 6

/-- A segment is the given one or downstream of it on the line track (R42). -/
def Segment.atOrDownstream (g h : Segment) : Bool := g != .sti && decide (Segment.place h ≤ Segment.place g)

/-- The condition of STATION_FULL: some segment holds more entries than its SEG_CAP (R43). -/
def State.stationFull (s : State) : Bool :=
  Segment.all.any fun g => decide (s.pfs.working.segCap.get g < s.segmentCount g)

/-- An entry lies in a segment that has a SEG_LIMIT, beyond that limit (R44). An entry that has been bound counts like
any other by its entry RD, which R60 keeps, although R44 names a binding among the ways in which no entry exceeds its
limit (DEDUCED, log entry 40). -/
def State.stalled (s : State) (e : StationEntry) : Bool :=
  match s.pfs.working.limitOf e.segment with
  | some limit => decide ((limit : Int) < s.since e.entryRd)
  | none => false

/-- The condition of STORAGE_FULL (R56). -/
def State.storageFull (s : State) : Bool := decide (s.pfs.working.storeCap < s.lists.storage.length)

/-- The clearance of the switch: no ARR passage since the reset, or SWITCH_CLEAR run since the last one (R53). -/
def State.clearanceMet (s : State) : Bool :=
  match s.stu.lastArr with
  | none => true
  | some x => decide ((s.pfs.working.switchClear : Int) ≤ s.since x)

/-- The wanted route for the cabin at the head of the down-line list (R52). -/
def State.routeWanted (s : State) : Route :=
  match s.lists.downLine.head? with
  | some e =>
    if (s.cab e.cabin).retire || ((s.cab e.cabin).due && s.pfs.working.autoStoreOn) then .store else .line
  | none => .line

/-- The due flag as it is recomputed: SERVICE_LAUNCHES is not 0 and the count has reached it (R4). -/
def dueOf (p : Params) (launches : Nat) : Bool := p.serviceLaunches != 0 && decide (p.serviceLaunches ≤ launches)

/-! ### Drives -/

/-- The filtered level of an end of a channel. -/
def DriveChannel.endLevel (d : DriveChannel) : End → Bool
  | .a => d.endA.level
  | .b => d.endB.level

/-- The state at rest at an end. -/
def atEnd : End → DriveState
  | .a => .atA
  | .b => .atB

/-- The state driving toward an end. -/
def toEnd : End → DriveState
  | .a => .toA
  | .b => .toB

/-- The channel drives toward one of its ends. -/
def DriveChannel.moving (d : DriveChannel) : Bool := d.state == .toA || d.state == .toB

/-- The output DIR of a channel: high for movement toward END_B, low while the outputs are off (R66). -/
def DriveChannel.dirOut (d : DriveChannel) : Bool := d.state == .toB

/-- The output PWM of a channel in percent: its DUTY during a stroke, 0 while the outputs are off (R66, R83). -/
def State.pwmOut (s : State) (ch : Channel) : Nat :=
  if (s.dru.get ch).moving then s.pfs.working.duty.get ch else 0

/-- The drives are home: every channel AT_A, or AT_B for the SWITCH (R79). -/
def State.drivesHome (s : State) : Bool :=
  s.dru.opener.state == .atA && s.dru.closer.state == .atA && (s.dru.switch.state == .atA || s.dru.switch.state == .atB) &&
    s.dru.release.state == .atA && s.dru.gate.state == .atA

/-- A sample in mA: sample × CUR_SCALE / 4096, truncated (R70). -/
def milliamps (scale : Nat) (n : Sample) : Nat := n.toNat * scale / 4096

/-! ### Record channel -/

/-- The held bytes of all records in the transmit queue (R144). -/
def RecordChannel.occupancy (r : RecordChannel) : Nat := (r.queue.map TxRecord.heldSize).sum

/-- The held bytes of the records of origin HOST (R144). -/
def RecordChannel.hostOccupancy (r : RecordChannel) : Nat :=
  ((r.queue.filter fun t => t.origin == .host).map TxRecord.heldSize).sum

/-- The reserved bytes: 5 while a LAUNCHED reservation is held (R144). -/
def RecordChannel.reservedBytes (r : RecordChannel) : Nat := if r.reserved then 5 else 0

/-- A LAUNCHED record can be reserved (R145). -/
def RecordChannel.canReserve (r : RecordChannel) : Bool := decide (r.occupancy + r.reservedBytes + 5 ≤ 128)

/-- The fill of the receive store: the assembly's bytes and n + 2 for each held text (R142, R149). -/
def RecordChannel.fill (r : RecordChannel) : Nat :=
  (match r.assembly with
    | some a => a.bytes.length
    | none => 0) + (r.texts.map fun t => t.length + 2).sum

/-- The record in progress, absent when there is none (R143). -/
def RecordChannel.inProgress (r : RecordChannel) : Option TxRecord :=
  match r.progress with
  | some p => if p.fromPriority then r.priority else r.queue.head?
  | none => none

/-! ### Launch -/

/-- The candidate: the oldest SEG-GAT entry when it has its at-gate flag (R88). -/
def State.candidate (s : State) : Option StationEntry :=
  match s.oldest .gat with
  | some e => if e.atGate then some e else none
  | none => none

/-- The candidate's cabin, absent without a candidate or when it is unidentified. -/
def State.candidateCabin (s : State) : Option Cabin := s.candidate.bind StationEntry.cabin

/-- Condition 8 of the launch decision (R89, R92). -/
def State.spacingMet (s : State) : Bool :=
  match s.lnu.rdL with
  | none => true
  | some x => decide ((s.pfs.working.spacing : Int) ≤ s.since x)

/-- A test on the record of the candidate's cabin; false without an identified candidate. -/
def State.candidateHas (s : State) (p : CabinRecord → Bool) : Bool :=
  match s.candidateCabin with
  | some c => p (s.cab c)
  | none => false

/-- The eleven conditions of Table 5-2, in order (R89). -/
def State.launchConditions (s : State) : List Bool :=
  [ s.ssv.mode == .run,
    s.ssv.demand == .none || s.ssv.demand == .warn,
    s.rmu.direction == .forward,
    decide (s.pfs.working.launchVmin ≤ s.rmu.mw.speed),
    s.candidateCabin.isSome,
    s.candidateHas fun r => r.door == .locked,
    s.candidateHas fun r => r.grip == .pass,
    s.spacingMet,
    s.lkc.chan.canReserve,
    s.dru.gate.state == .atA,
    s.lnu.flight.isNone ]

/-- The spacing value a LAUNCHED record will carry when its launch is decided now (R92). -/
def State.spacingValue (s : State) : Nat :=
  match s.lnu.rdL with
  | none => spacingAbsent
  | some x => if 16777214 < s.since x then 16777214 else (s.since x).toNat

/-- The five HOLD causes with their conditions and details (Table 5-3). -/
def State.holdConditions (s : State) : List (Cause × Bool × Detail) :=
  let run := s.ssv.mode == .run
  let unknown := match s.candidate with
    | some e => e.cabin.isNone
    | none => false
  let detail := detailOf s.candidateCabin
  [ (.unidentifiedAtGate, run && unknown, .absent),
    (.doorNotLocked, run && s.candidateHas (fun r => r.door != .locked), detail),
    (.gripNotPassed, run && s.candidateHas (fun r => r.grip != .pass), detail),
    (.linkBacklog, run && s.candidate.isSome && s.lnu.flight.isNone && !s.lkc.chan.canReserve, .absent),
    (.hostHold, s.lnu.hostHold, .absent) ]

/-- The grip force of a peak: 0 up to GRIP_ZERO, otherwise (peak − GRIP_ZERO) × GRIP_SCALE / 4096, truncated (R86). -/
def gripForce (p : Params) (peak : Nat) : Nat :=
  if peak ≤ p.gripZero then 0 else (peak - p.gripZero) * p.gripScale / 4096

/-- The grip result of a peak: PASS within GRIP_MIN..GRIP_MAX, and FAIL at full scale whatever the force is (R86). -/
def gripResult (p : Params) (peak : Nat) : GripResult :=
  if peak == 4095 then .fail
  else if p.gripMin ≤ gripForce p peak ∧ gripForce p peak ≤ p.gripMax then .pass
  else .fail

/-! ### Line -/

/-- The up-line check is running: the receiver is LOCKED and no census wait is present (R108). -/
def State.upCheckRunning (s : State) : Bool := s.lkc.rx.sync == .locked && s.ltu.wait.isNone

/-- The early bound LINE_LEN − ARR_TOL, as a signed number (R105). -/
def State.earlyBound (s : State) : Int := (s.pfs.working.lineLen : Int) - s.pfs.working.arrTol

/-- The overdue bound LINE_LEN + ARR_TOL (R108, R110). -/
def State.overdueBound (s : State) : Int := (s.pfs.working.lineLen : Int) + s.pfs.working.arrTol

/-! ### Link -/

/-- The applied far-end fields (R131). -/
structure Applied where
  permit : Bool
  stop   : Demand
  pause  : Bool
  codeA  : BitVec 3
  codeB  : BitVec 3
  mode   : Option (BitVec 2)
  deriving DecidableEq, Repr

/-- The applied stop demand of a received field; the unassigned fourth value is taken as EMERGENCY (R131). -/
def stopOfField (v : BitVec 2) : Demand :=
  match v.toNat with
  | 0 => .none
  | 1 => .service
  | _ => .emergency

/-- The substitute values while no held word applies (R131). -/
def Applied.substitute : Applied :=
  { permit := false, stop := .none, pause := false, codeA := 0, codeB := 0, mode := none }

/-- The applied far-end fields from a held word and the LINK_LOST condition (R131). -/
def appliedOf (held : Option Word16) (lost : Bool) : Applied :=
  match held with
  | none => Applied.substitute
  | some w =>
    if lost then Applied.substitute
    else
      { permit := ctlPermit w, stop := stopOfField (ctlStop w), pause := ctlPause w, codeA := ctlCodeA w,
        codeB := ctlCodeB w, mode := some (ctlMode w) }

/-- The applied far-end fields as they stand (R131). -/
def State.applied (s : State) : Applied := appliedOf s.lkc.rx.held (s.active .linkLost)

/-- The code a call channel sends in a state (Table 9-4, R157). -/
def CallState.sentCode : CallState → CallCode
  | .idle => .idle
  | .seizing => .seize
  | .ringback => .seize
  | .ringing => .alert
  | .connected => .answer
  | .clearing => .clear

/-- The ring output is on exactly while the channel is in RINGING (R160). -/
def CallRecord.ring (r : CallRecord) : Bool := r.state == .ringing

/-- The record of a call channel. -/
def State.call (s : State) : CallChannel → CallRecord
  | .a => s.phn.a
  | .b => s.phn.b

/-- An entry counts toward ROPE_POSITION (R136). -/
def TowerEntry.offCentre (dwell : Nat) (e : TowerEntry) : Bool :=
  (e.state == .inboard || e.state == .outboard) && decide (dwell ≤ e.run)

/-- An entry counts toward ROPE_DERAIL (R136). -/
def TowerEntry.derailed (e : TowerEntry) : Bool := e.state == .derailed && decide (2 ≤ e.run)

/-- An entry counts toward TOWER_SILENT (R136). -/
def TowerEntry.silent (e : TowerEntry) : Bool := e.state == .sensorFault

/-- The detail of a tower cause: the lowest-numbered tower whose entry meets the condition (R136). -/
def towerDetail (entries : List TowerEntry) (p : TowerEntry → Bool) : Detail :=
  match entries.findIdx? p with
  | some i => .tower (i + 1)
  | none => .absent

/-! ### Tally -/

/-- A counter counts when it is enabled and not held by the freeze (R185). -/
def Counter.counts (frozen : Bool) (k : Counter) : Bool := k.enable && !(k.member && frozen)

/-- The quantity a level source samples, absent for an event source (Table 11-3). -/
def State.levelOf (s : State) : TallySource → Option Nat
  | .stationOccupancy => some s.lists.station.length
  | .gateQueue => some (s.segmentCount .gat)
  | .rxStoreFill => some s.lkc.chan.fill
  | .uplineCount => some s.lists.upLine.length
  | .slipAbs => some s.rmu.slip.natAbs
  | .speedDm => some (s.rmu.mw.speed / 100)
  | _ => none

/-! ### Profile -/

/-- The contents of the stored copy; free values where it cannot be read (R196, R199). -/
def StoredCopy.contents : StoredCopy → Profile
  | .good p => p
  | .torn n => Config.freeProfile n
  | .worn n => Config.freeProfile n

/-- The check of the stored copy is good; free where its read-back differed (R199, R201). -/
def StoredCopy.checkGood : StoredCopy → Bool
  | .good _ => true
  | .torn _ => false
  | .worn n => Config.freeCheck n

/-- The registrations and launch counts of the cabin table, as a commit fixes them (R198). -/
def State.registrations (s : State) : Vector (Option Nat) 96 :=
  s.cabins.map fun r => if r.registered then some r.launches else none

end Sys2Proof.Machine
end

