-- ==== Sys2Proof/Machine/Ops.lean ====
section
/-! DEFINITION. The operations that every block shares: notices, cause reports and the effective demand, tally events
and additions, and the moves of the cabin table and the lists. -/

namespace Sys2Proof.Machine

/-- The last step of a meaning: the command has been carried out. -/
abbrev done (s : State) : Host.Outcome State Fault Refusal := .next s

/-- An event that its block takes only once the profile has been loaded (R201). -/
def whenLoaded (f : State → State) (s : State) : State := if s.loaded then f s else s

/-! ### Notices (R193) -/

/-- A notice is formed: it joins the notice queue with the MS_TIME of the event, or is dropped when 16 wait (R193). -/
def notify (n : Notice) (s : State) : State :=
  if s.spt.notices.length < 16 then
    { s with spt := { s.spt with notices := s.spt.notices ++ [{ ms := s.clock.ms, notice := n }] } }
  else
    { s with spt := { s.spt with lost := true, dropNotice := satInc 65535 s.spt.dropNotice } }

/-- The port's receiver takes frames: the part is out of reset, and RESET_PART has not stopped it (R191, R195). -/
def State.listening (s : State) : Bool := s.ssv.mode != .off && !s.spt.stopped

/-! ### Causes (R169 to R172) -/

/-- One entry of the cause table replaced. -/
def putCause (c : Cause) (e : CauseEntry) (s : State) : State :=
  { s with ssv := { s.ssv with causes := s.ssv.causes.set c.ix.val e c.ix.isLt } }

/-- The stop lines are driven from the mode and the effective demand (R172). -/
def driveLines (s : State) : State :=
  { s with ssv := { s.ssv with lines := linesOf s.ssv.mode s.ssv.demand } }

/-- The effective demand takes a value. -/
def putDemand (d : Demand) (s : State) : State := driveLines { s with ssv := { s.ssv with demand := d } }

/-- The effective demand is evaluated; a change of its value drives the lines and sends DEMAND_CHANGED (R171). -/
def evalDemand (s : State) : State :=
  let d := highestDemand s.ssv.causes
  if d = s.ssv.demand then s
  else notify (.demandChanged d s.ssv.demand (linesOf s.ssv.mode d)) (putDemand d s)

/-- What an entry becomes at a report of its cause becoming active (R170). -/
def CauseEntry.raised (c : Cause) (d : Detail) (rd ms : Word32) (e : CauseEntry) : CauseEntry :=
  { active := true, latched := e.latched || c.latches, count := satInc 255 e.count,
    first := if e.standing then e.first else some { rd := rd, ms := ms, detail := d }, last := d }

/-- A cause is reported becoming active: an occurrence, with its CAUSE_RAISED notice (R170), and then the demand with
its DEMAND_CHANGED notice (R171; DESIGN CHOICE for the order of the two, log entry 43). -/
def reportActive (c : Cause) (d : Detail) (s : State) : State :=
  let e := (s.cause c).raised c d s.rmu.rd s.clock.ms
  evalDemand (notify (.causeRaised c d e.count s.rmu.rd) (putCause c e s))

/-- A cause is reported becoming inactive; latched stays (R170). -/
def reportInactive (c : Cause) (s : State) : State :=
  evalDemand (putCause c { s.cause c with active := false } s)

/-- An event cause: reported active and then inactive at one event (R170). -/
def raiseEvent (c : Cause) (d : Detail) (s : State) : State := reportInactive c (reportActive c d s)

/-- A condition cause: reported at each change of its condition (R170). -/
def reportCondition (c : Cause) (now : Bool) (d : Detail) (s : State) : State :=
  if now == s.active c then s
  else if now then reportActive c d s
  else reportInactive c s

/-- A change of the detail of a condition that stays active replaces the last detail alone (R170). -/
def reportDetail (c : Cause) (d : Detail) (s : State) : State :=
  if s.active c then putCause c { s.cause c with last := d } s else s

/-! ### Tally (R186, R188) -/

/-- One counter replaced. -/
def putCounter (k : CounterIx) (r : Counter) (s : State) : State :=
  { s with tal := { s.tal with counters := s.tal.counters.set k.val r k.isLt } }

/-- One counter. -/
def State.counter (s : State) (k : CounterIx) : Counter := s.tal.counters[k.val]'k.isLt

/-- An addition to a counter's value, with the overflow steps in their order (R188). -/
def tallyAdd (k : CounterIx) (a : Nat) (s : State) : State :=
  let r := s.counter k
  let v := r.value + BitVec.ofNat 32 a
  if r.value.toNat + a ≤ 4294967295 then putCounter k { r with value := v } s
  else
    let frozen := s.tal.frozen || r.trigger
    let s := putCounter k { r with value := v, overflow := true } s
    let s := if r.notify then notify (.tallyOverflow k r.source v frozen) s else s
    { s with tal := { s.tal with frozen := frozen } }

/-- One counter meets an event of a source (R186). -/
def tallyOne (src : TallySource) (k : CounterIx) (s : State) : State :=
  if (s.counter k).counts s.tal.frozen && (s.counter k).source == src then tallyAdd k 1 s else s

/-- The counters, in the order of their numbers. -/
def CounterIx.all : List CounterIx := [0, 1, 2, 3, 4, 5, 6, 7]

/-- An event is signalled to the tally unit: every counter that counts and is on its source gains 1 (R186). The
counters are met in the order of their numbers (DESIGN CHOICE, log entry 17). -/
def tallyEvent (src : TallySource) (s : State) : State := CounterIx.all.foldl (fun s k => tallyOne src k s) s

/-! ### The cabin table and the lists -/

/-- One cabin record replaced. -/
def putCab (c : Cabin) (r : CabinRecord) (s : State) : State := { s with cabins := s.cabins.set c.val r c.isLt }

/-- The station list takes new contents; its change count is settled at the end of the event (R8). -/
def putStation (l : List StationEntry) (s : State) : State :=
  { s with lists := { s.lists with station := l } }

/-- The storage list takes new contents; its change count is settled at the end of the event (R8). -/
def putStorage (l : List Cabin) (s : State) : State :=
  { s with lists := { s.lists with storage := l } }

/-- The up-line list takes new contents; its change count is settled at the end of the event (R8). -/
def putUpLine (l : List LineEntry) (s : State) : State :=
  { s with lists := { s.lists with upLine := l } }

/-- The summit list takes new contents; its change count is settled at the end of the event (R8). -/
def putSummit (l : List LineEntry) (s : State) : State :=
  { s with lists := { s.lists with summit := l } }

/-- The down-line list takes new contents; its change count is settled at the end of the event (R8). -/
def putDownLine (l : List LineEntry) (s : State) : State :=
  { s with lists := { s.lists with downLine := l } }

/-- A line list without a cabin; the entries on either side close up (R8). -/
def withoutCabin (c : Cabin) (l : List LineEntry) : List LineEntry := l.filter fun e => e.cabin != c

/-- A cabin leaves the list of its present location, if it has one (R2). -/
def leaveList (c : Cabin) (s : State) : State :=
  match (s.cab c).location with
  | .station => putStation (s.lists.station.filter fun e => e.who != .cabin c) s
  | .storage => putStorage (s.lists.storage.filter fun x => x != c) s
  | .upLine => putUpLine (withoutCabin c s.lists.upLine) s
  | .summit => putSummit (withoutCabin c s.lists.summit) s
  | .downLine => putDownLine (withoutCabin c s.lists.downLine) s
  | .unplaced | .withdrawn | .lost => s

/-- The location field of a cabin takes a value (R2). -/
def putLocation (c : Cabin) (l : Location) (s : State) : State := putCab c { s.cab c with location := l } s

/-- The results of the cabin's pass through the station start afresh (R3). -/
def freshPass (r : CabinRecord) : CabinRecord := { r with door := .unknown, grip := .none, force := 0 }

/-- The line stamp of a cabin: that of its entry in the list, absent elsewhere (R6). -/
def stampIn (l : List LineEntry) (c : Cabin) : Option Word32 := (l.find? fun e => e.cabin == c).map LineEntry.stamp

/-- A station entry with a given id is replaced by its image under `f` (R7). -/
def updateEntry (id : Nat) (f : StationEntry → StationEntry) (s : State) : State :=
  putStation (s.lists.station.map fun e => if e.id == id then f e else e) s

/-- A station entry with a given id leaves the list. -/
def removeEntry (id : Nat) (s : State) : State := putStation (s.lists.station.filter fun e => e.id != id) s

/-- A list with `x` placed directly behind the last element that satisfies `p`, or at the head when there is none
(R42). -/
def insertBehindLast {α : Type} (p : α → Bool) (x : α) : List α → List α
  | [] => [x]
  | y :: ys => if ys.any p then y :: insertBehindLast p x ys else if p y then y :: x :: ys else x :: y :: ys

/-- A new unidentified entry, at the standing RD (R42). -/
def State.newUnknown (s : State) (g : Segment) (atGate : Bool) : StationEntry :=
  { id := s.stu.nextId, who := .unidentified .none 0, segment := g, entryRd := s.rmu.rd, atGate := atGate }

/-- The next entry takes a further number. -/
def takeId (s : State) : State := { s with stu := { s.stu with nextId := s.stu.nextId + 1 } }

/-- An unidentified entry is created in a segment, directly behind the last entry of that segment or of any segment
downstream of it (R42). -/
def createUnknown (g : Segment) (atGate : Bool) (s : State) : State :=
  takeId (putStation (insertBehindLast (fun e => Segment.atOrDownstream e.segment g) (s.newUnknown g atGate) s.lists.station) s)

/-- An entry is appended at the tail of the station list. -/
def appendStation (who : Occupant) (g : Segment) (s : State) : State :=
  takeId (putStation (s.lists.station ++
    [{ id := s.stu.nextId, who := who, segment := g, entryRd := s.rmu.rd, atGate := false }]) s)

/-- A door result is written to a cabin that is identified and located STATION; otherwise it is discarded (R3, R72).
A cabin that was withdrawn while the task ran and stands in STATION again by a new entry meets the location test, and
takes the result: R72 names the location and the withdrawal both, and does not say what decides there (DESIGN CHOICE,
log entry 38). -/
def writeDoor (c : Option Cabin) (f : DoorState → DoorState) (s : State) : State :=
  match c with
  | some c => if (s.cab c).location = .station then putCab c { s.cab c with door := f (s.cab c).door } s else s
  | none => s

end Sys2Proof.Machine
end

