-- ==== Sys2Proof/Machine/Rope.lean ====
section
/-! DEFINITION. The operations of the Rope Measurement Unit and the Analog Scan (chapter 2): period windows, speeds,
slip and its persistence, the speed and tension conditions. -/

namespace Sys2Proof.Machine

/-- A window of at most `n` values, oldest first, with one more at its newest end (R24, R33). -/
def pushWindow (n : Nat) (w : List Nat) (x : Nat) : List Nat :=
  if n ≤ w.length then w.drop 1 ++ [x] else w ++ [x]

/-- A source is timed at a pulse or count: it opens the timing, or records a period, at least 1 (R24). -/
def Source.timed (now : Word32) (r : Source) : Source :=
  match r.kept with
  | none => { r with kept := some now }
  | some k => { r with window := pushWindow 8 r.window (Nat.max 1 (now - k).toNat), kept := some now }

/-- A source has stalled: 65,536 µs have passed since its kept capture time (R25). -/
def Source.stallDue (now : Word32) (r : Source) : Bool :=
  match r.kept with
  | none => false
  | some k => decide (65536 ≤ (now - k).toNat)

/-- The speed of a source is recomputed from its window (R26). -/
def Source.respeed (step : Nat) (r : Source) : Source :=
  { r with speed := (speedOf step r.window).1, overrange := (speedOf step r.window).2 }

/-- A source at its stall: window emptied, timing CLOSED, speed recomputed (R25). -/
def Source.stalled (step : Nat) (r : Source) : Source := { r with window := [], kept := none }.respeed step

/-- The rope position moved by one pulse of `step` µm in a direction (R22). -/
def movePosition (step : Nat) (d : Direction) (rd : Word32) (rem : Nat) : Word32 × Nat :=
  match d with
  | .forward => (rd + BitVec.ofNat 32 ((rem + step) / 1000), (rem + step) % 1000)
  | .reverse =>
    let z : Int := (rem : Int) - step
    (rd + BitVec.ofInt 32 (z / 1000), (z % 1000).toNat)

/-- The sense of a count of one input from a reference pair (Table 2-1). -/
def countSense (a b : Bool) (input : BullInput) : Direction :=
  match input with
  | .bwA => if a == b then .forward else .reverse
  | .bwB => if a == b then .reverse else .forward

/-- SLIP is recomputed from the standing speeds (R28). -/
def Rmu.reslip (p : Params) (r : Rmu) : Rmu := { r with slip := slipOf p.slipVmin r.bw.speed r.mw.speed }

/-- The slip persistence and the SLIP condition, before it is reported (R29). -/
def Rmu.persist (p : Params) (r : Rmu) (cond : Bool) : Rmu × Bool :=
  if r.slip.natAbs ≤ p.slipLimit then ({ r with slipStart := none }, false)
  else
    match r.slipStart with
    | none => ({ r with slipStart := some r.rd }, cond)
    | some x => (r, cond || decide ((p.slipHoldMm : Int) ≤ distance r.rd x))

/-- The Rope Measurement Unit takes a value. -/
def putRmu (r : Rmu) (s : State) : State := { s with rmu := r }

/-- Slip persistence is updated and the SLIP condition reported (R29). -/
def slipPersistence (s : State) : State :=
  let x := s.rmu.persist s.pfs.working (s.active .slip)
  reportCondition .slip x.2 .absent (putRmu x.1 s)

/-- OVERSPEED is evaluated against the limit of mode and RESTRICTED (R30). -/
def overspeedEval (s : State) : State :=
  reportCondition .overspeed (decide (s.speedLimit < s.rmu.mw.speed)) .absent s

/-- OVERSPEED_HIGH is evaluated (R31). -/
def overspeedHighEval (s : State) : State := reportCondition .overspeedHigh s.overspeedHigh .absent s

/-- What follows a recomputation of V_MW: slip, persistence, the two speed conditions (R26). -/
def afterMwSpeed (s : State) : State :=
  overspeedHighEval (overspeedEval (slipPersistence (putRmu (s.rmu.reslip s.pfs.working) s)))

/-- What follows a recomputation of V_BW: slip, persistence (R26). -/
def afterBwSpeed (s : State) : State := slipPersistence (putRmu (s.rmu.reslip s.pfs.working) s)

/-- The stall of the measuring wheel, when it is due (R25, R26). -/
def mwStall (s : State) : State :=
  if s.rmu.mw.stallDue s.clock.timebase then
    afterMwSpeed (putRmu { s.rmu with mw := s.rmu.mw.stalled s.pfs.working.mwStepUm } s)
  else s

/-- The stall of the bullwheel, when it is due (R25, R26). -/
def bwStall (s : State) : State :=
  if s.rmu.bw.stallDue s.clock.timebase then
    afterBwSpeed (putRmu { s.rmu with bw := s.rmu.bw.stalled s.pfs.working.bwStepUm } s)
  else s

/-- The Rope Measurement Unit with its position moved and its period captured at a pulse, V_MW recomputed (R22, R24,
R26). -/
def Rmu.pulse (p : Params) (now : Word32) (r : Rmu) : Rmu :=
  let m := movePosition p.mwStepUm r.direction r.rd r.rem
  { r with rd := m.1, rem := m.2, mw := (r.mw.timed now).respeed p.mwStepUm, mwRef := true }

/-- A measuring-wheel pulse at the Rope Measurement Unit, in the stages of R26; a pulse that comes 65,536 µs or more
after the one before finds the source already stalled (R25). -/
def rmuPulse (s : State) : State :=
  let s := mwStall s
  afterMwSpeed (putRmu (s.rmu.pulse s.pfs.working s.clock.timebase) s)

/-- The reference pair after a count of one input (R20). -/
def Rmu.flip (input : BullInput) (r : Rmu) : Rmu :=
  match input with
  | .bwA => { r with bwRefA := !r.bwRefA }
  | .bwB => { r with bwRefB := !r.bwRefB }

/-- The Rope Measurement Unit with a count taken: a count of the opposite sense changes DIRECTION, empties the window
and opens the timing afresh; a count of the same sense is timed (R21, R24); V_BW is recomputed (R26). -/
def Rmu.count (p : Params) (now : Word32) (input : BullInput) (r : Rmu) : Rmu :=
  let sense := countSense r.bwRefA r.bwRefB input
  let r := r.flip input
  if sense = r.direction then { r with bw := (r.bw.timed now).respeed p.bwStepUm }
  else { r with direction := sense, bw := { r.bw with window := [], kept := some now }.respeed p.bwStepUm }

/-- A bullwheel count at the Rope Measurement Unit (R20, R21, R24 to R26). -/
def rmuCount (input : BullInput) (s : State) : State :=
  let s := bwStall s
  afterBwSpeed (putRmu (s.rmu.count s.pfs.working s.clock.timebase input) s)

/-- The two tension conditions are evaluated from the standing position, if one exists (R34). Where both change at one
event TENSION_RANGE is reported first: R34 gives no order (DESIGN CHOICE, log entry 34). -/
def tensionEval (s : State) : State :=
  match s.carriage with
  | none => s
  | some x =>
    let p := s.pfs.working
    reportCondition .tensionLimit (decide (x < p.tensionLoLim) || decide (p.tensionHiLim < x)) .absent
      (reportCondition .tensionRange (decide (x < p.tensionLo) || decide (p.tensionHi < x)) .absent s)

/-- A conversion replaces the latest sample of its channel (R32). -/
def putSample (k : Fin 7) (n : Sample) (s : State) : State := { s with asc := s.asc.set k.val n k.isLt }

/-- An AN0 sample joins the tension window, and the conditions are evaluated (R33, R34). -/
def tensionSample (n : Sample) (s : State) : State :=
  tensionEval (putRmu { s.rmu with tension := pushWindow 16 s.rmu.tension n.toNat } s)

/-- What the Rope Measurement Unit recomputes at the write of one parameter, before anything is reported (R35). -/
def Rmu.written (p : Params) (q : Param) (x : Rmu × Bool) : Rmu × Bool :=
  match q with
  | .mwStepUm => Rmu.persist p ({ x.1 with mw := x.1.mw.respeed p.mwStepUm }.reslip p) x.2
  | .bwStepUm => Rmu.persist p ({ x.1 with bw := x.1.bw.respeed p.bwStepUm }.reslip p) x.2
  | .slipVmin => Rmu.persist p (x.1.reslip p) x.2
  | .slipLimit | .slipHoldMm => Rmu.persist p x.1 x.2
  | _ => x

/-- The conditions of the Rope Measurement Unit are reported after a write (R35): SLIP, OVERSPEED, OVERSPEED_HIGH,
TENSION_RANGE, TENSION_LIMIT. Where several change at one restore, R35 gives no order of the reports (DESIGN CHOICE, log
entry 39). -/
def ropeReport (x : Rmu × Bool) (s : State) : State :=
  tensionEval (overspeedHighEval (overspeedEval (reportCondition .slip x.2 .absent (putRmu x.1 s))))

/-- The re-evaluation of Table 2-6's parameters at a write of one of them (R35). -/
def ropeWritten (q : Param) (s : State) : State :=
  ropeReport (Rmu.written s.pfs.working q (s.rmu, s.active .slip)) s

/-- The re-evaluation at a restore: as if each parameter of the table were written in turn from the old profile, with
only the state after the last reported (R35). The working profile of `s` already holds the defaults. -/
def ropeRestored (old : Params) (s : State) : State :=
  let step := fun (x : Params × (Rmu × Bool)) (q : Param) =>
    let p := x.1.set q (s.pfs.working.get q)
    (p, Rmu.written p q x.2)
  ropeReport (Param.ropeOrder.foldl step (old, (s.rmu, s.active .slip))).2 s

end Sys2Proof.Machine
end

