-- ==== Sys2Proof/Machine/Drives.lean ====
section
/-! DEFINITION. The operations of the Drive Unit (chapter 4): strokes, commands by channel state, end changes, current
supervision and the door tasks. -/

namespace Sys2Proof.Machine

/-- One drive channel takes a value. -/
def putDrive (ch : Channel) (d : DriveChannel) (s : State) : State := { s with dru := s.dru.put ch d }

/-- A DRIVE_EVENT notice of a channel as it stands (R82). -/
def driveEvent (ch : Channel) (r : DriveReason) (s : State) : State :=
  let d := s.dru.get ch
  notify (.driveEvent ch d.state r d.peak d.retry) s

/-- A stroke toward an end is started (R66). -/
def DriveChannel.started (d : DriveChannel) (e : End) (ms : Word32) : DriveChannel :=
  { d with state := toEnd e, strokeStart := some ms, run := 0, peak := 0 }

/-- A stroke is reversed toward an end; the peak current is kept (R66). -/
def DriveChannel.reversed (d : DriveChannel) (e : End) (ms : Word32) : DriveChannel :=
  { d with state := toEnd e, strokeStart := some ms, run := 0 }

/-- The outputs are switched off in a state at rest; the run count stays 0 there (R67, R71). -/
def DriveChannel.stopped (d : DriveChannel) (x : DriveState) : DriveChannel :=
  { d with state := x, strokeStart := none, run := 0 }

/-- A stroke toward an end is started at a channel. -/
def startStroke (ch : Channel) (e : End) (s : State) : State :=
  putDrive ch ((s.dru.get ch).started e s.clock.ms) s

/-- The door task of a channel takes a value. -/
def putTask (ch : Channel) (t : Option DoorTask) (s : State) : State :=
  putDrive ch { s.dru.get ch with task := t } s

/-- A door task ends as failed: the opener's writes UNKNOWN and raises DOOR_OPEN_FAIL (R73); the closer's raises
DOOR_CLOSE_FAIL and leaves the door state as it was (R76). -/
def failTask (ch : Channel) (t : DoorTask) (s : State) : State :=
  let s := putTask ch none s
  match ch with
  | .opener => raiseEvent .doorOpenFail (detailOf t.cabin) (writeDoor t.cabin (fun _ => .unknown) s)
  | _ => raiseEvent .doorCloseFail (detailOf t.cabin) s

/-- A door task of the opener acts on END_B (R72): the door is open, and the channel returns. -/
def openerAtB (t : DoorTask) (s : State) : State :=
  startStroke .opener .a (putTask .opener (some { t with phase := .returning })
    (writeDoor t.cabin (fun _ => .opened) s))

/-- A door task of the closer acts on END_B (R74): the door is closed unless LOCKED, and the channel returns. -/
def closerAtB (t : DoorTask) (s : State) : State :=
  startStroke .closer .a (putTask .closer (some { t with phase := .returning })
    (writeDoor t.cabin (fun d => if d = .locked then .locked else .closed) s))

/-- A door task of the closer acts on END_A after a reversal (R75). -/
def closerBackAtA (t : DoorTask) (s : State) : State :=
  if s.pfs.working.doorRetries ≤ s.dru.closer.retry then failTask .closer t s
  else putTask .closer (some { t with phase := .pause s.clock.ms }) s

/-- What a reached end means for the block that commanded it: the door tasks (R72, R74, R75) and the release from
storage (R58). -/
def driveReached (ch : Channel) (e : End) (s : State) : State :=
  match ch, e, (s.dru.get ch).task with
  | .opener, .b, some t => if t.phase = .opening then openerAtB t s else s
  | .opener, .a, some t => if t.phase = .returning then putTask .opener none s else s
  | .closer, .b, some t => if t.phase = .closing then closerAtB t s else s
  | .closer, .a, some t =>
    if t.phase = .returning then putTask .closer none s
    else if t.phase = .reversing then closerBackAtA t s
    else s
  | .release, .b, _ =>
    match s.stu.release with
    | some r =>
      if r.completion.isNone then
        { s with stu := { s.stu with release := some { r with completion := some s.rmu.rd } } }
      else s
    | none => s
  | _, _, _ => s

/-- A launch in flight in phase OPENING is abandoned, and its reservation returned (R96). -/
def abandonLaunch (s : State) : State :=
  match s.lnu.flight with
  | some f =>
    if f.left then s
    else
      { s with lnu := { s.lnu with flight := none },
               lkc := { s.lkc with chan := { s.lkc.chan with reserved := false } } }
  | none => s

/-- What a channel's FAULT or BLOCKED means for the block that commanded it (R58, R72 to R77, R96). For both ends active
in phase REVERSING or RETURNING, which R72, R74 and R75 do not list, the model takes what they say of an end lost: the
task fails in REVERSING, and ends with no door cause in RETURNING (DESIGN CHOICE, log entry 41). -/
def driveFailed (ch : Channel) (s : State) : State :=
  match ch with
  | .opener | .closer =>
    match (s.dru.get ch).task with
    | some t =>
      match t.phase with
      | .returning => putTask ch none s
      | .pause _ => s
      | .opening | .closing | .reversing => failTask ch t s
    | none => s
  | .release =>
    match s.stu.release with
    | some r => if r.completion.isNone then { s with stu := { s.stu with release := none } } else s
    | none => s
  | .gate => abandonLaunch s
  | .switch => s

/-- A channel comes to rest at an end that was asked for: state, COMPLETED notice, then the task (R66, R67). -/
def reachEnd (ch : Channel) (e : End) (s : State) : State :=
  driveReached ch e (driveEvent ch .completed (putDrive ch ((s.dru.get ch).stopped (atEnd e)) s))

/-- A channel is stopped in FAULT or BLOCKED: its cause with the channel as detail, the notice, then what the task
makes of it (R68, R69, R71); the order of the three is the model's (DESIGN CHOICE, log entry 43). -/
def failDrive (ch : Channel) (x : DriveState) (c : Cause) (r : DriveReason) (s : State) : State :=
  driveFailed ch (driveEvent ch r (raiseEvent c (.channel ch) (putDrive ch ((s.dru.get ch).stopped x) s)))

/-- A command takes a channel that stands between its ends: at once when the end is already active, otherwise by a
stroke (Table 4-3, row BLOCKED; R80 for FAULT). -/
def commandBlocked (ch : Channel) (e : End) (s : State) : State :=
  if (s.dru.get ch).endLevel e then reachEnd ch e s else startStroke ch e s

/-- A command toward an end, taken by the channel's state (Table 4-3). A CLOSER stroke toward END_B that a DRIVE_TEST
command turns back is no reversal in the sense of Table 11-2 and R82, which both name R75, the rule of obstructions: it
signals no DOOR_REVERSAL and sends no REVERSAL notice (DEDUCED, log entry 47). -/
def commandDrive (ch : Channel) (e : End) (s : State) : State :=
  match (s.dru.get ch).state, e with
  | .atA, .a => s
  | .atA, .b => startStroke ch .b s
  | .atB, .a => startStroke ch .a s
  | .atB, .b => s
  | .toA, .a => s
  | .toA, .b => putDrive ch ((s.dru.get ch).reversed .b s.clock.ms) s
  | .toB, .a => putDrive ch ((s.dru.get ch).reversed .a s.clock.ms) s
  | .toB, .b => s
  | .blocked, e => commandBlocked ch e s
  | .unknown, .a => startStroke ch .a s
  | .unknown, .b => s
  | .fault, _ => s

/-- The command toward END_B of a door task: not taken in FAULT or UNKNOWN, where the task fails; END_B counts as
reached at once in AT_B; otherwise by Table 4-3 (R73, R77, R78). -/
def taskToB (ch : Channel) (t : DoorTask) (s : State) : State :=
  match (s.dru.get ch).state with
  | .fault | .unknown => failTask ch t s
  | .atB => driveReached ch .b s
  | .atA | .toA | .toB | .blocked => commandDrive ch .b s

/-- The old door task of a channel is dealt with before a new one starts (R78). -/
def endOldTask (ch : Channel) (s : State) : State :=
  match (s.dru.get ch).task with
  | none => s
  | some t => if t.phase = .returning then putTask ch none s else failTask ch t s

/-- An OPN command of the station track: an opener door task (R45, R72). -/
def startOpener (entry : Nat) (c : Option Cabin) (s : State) : State :=
  let t : DoorTask := { entry := entry, cabin := c, phase := .opening, reach := s.rmu.rd }
  taskToB .opener t (putTask .opener (some t) (endOldTask .opener s))

/-- A CLS command of the station track: a closer door task with the RD of the passage as its reach reference (R45,
R74). -/
def startCloser (entry : Nat) (c : Option Cabin) (s : State) : State :=
  let t : DoorTask := { entry := entry, cabin := c, phase := .closing, reach := s.rmu.rd }
  let s := endOldTask .closer s
  taskToB .closer t (putDrive .closer { s.dru.closer with task := some t, retry := 0 } s)

/-- Both filtered ends are active: FAULT. A channel in FAULT already stays there and raises nothing further; whether it
still sends a BOTH_ENDS notice R69 does not say, and the model sends none (DESIGN CHOICE, log entry 14). -/
def bothEnds (ch : Channel) (s : State) : State :=
  if (s.dru.get ch).state = .fault then s else failDrive ch .fault .driveFault .bothEnds s

/-- The cause of an end lost at rest: GATE_UNSAFE for the GATE in AT_A, otherwise DRIVE_FAULT (R69). -/
def endLostCause : Channel → DriveState → Cause
  | .gate, .atA => .gateUnsafe
  | _, _ => .driveFault

/-- A change of one filtered end that leaves the two not both active (R67, R69). -/
def endMoved (ch : Channel) (e : End) (level : Bool) (s : State) : State :=
  let d := s.dru.get ch
  match d.state with
  | .atA | .atB =>
    if d.state = atEnd e && !level then failDrive ch .fault (endLostCause ch d.state) .endLost s else s
  | .toA | .toB => if d.state = toEnd e && level then reachEnd ch e s else s
  | .unknown => if level then driveEvent ch .foundEnd (putDrive ch (d.stopped (atEnd e)) s) else s
  | .blocked | .fault => s

/-- A filtered end level of a channel replaced, its sample count at 0. -/
def DriveChannel.withEnd (d : DriveChannel) (e : End) (level : Bool) : DriveChannel :=
  match e with
  | .a => { d with endA := { level := level, count := 0 } }
  | .b => { d with endB := { level := level, count := 0 } }

/-- A change of a filtered end input (R64, R67, R69). A level that is the standing one is no change (log entry 7). -/
def endChange (ch : Channel) (e : End) (level : Bool) (s : State) : State :=
  if (s.dru.get ch).endLevel e = level then s
  else
    let s := putDrive ch ((s.dru.get ch).withEnd e level) s
    let d := s.dru.get ch
    if d.endA.level && d.endB.level then bothEnds ch s else endMoved ch e level s

/-- The stroke timer of a channel has run out (R68). -/
def State.strokeOver (s : State) (ch : Channel) : Bool :=
  match (s.dru.get ch).strokeStart with
  | some x => (s.dru.get ch).moving && decide (s.pfs.working.strokeTime.get ch ≤ s.elapsed x)
  | none => false

/-- A stroke times out (R68); no effect while the timer has not run out (log entry 7). -/
def strokeTimeout (ch : Channel) (s : State) : State :=
  if s.strokeOver ch then failDrive ch .fault .driveFault .timeout s else s

/-- The door task of the closer is marked REVERSING (R75). -/
def markReversing (s : State) : State :=
  match s.dru.closer.task with
  | some t => putTask .closer (some { t with phase := .reversing }) s
  | none => s

/-- An obstruction of the closer on its way to END_B reverses the stroke: the tally event and the notice follow, and no
cause (R75). -/
def closerReversal (s : State) : State :=
  let s := markReversing (putDrive .closer (s.dru.closer.reversed .a s.clock.ms) s)
  driveEvent .closer .reversal (tallyEvent .doorReversal s)

/-- An obstruction of a stroke (R71, R75). -/
def obstruction (ch : Channel) (s : State) : State :=
  if ch = .closer && s.dru.closer.state = .toB then closerReversal s
  else failDrive ch .blocked .driveFault .obstruction s

/-- A channel's record with one current sample taken, before an obstruction is acted on (R70, R71). -/
def DriveChannel.sampled (d : DriveChannel) (mA limit : Nat) : DriveChannel :=
  if d.moving then
    { d with latest := mA, peak := Nat.max d.peak mA, run := if limit ≤ mA then d.run + 1 else 0 }
  else { d with latest := mA }

/-- A sample of a channel's current input (R70, R71). -/
def currentSample (ch : Channel) (n : Sample) (s : State) : State :=
  let p := s.pfs.working
  let mA := milliamps p.curScale n
  let s := putDrive ch ((s.dru.get ch).sampled mA (p.iLimit.get ch)) s
  let d := s.dru.get ch
  if d.moving && decide (p.iLimit.get ch ≤ mA) && decide (p.iSamples ≤ d.run) then
    obstruction ch (putDrive ch { d with run := 0 } s)
  else s

/-- The pause of the closer's task has run out (R76). -/
def State.pauseOver (s : State) : Option DoorTask :=
  match s.dru.closer.task with
  | some t =>
    match t.phase with
    | .pause x => if s.pfs.working.retryPause ≤ s.elapsed x then some t else none
    | _ => none
  | none => none

/-- The retry decision at the end of a pause (R76). -/
def retryDecision (t : DoorTask) (s : State) : State :=
  if s.ssv.mode = .run ∧ s.since t.reach ≤ (s.pfs.working.closerReach : Int) then
    let t := { t with phase := TaskPhase.closing }
    let d := s.dru.closer
    taskToB .closer t (putDrive .closer { d with task := some t, retry := d.retry + 1 } s)
  else failTask .closer t s

/-- The retry pause expires (R76); no effect while no pause has run out (log entry 7). -/
def retryPauseExpiry (s : State) : State :=
  match s.pauseOver with
  | some t => retryDecision t s
  | none => s

/-- A command of DRIVE_TEST: from FAULT toward END_A it is taken as in BLOCKED, otherwise by Table 4-3 (R80). -/
def testDrive (ch : Channel) (e : End) (s : State) : State :=
  if (s.dru.get ch).state = .fault then commandBlocked ch e s else commandDrive ch e s

/-- The state a channel takes from its two raw ends when the profile has been loaded (R63). -/
def DriveChannel.found (d : DriveChannel) (raw : EndLevels) : DriveChannel :=
  { d with
    endA := { level := raw.a, count := 0 }, endB := { level := raw.b, count := 0 },
    state := if raw.a && raw.b then .fault else if raw.a then .atA else if raw.b then .atB else .unknown }

/-- The Drive Unit takes its ends when the profile has been loaded; a contradictory channel raises DRIVE_FAULT (R63). -/
def driveFound (ch : Channel) (s : State) : State :=
  let s := putDrive ch ((s.dru.get ch).found (s.pins.ends.get ch)) s
  if (s.dru.get ch).state = .fault then raiseEvent .driveFault (.channel ch) s else s

end Sys2Proof.Machine
end

