-- ==== Sys2Proof/Machine/Launch.lean ====
section
/-! DEFINITION. The operations of the Launch Unit (chapter 5): the grip window, the launch decision, the launch in
flight and the holds at the gate. -/

namespace Sys2Proof.Machine

/-- The Launch Unit takes a value. -/
def putLnu (u : Lnu) (s : State) : State := { s with lnu := u }

/-- An entry enters a segment: its entry RD is the standing RD, its at-gate flag is clear (R42, R95). -/
def moveEntry (id : Nat) (g : Segment) (s : State) : State :=
  updateEntry id (fun e => { e with segment := g, entryRd := s.rmu.rd, atGate := false }) s

/-! ### Grip window -/

/-- The occupant of an entry with a grip result; an identified one holds none of its own (R7). -/
def Occupant.withGrip (r : GripResult) (force : Nat) : Occupant → Occupant
  | .cabin c => .cabin c
  | .unidentified _ _ => .unidentified r force

/-- A grip result is written according to the window's entry as it stands (R87). -/
def writeGrip (w : GripWindow) (r : GripResult) (force : Nat) (s : State) : State :=
  if s.lists.station.any (fun e => e.id == w.entry) then
    match w.cabin with
    | some c =>
      if (s.cab c).location = .station then putCab c { s.cab c with grip := r, force := force } s else s
    | none => updateEntry w.entry (fun e => { e with who := e.who.withGrip r force }) s
  else s

/-- The causes and the tally event of a closed window (R86). -/
def gripCauses (w : GripWindow) (r : GripResult) (s : State) : State :=
  let s := if r = .fail then raiseEvent .gripFail (detailOf w.cabin) (tallyEvent .gripFail s) else s
  if w.peak = 4095 then raiseEvent .gripSensor (detailOf w.cabin) s else s

/-- The grip window closes: force, result, write, causes (R86, R87). -/
def closeWindow (w : GripWindow) (s : State) : State :=
  let force := gripForce s.pfs.working w.peak
  let r := gripResult s.pfs.working w.peak
  gripCauses w r (writeGrip w r force
    (putLnu { s.lnu with window := none, lastResult := some { force := force, result := r } } s))

/-- The grip window closes if it is open. -/
def closeAnyWindow (s : State) : State :=
  match s.lnu.window with
  | some w => closeWindow w s
  | none => s

/-- A grip window opens for an entry (R84). -/
def openWindow (entry : Nat) (c : Option Cabin) (s : State) : State :=
  putLnu { s.lnu with window := some { entry := entry, cabin := c, openRd := s.rmu.rd, peak := 0 } } s

/-- An AN1 sample at the grip window: the greater of the two is the peak (R85). -/
def gripSample (n : Sample) (s : State) : State :=
  match s.lnu.window with
  | some w => putLnu { s.lnu with window := some { w with peak := Nat.max w.peak n.toNat } } s
  | none => s

/-- The window closes by distance at a change of RD (R85). -/
def windowDistance (s : State) : State :=
  match s.lnu.window with
  | some w => if (s.pfs.working.gripWindowMax : Int) ≤ s.since w.openRd then closeWindow w s else s
  | none => s

/-! ### Launch decision -/

/-- The launch of a candidate entry is decided: RD_L, the record of the launch, the reservation, the gate (R94). -/
def decideLaunch (entry : Nat) (c : Cabin) (s : State) : State :=
  let f : Flight :=
    { entry := entry, cabin := c, launchRd := s.rmu.rd, spacing := s.spacingValue, left := false, stuck := false }
  let s := putLnu { s.lnu with rdL := some s.rmu.rd, flight := some f } s
  commandDrive .gate .b { s with lkc := { s.lkc with chan := { s.lkc.chan with reserved := true } } }

/-- The launch decision is evaluated: with every condition of Table 5-2 it is taken, otherwise nothing is done
(R88, R89). -/
def launchEval (s : State) : State :=
  match s.candidate, s.candidateCabin with
  | some e, some c => if s.launchConditions.all id then decideLaunch e.id c s else s
  | _, _ => s

/-! ### Holds at the gate -/

/-- A HOLD cause whose condition holds is reported, or its detail brought up to date (R90). -/
def holdOn (x : Cause × Bool × Detail) (s : State) : State :=
  if x.2.1 then (if s.active x.1 then reportDetail x.1 x.2.2 s else reportActive x.1 x.2.2 s) else s

/-- A HOLD cause whose condition does not hold is reported inactive (R90). -/
def holdOff (x : Cause × Bool × Detail) (s : State) : State :=
  if !x.2.1 && s.active x.1 then reportInactive x.1 s else s

/-- The hold start after an evaluation: kept for the same candidate while a door or grip hold lasts, taken anew for
another, absent without one (R91). -/
def State.nextHold (s : State) : Option HoldStart :=
  match s.candidate with
  | none => none
  | some e =>
    if s.ssv.mode = .run ∧ s.candidateHas (fun r => r.door != .locked || r.grip != .pass) then
      match s.lnu.hold with
      | some h => if h.entry = e.id then some h else some { entry := e.id, rd := s.rmu.rd, used := false }
      | none => some { entry := e.id, rd := s.rmu.rd, used := false }
    else none

/-- The five HOLD conditions are evaluated and the hold start kept (R90, R91). Conditions that become active are
reported before those that become inactive (DESIGN CHOICE, log entry 12). -/
def holdEval (s : State) : State :=
  let conditions := s.holdConditions
  let s := putLnu { s.lnu with hold := s.nextHold } s
  let s := conditions.foldl (fun s x => holdOn x s) s
  conditions.foldl (fun s x => holdOff x s) s

/-- The stop of a hold that has lasted LAUNCH_WAIT of rope, at a change of RD (R91). -/
def holdDistance (s : State) : State :=
  match s.lnu.hold with
  | some h =>
    if !h.used && decide ((s.pfs.working.launchWait : Int) ≤ s.since h.rd) then
      raiseEvent .doorNotLockedStop (detailOf s.candidateCabin)
        (putLnu { s.lnu with hold := some { h with used := true } } s)
    else s
  | none => s

/-! ### The launch in flight -/

/-- LAUNCH_STUCK at a change of RD (R97). -/
def stuckDistance (s : State) : State :=
  match s.lnu.flight with
  | some f =>
    if !f.left && !f.stuck && decide ((s.pfs.working.gateLeave : Int) < s.since f.launchRd) then
      raiseEvent .launchStuck (.cabin f.cabin) (putLnu { s.lnu with flight := some { f with stuck := true } } s)
    else s
  | none => s

/-- A cause that is raised in RUN alone. -/
def raiseInRun (c : Cause) (d : Detail) (s : State) : State := if s.ssv.mode = .run then raiseEvent c d s else s

/-- The trailing edge at GAT of the cabin of a launch in phase OPENING (R95). -/
def launchLeaves (f : Flight) (s : State) : State :=
  let s := moveEntry f.entry .att s
  commandDrive .gate .a (putLnu { s.lnu with flight := some { f with left := true } } s)

/-- The trailing edge at GAT without a launch in phase OPENING: a forced pass (R95). -/
def forcedPass (s : State) : State :=
  let s :=
    match s.oldest .gat with
    | some e => moveEntry e.id .att s
    | none => raiseInRun .stationSequence .absent s
  if s.dru.gate.state = .atA then raiseEvent .gateUnsafe (.channel .gate) s
  else raiseInRun .gateUnsafe (.channel .gate) s

/-- The GAT trailing edge at the Launch Unit (R95). -/
def gateTrailing (s : State) : State :=
  match s.lnu.flight with
  | some f => if f.left then forcedPass s else launchLeaves f s
  | none => forcedPass s

/-- A GAT passage while a launch is in flight and the gate is not AT_A (R96). -/
def gatePassage (s : State) : State :=
  if s.lnu.flight.isSome && s.dru.gate.state != .atA then raiseEvent .gateUnsafe (.channel .gate) s else s

/-- A cabin's launch count goes up by one and its due flag may be set, with a notice (R4). -/
def countLaunch (c : Cabin) (s : State) : State :=
  let n := satInc 65535 (s.cab c).launches
  let newDue := dueOf s.pfs.working n && !(s.cab c).due
  let s := putCab c { s.cab c with launches := n, due := (s.cab c).due || newDue } s
  if newDue then notify (.cabinEvent .due c) s else s

/-- A record joins the transmit queue at its tail (R144). -/
def queueRecord (r : TxRecord) (s : State) : State :=
  { s with lkc := { s.lkc with chan := { s.lkc.chan with queue := s.lkc.chan.queue ++ [r] } } }

/-- A launch completes at the ATT passage of its entry, in the six steps of R98; the launch decision of the sixth is
that of the end of the event. -/
def completeLaunch (f : Flight) (s : State) : State :=
  let s := removeEntry f.entry s
  let s := putUpLine (s.lists.upLine ++ [{ cabin := f.cabin, stamp := f.launchRd }]) (putLocation f.cabin .upLine s)
  let s := countLaunch f.cabin s
  let s := queueRecord { kind := .launched, body := launchedBody f.cabin f.spacing, origin := .part } s
  let s := notify (.cabinEvent .launched f.cabin) (tallyEvent .launch s)
  putLnu { s.lnu with flight := none } { s with lkc := { s.lkc with chan := { s.lkc.chan with reserved := false } } }

/-- An ATT passage that completes no launch (R99). -/
def untrackedPass (s : State) : State :=
  match s.oldest .att with
  | none => raiseInRun .stationSequence .absent s
  | some e =>
    let s := removeEntry e.id s
    match e.cabin with
    | none => raiseEvent .phantomArrival .absent s
    | some c => raiseInRun .stationSequence .absent (notify (.cabinEvent .untracked c) (putLocation c .unplaced s))

/-- The flight that an ATT passage completes: its entry is the oldest of SEG-ATT (R98). -/
def State.leaving (s : State) : Option Flight :=
  match s.oldest .att, s.lnu.flight with
  | some e, some f => if e.id = f.entry then some f else none
  | _, _ => none

/-- An ATT passage at the Launch Unit (R98, R99). -/
def attPassage (s : State) : State :=
  match s.leaving with
  | some f => completeLaunch f s
  | none => untrackedPass s

end Sys2Proof.Machine
end

