-- ==== Sys2Proof/Machine/Track.lean ====
section
/-! DEFINITION. The operations of the Station Track Unit (chapter 3): passages, arrival resolution, the track switch and
the storage rail. -/

namespace Sys2Proof.Machine

/-- The value of one station input. -/
def PerInput.get {α : Type} (x : PerInput α) : StationInput → α
  | .arr => x.arr
  | .opn => x.opn
  | .cls => x.cls
  | .lck => x.lck
  | .grp => x.grp
  | .gat => x.gat
  | .att => x.att
  | .sti => x.sti
  | .stm => x.stm
  | .lckOk => x.lckOk

/-- `x` with the value of one station input replaced. -/
def PerInput.put {α : Type} (x : PerInput α) (i : StationInput) (v : α) : PerInput α :=
  match i with
  | .arr => { x with arr := v }
  | .opn => { x with opn := v }
  | .cls => { x with cls := v }
  | .lck => { x with lck := v }
  | .grp => { x with grp := v }
  | .gat => { x with gat := v }
  | .att => { x with att := v }
  | .sti => { x with sti := v }
  | .stm => { x with stm := v }
  | .lckOk => { x with lckOk := v }

/-- The Station Track Unit takes a value. -/
def putStu (u : Stu) (s : State) : State := { s with stu := u }

/-- A filtered input takes a level, its sample count at 0 (R39). -/
def putInput (i : StationInput) (level : Bool) (s : State) : State :=
  putStu { s.stu with inputs := s.stu.inputs.put i { level := level, count := 0 } } s

/-- What every passage does first: the filtered level is active and one PASSAGE event is signalled (R40). That the
event comes before the passage's own reports is the model's choice (DESIGN CHOICE, log entry 17). -/
def passageAt (i : StationInput) (s : State) : State := tallyEvent .passage (putInput i true s)

/-! ### Switch setting -/

/-- The switch is at the wanted end or moving toward it (R52). -/
def State.switchAt (s : State) (r : Route) : Bool :=
  match r with
  | .line => s.dru.switch.state == .atA || s.dru.switch.state == .toA
  | .store => s.dru.switch.state == .atB || s.dru.switch.state == .toB

/-- The end of the SWITCH that sets a route (R52). -/
def Route.end : Route → End
  | .line => .a
  | .store => .b

/-- The pending flag is brought up to date. -/
def markThrow (s : State) : State :=
  match s.stu.wanted with
  | none => s
  | some r => putStu { s.stu with throwPending := !s.switchAt r } s

/-- The wanted route is compared with the SWITCH, and the channel commanded when a throw is pending and the clearance
is met (R52, R53). -/
def throwEval (s : State) : State :=
  match s.stu.wanted with
  | none => s
  | some r =>
    if !s.switchAt r && s.clearanceMet then markThrow (commandDrive .switch r.end s) else markThrow s

/-- The wanted route is computed, in RUN, and compared (R52). -/
def routeCompute (s : State) : State :=
  if s.ssv.mode = .run then throwEval (putStu { s.stu with wanted := some s.routeWanted } s) else s

/-- The wanted route and a pending throw are discarded on leaving RUN (R52). -/
def routeDiscard (s : State) : State := putStu { s.stu with wanted := none, throwPending := false } s

/-! ### Passages along the line track -/

/-- The entry that a passage has moved or created: its number and its cabin. -/
abbrev Passed := Option (Nat × Option Cabin)

/-- An unidentified entry is created, unless the list holds 128 entries; STATION_SEQUENCE is raised in RUN, and at the
limit in every mode (R42, R47). -/
def createOrRaise (g : Segment) (atGate : Bool) (s : State) : State :=
  if 128 ≤ s.lists.station.length then raiseEvent .stationSequence .absent s
  else raiseInRun .stationSequence .absent (createUnknown g atGate s)

/-- The oldest entry of one segment moves into the next one, or an unidentified entry is created there (R42). -/
def advance (src dst : Segment) (s : State) : State × Passed :=
  match s.oldest src with
  | some e => (moveEntry e.id dst s, some (e.id, e.cabin))
  | none =>
    (createOrRaise dst false s, if 128 ≤ s.lists.station.length then none else some (s.stu.nextId, none))

/-- An OPN passage (R42, R45). -/
def opnPassage (s : State) : State :=
  match advance .opn .cls s with
  | (s, some (id, c)) => if s.ssv.mode = .run then startOpener id c s else s
  | (s, none) => s

/-- A CLS passage (R42, R45). -/
def clsPassage (s : State) : State :=
  match advance .cls .lck s with
  | (s, some (id, c)) => if s.ssv.mode = .run then startCloser id c s else s
  | (s, none) => s

/-- The door state after a lock check (R46). -/
def lockCheck (ok : Bool) (d : DoorState) : DoorState :=
  if ok then .locked
  else match d with
    | .unknown => .unknown
    | .opened | .closed | .locked => .closed

/-- An LCK passage (R42, R46). -/
def lckPassage (s : State) : State :=
  match advance .lck .grp s with
  | (s, some (_, c)) => writeDoor c (lockCheck s.stu.inputs.lckOk.level) s
  | (s, none) => s

/-- A GRP passage: an open window is closed, and one opened for the entry (R42, R47, R84). -/
def grpPassage (s : State) : State :=
  match advance .grp .gat s with
  | (s, some (id, c)) => openWindow id c (closeAnyWindow s)
  | (s, none) => closeAnyWindow s

/-- The entry that gains the at-gate flag: the oldest of SEG-GAT without it (R47). -/
def State.nextAtGate (s : State) : Option StationEntry :=
  s.lists.station.find? fun e => e.segment == .gat && !e.atGate

/-- A GAT passage (R47, R96). -/
def gatPassage (s : State) : State :=
  match s.nextAtGate with
  | some e => gatePassage (updateEntry e.id (fun e => { e with atGate := true }) s)
  | none => gatePassage (createOrRaise .gat true s)

/-! ### Storage -/

/-- A cabin joins the storage list at its tail; its retire flag is cleared (R5, R55). -/
def intoStorage (c : Cabin) (s : State) : State :=
  putCab c { s.cab c with location := .storage, retire := false } (putStorage (s.lists.storage ++ [c]) s)

/-- An STI passage (R55). -/
def stiPassage (s : State) : State :=
  match s.oldest .sti with
  | none => raiseEvent .stationSequence .absent s
  | some e =>
    match e.cabin with
    | some c => intoStorage c (removeEntry e.id s)
    | none => raiseEvent .stationSequence .absent (removeEntry e.id s)

/-- The release in flight ends. -/
def endRelease (s : State) : State := putStu { s.stu with release := none } s

/-- The head of the storage list enters the station list in SEG-OPN (R58). -/
def storageToStation (s : State) : State :=
  match s.lists.storage with
  | [] => s
  | c :: rest =>
    appendStation (.cabin c) .opn
      (putCab c { freshPass (s.cab c) with location := .station } (putStorage rest s))

/-- An STM passage (R58, R59). -/
def stmPassage (s : State) : State :=
  let full := decide (128 ≤ s.lists.station.length)
  match s.stu.release with
  | some _ =>
    let s := if full then raiseEvent .stationSequence .absent s else storageToStation s
    commandDrive .release .a (endRelease s)
  | none =>
    let s := raiseEvent .stationSequence .absent s
    if full then s else appendStation (.unidentified .none 0) .opn s

/-- RELEASE_STUCK at a change of RD (R58). -/
def releaseDistance (s : State) : State :=
  match s.stu.release with
  | some r =>
    match r.completion with
    | some x =>
      if (s.pfs.working.releaseWait : Int) < s.since x then
        endRelease (commandDrive .release .a (raiseEvent .releaseStuck (.cabin r.cabin) s))
      else s
    | none => s
  | none => s

/-! ### Arrival -/

/-- The cabin a number stands for, absent outside 1..96. -/
def cabinOf (n : Nat) : Option Cabin := if h : 1 ≤ n ∧ n ≤ 96 then some ⟨n - 1, by omega⟩ else none

/-- What the reader latch yields at an ARR passage (R48). -/
inductive Reading where
  | code (n : Nat)
  | stale
  | absent
  deriving DecidableEq, Repr

/-- The reading of the latch as it stands (R48). -/
def State.reading (s : State) : Reading :=
  match s.stu.latch with
  | none => .absent
  | some l =>
    if l.code = 0 then .absent
    else if s.since l.rd ≤ (s.pfs.working.readerSpan : Int) then .code l.code.toNat
    else .stale

/-- The latch is consumed: without a usable code one READER_MISS event is signalled (R48). It comes behind PASSAGE and
VALLEY_ARRIVAL (DESIGN CHOICE, log entry 17). -/
def consumeLatch (s : State) : State :=
  let miss := match s.reading with
    | .code _ => false
    | .stale | .absent => true
  let s := putStu { s.stu with latch := none } s
  if miss then tallyEvent .readerMiss s else s

/-- The registered cabin a reading names. -/
def State.readCabin (s : State) : Reading → Option Cabin
  | .code n =>
    match cabinOf n with
    | some c => if (s.cab c).registered then some c else none
    | none => none
  | .stale | .absent => none

/-- A cabin is taken: it leaves its list, its pass starts afresh, its location is STATION (R50). -/
def takeCabin (c : Cabin) (s : State) : State :=
  let s := leaveList c s
  putCab c { freshPass (s.cab c) with location := .station } s

/-- Case 5 of the arrival resolution: the down-line head is taken, or an unidentified entry results (R50). -/
def resolveHead (r : Reading) (s : State) : State × Occupant :=
  match s.lists.downLine.head? with
  | some h =>
    let s := takeCabin h.cabin s
    (if r = .stale then s else raiseEvent .reader (.cabin h.cabin) s, .cabin h.cabin)
  | none => (raiseInRun .phantomArrival .absent s, .unidentified .none 0)

/-- The arrival resolution (R50). -/
def resolveArrival (r : Reading) (s : State) : State × Occupant :=
  match s.readCabin r with
  | none => resolveHead r s
  | some c =>
    match (s.cab c).location with
    | .downLine =>
      if s.lists.downLine.head?.map LineEntry.cabin = some c then (takeCabin c s, .cabin c)
      else (raiseEvent .arrivalOrder (.cabin c) (takeCabin c s), .cabin c)
    | .upLine | .summit => (raiseEvent .arrivalOrder (.cabin c) (takeCabin c s), .cabin c)
    | .unplaced => (takeCabin c s, .cabin c)
    | .lost => (notify (.cabinEvent .found c) (takeCabin c s), .cabin c)
    | .station | .storage | .withdrawn => resolveHead r (raiseEvent .identityConflict (.cabin c) s)

/-- The cabin of an occupant, absent when unidentified. -/
def Occupant.cabin? : Occupant → Option Cabin
  | .cabin c => some c
  | .unidentified _ _ => none

/-- The route of an arrival, from the SWITCH channel: the segment entered, and SWITCH_UNSAFE unless the channel rests at
an end (R51). -/
def routeArrival (w : Occupant) (s : State) : State :=
  match s.dru.switch.state with
  | .atA => appendStation w .opn s
  | .atB => appendStation w .sti s
  | .toA | .toB | .blocked | .unknown | .fault =>
    appendStation w .opn (raiseEvent .switchUnsafe (detailOf w.cabin?) s)

/-- An arrival with room in the station list: resolved, routed and appended (R49). -/
def arrive (r : Reading) (s : State) : State :=
  match resolveArrival r s with
  | (s, w) => routeArrival w s

/-- An ARR passage (R49). -/
def arrPassage (s : State) : State :=
  let r := s.reading
  let s := consumeLatch s
  let s :=
    if 128 ≤ s.lists.station.length then raiseEvent .stationSequence .absent s
    else arrive r s
  routeCompute (putStu { s.stu with lastArr := some s.rmu.rd } s)

/-- A rising edge of the reader strobe: code and standing RD replace the latch (R48). -/
def readerStrobe (code : BitVec 7) (s : State) : State :=
  putStu { s.stu with latch := some { code := code, rd := s.rmu.rd } } s

/-! ### Binding -/

/-- A door task follows its entry through a binding (R72). -/
def bindTask (ch : Channel) (id : Nat) (c : Cabin) (s : State) : State :=
  match (s.dru.get ch).task with
  | some t => if t.entry = id then putTask ch (some { t with cabin := some c }) s else s
  | none => s

/-- A grip window follows its entry through a binding (R87). -/
def bindWindow (id : Nat) (c : Cabin) (s : State) : State :=
  match s.lnu.window with
  | some w => if w.entry = id then putLnu { s.lnu with window := some { w with cabin := some c } } s else s
  | none => s

/-- An unidentified entry is given the identity of a cabin (R60). It keeps its entry RD, as R60 says, so that it goes
on counting for STATION_STALL where it exceeds its limit (DEDUCED, log entry 40). -/
def bindEntry (e : StationEntry) (grip : GripResult) (force : Nat) (c : Cabin) (s : State) : State :=
  let lost := (s.cab c).location = .lost
  let s := putCab c { s.cab c with location := .station, door := .unknown, grip := grip, force := force } s
  let s := updateEntry e.id (fun e => { e with who := .cabin c }) s
  let s := bindWindow e.id c (bindTask .closer e.id c (bindTask .opener e.id c s))
  if lost then notify (.cabinEvent .found c) s else s

end Sys2Proof.Machine
end

