-- ==== Sys2Proof/Machine/Line.lean ====
section
/-! DEFINITION. The operations of the Line Tracking Unit (chapter 6): line records, the census, the overdue records and
lost cabins. -/

namespace Sys2Proof.Machine

/-- The Line Tracking Unit takes a value. -/
def putLtu (u : Ltu) (s : State) : State := { s with ltu := u }

/-- A cabin leaves its list and joins the summit list at its tail, with the standing RD (R104, R116). -/
def toSummit (c : Cabin) (s : State) : State :=
  let s := leaveList c s
  putLocation c .summit (putSummit (s.lists.summit ++ [{ cabin := c, stamp := s.rmu.rd }]) s)

/-- A cabin leaves its list and joins the down-line list at its tail, with the standing RD (R106, R117). -/
def toDownLine (c : Cabin) (s : State) : State :=
  let s := leaveList c s
  putLocation c .downLine (putDownLine (s.lists.downLine ++ [{ cabin := c, stamp := s.rmu.rd }]) s)

/-- The notice of a cabin found again. -/
def noticeFound (c : Cabin) (s : State) : State := notify (.cabinEvent .found c) s

/-- A cabin is the head of the up-line list. -/
def State.isUpHead (s : State) (c : Cabin) : Bool := s.lists.upLine.head?.map LineEntry.cabin == some c

/-- The distance since a cabin's launch RD is below the early bound (R105). -/
def State.isEarly (s : State) (c : Cabin) : Bool :=
  match stampIn s.lists.upLine c with
  | some x => decide (s.since x < s.earlyBound)
  | none => false

/-- A cause raised when a check fails. -/
def raiseWhen (b : Bool) (c : Cause) (d : Detail) (s : State) : State := if b then raiseEvent c d s else s

/-- An ARRIVED record for a registered cabin (R104, R105). Where it raises both SUMMIT_ORDER and EARLY, SUMMIT_ORDER is
reported first: R105 allows either order (DESIGN CHOICE, log entry 36). -/
def applyArrived (c : Cabin) (s : State) : State :=
  match (s.cab c).location with
  | .upLine =>
    raiseWhen (s.isEarly c) .early (.cabin c) (raiseWhen (!s.isUpHead c) .summitOrder (.cabin c) (toSummit c s))
  | .unplaced => toSummit c s
  | .lost => noticeFound c (toSummit c s)
  | .summit | .downLine | .station | .storage | .withdrawn => raiseEvent .lineRecordConflict (.cabin c) s

/-- A DEPARTED record for a registered cabin (R106). -/
def applyDeparted (c : Cabin) (s : State) : State :=
  match (s.cab c).location with
  | .summit => toDownLine c s
  | .upLine => raiseEvent .summitOrder (.cabin c) (toDownLine c s)
  | .unplaced => toDownLine c s
  | .lost => noticeFound c (toDownLine c s)
  | .downLine | .station | .storage | .withdrawn => raiseEvent .lineRecordConflict (.cabin c) s

/-- A record that names one cabin by number: outside 1..96 and unregistered numbers conflict (R103). -/
def applyNamed (f : Cabin → State → State) (n : Nat) (s : State) : State :=
  match cabinOf n with
  | none => raiseEvent .lineRecordConflict .absent s
  | some c => if (s.cab c).registered then f c s else raiseEvent .lineRecordConflict (.cabin c) s

/-- One listed number of a census, in the first pass (R116). -/
def censusListed (s : State) (n : Nat) : State :=
  match cabinOf n with
  | none => raiseEvent .censusMismatch .absent s
  | some c =>
    if (s.cab c).registered then
      match (s.cab c).location with
      | .upLine | .unplaced => toSummit c s
      | .summit => s
      | .lost => noticeFound c (toSummit c s)
      | .downLine | .station | .storage | .withdrawn => raiseEvent .censusMismatch (.cabin c) s
    else raiseEvent .censusMismatch (.cabin c) s

/-- One summit cabin that the census does not list, in the second pass (R117). -/
def censusMissing (s : State) (c : Cabin) : State := raiseEvent .censusMismatch (.cabin c) (toDownLine c s)

/-- The summit cabins that a census does not list, in summit-list order (R117). -/
def State.unlisted (s : State) (numbers : List Nat) : List Cabin :=
  (s.lists.summit.map LineEntry.cabin).filter fun c => !numbers.contains (Cabin.number c)

/-- A census wait ends with an outcome (R115). -/
def endWait (o : CensusOutcome) (s : State) : State :=
  putLtu { s.ltu with wait := none, lastEnd := some { outcome := o, ms := s.clock.ms } } s

/-- A CENSUS record is reconciled, and ends a census wait (R115 to R117). -/
def applyCensus (numbers : List Nat) (s : State) : State :=
  let s := numbers.foldl censusListed s
  let s := (s.unlisted numbers).foldl censusMissing s
  if s.ltu.wait.isSome then endWait .received s else s

/-- The CENSUS_REQUEST record (Table 8-1). -/
def censusRequestRecord : TxRecord := { kind := .censusRequest, body := [], origin := .part }

/-- A census request waits, and finds the priority slot free (R114). -/
def State.censusPlaceable (s : State) : Bool := s.ltu.wait.any (fun w => !w.placed) && s.lkc.chan.priority.isNone

/-- A waiting census request is placed in the priority slot when the slot is free (R114). -/
def placeCensus (s : State) : State :=
  if s.censusPlaceable then
    putLtu { s.ltu with wait := s.ltu.wait.map fun w => { w with placed := true } }
      { s with lkc := { s.lkc with chan := { s.lkc.chan with priority := some censusRequestRecord } } }
  else s

/-- A census wait starts (R113, R114). -/
def startWait (s : State) : State :=
  placeCensus (putLtu { s.ltu with censusDue := false, wait := some { start := s.clock.ms, placed := false } } s)

/-- The receive sync state enters LOCKED (R113). -/
def lockedEntry (s : State) : State := if s.ltu.censusDue then startWait s else s

/-- LINK_LOST becomes active at the Line Tracking Unit: the census is due, and a wait is abandoned (R113, R115). -/
def lineLinkLost (s : State) : State :=
  let s := putLtu { s.ltu with censusDue := true } s
  if s.ltu.wait.isSome then endWait .abandoned s else s

/-- The census wait has lasted CENSUS_WAIT (R115). -/
def State.waitOver (s : State) : Bool :=
  match s.ltu.wait with
  | some w => decide (s.pfs.working.censusWait ≤ s.elapsed w.start)
  | none => false

/-- The census wait expires (R115); no effect while it has not run out (log entry 7). -/
def censusExpiry (s : State) : State :=
  if s.waitOver then endWait .expired (raiseEvent .censusMismatch .absent s) else s

/-- A cabin on the line is declared lost (R112). -/
def declareLost (c : Cabin) (s : State) : State := putLocation c .lost (leaveList c s)

/-! ### Overdue records -/

/-- The head of a line list is beyond the overdue bound (R108, R110). -/
def State.beyond (s : State) (l : List LineEntry) : Option Cabin :=
  match l.head? with
  | some e => if s.overdueBound < s.since e.stamp then some e.cabin else none
  | none => none

/-- The up-line overdue record is discarded (R109). -/
def discardUp (s : State) : State :=
  if s.ltu.overUp.isSome then reportInactive .overdueUp (putLtu { s.ltu with overUp := none } s) else s

/-- The down-line overdue record is discarded (R110). -/
def discardDown (s : State) : State :=
  if s.ltu.overDown.isSome then reportInactive .overdueDown (putLtu { s.ltu with overDown := none } s) else s

/-- The up-line check, when it is running (R108). -/
def checkUp (s : State) : State :=
  if s.upCheckRunning && s.ltu.overUp.isNone then
    match s.beyond s.lists.upLine with
    | some c => reportActive .overdueUp (.cabin c) (putLtu { s.ltu with overUp := some c } s)
    | none => s
  else s

/-- The down-line check (R110). -/
def checkDown (s : State) : State :=
  if s.ltu.overDown.isNone then
    match s.beyond s.lists.downLine with
    | some c => reportActive .overdueDown (.cabin c) (putLtu { s.ltu with overDown := some c } s)
    | none => s
  else s

end Sys2Proof.Machine
end

