-- ==== Sys2Proof/Machine/Settle.lean ====
section
/-! DEFINITION. What every event ends with: the heads that others watch are handed on, the conditions that follow the
state are reported, the launch decision is evaluated and the change counts are settled. Each part is evaluated at
every event, where the manual names the events that can change its inputs; since it is a function of those inputs,
the two come to the same. -/

namespace Sys2Proof.Machine

/-- The cabin at the head of a line list. -/
def headCabin (l : List LineEntry) : Option Cabin := l.head?.map LineEntry.cabin

/-- A change of the up-line head since the event began discards the overdue record (R107, R109). -/
def handUp (old : Lists) (s : State) : State :=
  if headCabin old.upLine = headCabin s.lists.upLine then s else discardUp s

/-- A change of the down-line head since the event began discards the overdue record, and the wanted route is computed
(R52, R107, R110). -/
def handDown (old : Lists) (s : State) : State :=
  if headCabin old.downLine = headCabin s.lists.downLine then s else routeCompute (discardDown s)

/-- The detail STATION_STALL becomes active with: the stalled entry nearest the list head (R44). -/
def State.stallDetail (s : State) : Detail :=
  detailOf ((s.lists.station.find? fun e => s.stalled e).bind StationEntry.cabin)

/-- The three conditions of the Station Track Unit (R43, R44, R56). Where several change at one event they are reported
in the order STATION_FULL, STATION_STALL, STORAGE_FULL: the rules give none (DESIGN CHOICE, log entry 26). -/
def trackEval (s : State) : State :=
  let s := reportCondition .stationFull s.stationFull .absent s
  let s := reportCondition .stationStall (s.lists.station.any s.stalled) s.stallDetail s
  reportCondition .storageFull s.storageFull .absent s

/-- A change count after an event: one more when the list has changed, modulo 2^16 (R8). -/
def settled {α : Type} [DecidableEq α] (old new : List α) (n : Word16) : Word16 := if old = new then n else n + 1

/-- The change counts of the five lists, settled against the lists as the event found them (R8). -/
def settleCounts (old : Lists) (s : State) : State :=
  { s with lists :=
    { s.lists with
      stationCount := settled old.station s.lists.station s.lists.stationCount
      storageCount := settled old.storage s.lists.storage s.lists.storageCount
      upLineCount := settled old.upLine s.lists.upLine s.lists.upLineCount
      summitCount := settled old.summit s.lists.summit s.lists.summitCount
      downLineCount := settled old.downLine s.lists.downLine s.lists.downLineCount } }

/-- The end of an event that found the lists as `old`. Causes are reported before the launch decision is evaluated:
R88 allows either order (DESIGN CHOICE, log entry 13). The up-line check is made before the down-line check, so that
OVERDUE_UP is reported before OVERDUE_DOWN where both become active: R111 gives no order (DESIGN CHOICE, log entry
26). -/
def settle (old : Lists) (s : State) : State :=
  settleCounts old (launchEval (holdEval (trackEval (checkDown (checkUp (handDown old (handUp old s)))))))

/-- An event as a whole: its effect and its end. -/
def event (f : State → State) (s : State) : State := settle s.lists (f s)

/-! ### A change of RD -/

/-- What a change of RD brings besides the conditions settled at every event, in this order: the pending throw (R52),
the grip window (R85), the stop of a hold (R91), LAUNCH_STUCK (R97), RELEASE_STUCK (R58). The manual gives these checks no
order among themselves or against the conditions. The hold's distance is judged from the hold start that stood before the
pulse, even where the window's close at the same pulse ends the hold (DESIGN CHOICE, log entry 35). -/
def rdChanged (s : State) : State :=
  releaseDistance (stuckDistance (holdDistance (windowDistance (throwEval s))))

/-- A measuring-wheel pulse, and what follows where it changes RD (R22). -/
def wheelPulse (s : State) : State :=
  let t := rmuPulse s
  if t.rmu.rd = s.rmu.rd then t else rdChanged t

end Sys2Proof.Machine
end

