-- ==== Sys2Proof/Machine/Phone.lean ====
section
/-! DEFINITION. The operations of the Phone Unit (chapter 9): the states of a call, far codes, timers and the voice
path. -/

namespace Sys2Proof.Machine

/-- The record of a call channel takes a value. -/
def putCall (ch : CallChannel) (r : CallRecord) (s : State) : State :=
  match ch with
  | .a => { s with phn := { s.phn with a := r } }
  | .b => { s with phn := { s.phn with b := r } }

/-- A record with its voice silenced: held sample, hold count and output sample are 0 (R166). -/
def CallRecord.silent (r : CallRecord) : CallRecord := { r with held := 0, holdCount := 0, output := 0 }

/-- A record that takes a state; entry into CONNECTED and exit from it silence the voice path (Table 9-5, R166). -/
def CallRecord.entered (r : CallRecord) (st : CallState) (o : Option CallOrigin) (t : Option CallTimer)
    (why : CallReason) : CallRecord :=
  let r := if r.state = .connected ∨ st = .connected then r.silent else r
  { r with state := st, origin := o, timer := t, last := some why }

/-- A channel changes its state, with its CALL_EVENT notice (R164). -/
def enterCall (ch : CallChannel) (st : CallState) (o : Option CallOrigin) (t : Option TimerKind) (why : CallReason)
    (s : State) : State :=
  let timer := t.map fun k => ({ kind := k, start := s.clock.ms } : CallTimer)
  notify (.callEvent ch st o why) (putCall ch ((s.call ch).entered st o timer why) s)

/-- A channel takes state IDLE (R161). -/
def toIdle (ch : CallChannel) (why : CallReason) (s : State) : State := enterCall ch .idle none none why s

/-- A channel takes state RINGING with origin INCOMING (R160). -/
def toRinging (ch : CallChannel) (why : CallReason) (s : State) : State :=
  enterCall ch .ringing (some .incoming) (some .ring) why s

/-- A channel takes state CONNECTED; its origin stays (R159, R167). -/
def toConnected (ch : CallChannel) (s : State) : State :=
  enterCall ch .connected (s.call ch).origin none .answered s

/-- A channel takes state CLEARING with a GUARD timer; its origin stays (R161). -/
def toClearing (ch : CallChannel) (why : CallReason) (s : State) : State :=
  enterCall ch .clearing (s.call ch).origin (some .guard) why s

/-- An accepted PLACE_CALL (R159). -/
def placeCall (ch : CallChannel) (s : State) : State :=
  enterCall ch .seizing (some .outgoing) (some .seize) .placed s

/-- A far-code event of a channel, by its state (R159 to R161). -/
def farEvent (ch : CallChannel) (c : CallCode) (s : State) : State :=
  match (s.call ch).state, c with
  | .idle, .seize => toRinging ch .incoming s
  | .idle, .idle | .idle, .alert | .idle, .answer | .idle, .clear => s
  | .seizing, .alert => enterCall ch .ringback (s.call ch).origin (some .ring) .alerted s
  | .seizing, .answer => toConnected ch s
  | .seizing, .seize => toRinging ch .glare s
  | .seizing, .clear => toIdle ch .farClear s
  | .seizing, .idle => s
  | .ringback, .answer => toConnected ch s
  | .ringback, .clear | .ringback, .idle => toIdle ch .farClear s
  | .ringback, .seize | .ringback, .alert => s
  | .ringing, .clear | .ringing, .idle => toIdle ch .farClear s
  | .ringing, .seize | .ringing, .alert | .ringing, .answer => s
  | .connected, .clear | .connected, .idle => toIdle ch .farClear s
  | .connected, .seize | .connected, .alert | .connected, .answer => s
  | .clearing, .idle => toIdle ch .cleared s
  | .clearing, .seize | .clearing, .alert | .clearing, .answer | .clearing, .clear => s

/-- A change of the applied far code of a channel (R158): an undefined value is counted, a defined one that differs
from the effective far code is an event. -/
def farCode (ch : CallChannel) (old new : BitVec 3) (s : State) : State :=
  let r := s.call ch
  if old = new then s
  else
    match CallCode.ofField new with
    | none => putCall ch { r with undefined := satInc 65535 r.undefined } s
    | some c => if c = r.farCode then s else farEvent ch c (putCall ch { r with farCode := c } s)

/-- LINK_LOST becomes active at one channel: it goes to IDLE, and its effective far code becomes IDLE; a channel that is
IDLE already is unchanged (R162), in its effective far code too, although R131, R158 and Table 9-3 would make that IDLE
(DESIGN CHOICE, log entry 45). -/
def callLost (ch : CallChannel) (s : State) : State :=
  if (s.call ch).state = .idle then s
  else
    let s := toIdle ch .linkLost s
    putCall ch { s.call ch with farCode := .idle } s

/-- The time a call timer runs, in ms (R161). -/
def State.timerLength (s : State) : TimerKind → Nat
  | .seize => 500
  | .ring => s.pfs.working.ringTime * 1000
  | .guard => 100

/-- The call timer of a channel is of a kind and has run out (R161). -/
def State.timerOver (s : State) (ch : CallChannel) (k : TimerKind) : Bool :=
  match (s.call ch).timer with
  | some t => t.kind == k && decide (s.timerLength k ≤ s.elapsed t.start)
  | none => false

/-- The SEIZE timer expires (R161); no effect while it has not run out (log entry 7). -/
def seizeExpiry (ch : CallChannel) (s : State) : State :=
  if s.timerOver ch .seize then toClearing ch .noResponse s else s

/-- The RING timer expires (R161); no effect while it has not run out (log entry 7). -/
def ringExpiry (ch : CallChannel) (s : State) : State :=
  if s.timerOver ch .ring then toClearing ch .noAnswer s else s

/-- The GUARD timer expires: to IDLE, or to RINGING where the far end seizes (R161); no effect while it has not run out
(log entry 7). -/
def guardExpiry (ch : CallChannel) (s : State) : State :=
  if s.timerOver ch .guard then
    if (s.call ch).farCode = .seize then toRinging ch .incoming s else toIdle ch .cleared s
  else s

/-- A received sample of an applied cycle (R166). -/
def goodVoice (ch : CallChannel) (v : Voice) (s : State) : State :=
  let r := s.call ch
  if r.state = .connected then putCall ch { r with output := v, held := v, holdCount := 0 } s else s

/-- A bad-cycle mark (R166). -/
def badMark (ch : CallChannel) (s : State) : State :=
  let r := s.call ch
  if r.state = .connected then
    if r.holdCount < 4 then putCall ch { r with output := r.held, holdCount := r.holdCount + 1 } s
    else putCall ch { r with output := 0 } s
  else s

/-- Both channels take a bad-cycle mark. -/
def badMarks (s : State) : State := badMark .b (badMark .a s)

/-- The sample a channel gives to an own cycle (R165). -/
def CallRecord.voiceOut (r : CallRecord) : Voice := if r.state = .connected then r.portIn else 0

/-- A frame of a voice port: a sample is taken from it, and the output sample presented to it (R165, R166). -/
def portFrame (ch : CallChannel) (v : Voice) (s : State) : State :=
  let r := s.call ch
  putCall ch { r with portIn := v, portOut := r.output } s

end Sys2Proof.Machine
end

