-- ==== Sys2Proof/Machine/Records.lean ====
section
/-! DEFINITION. The operations of the record channel (chapter 8): sending records in the message slots, assembling and
disposing of received ones, and the own pause. -/

namespace Sys2Proof.Machine

/-- The record channel takes a value. -/
def putChan (r : RecordChannel) (s : State) : State := { s with lkc := { s.lkc with chan := r } }

/-! ### Sending -/

/-- The channel with a record chosen when none is in progress: the priority slot before the queue head (R143). -/
def RecordChannel.chosen (r : RecordChannel) : RecordChannel :=
  if r.progress.isSome then r
  else if r.priority.isSome then { r with progress := some { fromPriority := true, sent := 0 } }
  else if r.queue.isEmpty then r
  else { r with progress := some { fromPriority := false, sent := 0 } }

/-- The channel after the last byte of the record in progress: the record leaves its place (R143). -/
def RecordChannel.finished (r : RecordChannel) : RecordChannel :=
  let r :=
    match r.progress with
    | some p => if p.fromPriority then { r with priority := none } else { r with queue := r.queue.drop 1 }
    | none => r
  { r with progress := none, sent := satInc 65535 r.sent }

/-- The channel with one more byte of the record in progress sent. -/
def RecordChannel.advanced (r : RecordChannel) : RecordChannel :=
  { r with progress := r.progress.map fun p => { p with sent := p.sent + 1 } }

/-- The lengths that R147 lets a priority text have. -/
def priorityLength (text : List Byte) : Bool := decide (1 ≤ text.length) && decide (text.length ≤ 15)

/-- The command taken next is a host's priority text that fills the empty priority slot: none of the checks of R192 and
R147 turns it away. Only such a text is taken together with the event that empties the slot (R146; DESIGN CHOICE, log
entry 24). -/
def State.textFillsSlot (s : State) : Bool :=
  match s.pending with
  | .sendPriorityText _ text :: _ =>
    s.listening && s.loaded && decide (s.spt.replies.length < 4) && priorityLength text
  | _ => false

/-- The priority slot may have been emptied: a waiting census request is placed at this event, unless a host's priority
text that comes together with it is taken first and fills the slot (R114, R146; log entry 24). -/
def slotEmptied (s : State) : State := if s.textFillsSlot then s else placeCensus s

/-- One message slot is filled at the start of an own cycle (R143): the slot's word and what it leaves. -/
def fillSlot (s : State) : State × Word16 :=
  let r := s.lkc.chan.chosen
  match r.progress, r.inProgress with
  | some p, some t =>
    let bytes := t.channelBytes
    let last := decide (bytes.length ≤ p.sent + 1)
    let word := slotOf (bytes[p.sent]?.getD 0) last
    if last then (slotEmptied (tallyEvent .recordTx (putChan r.finished s)), word)
    else (putChan r.advanced s, word)
  | _, _ => (s, 0)

/-- Both message slots of an own cycle: empty under the applied far pause and until the profile has been loaded (R140,
R143, R148). -/
def fillSlots (s : State) : State × Word16 × Word16 :=
  if !s.loaded || s.applied.pause then (s, 0, 0)
  else
    let x := fillSlot s
    let y := fillSlot x.1
    (y.1, x.2, y.2)

/-! ### Receiving -/

/-- The own pause as it is evaluated (R152). -/
def RecordChannel.pauseNow (r : RecordChannel) : Bool :=
  if r.texts.isEmpty || decide (r.fill ≤ 16) then false
  else if 48 ≤ r.fill then true
  else r.ownPause

/-- The own pause is evaluated (R152). -/
def evalPause (s : State) : State := putChan { s.lkc.chan with ownPause := s.lkc.chan.pauseNow } s

/-- The kind of a received record that the valley takes: ARRIVED, DEPARTED, CENSUS or TEXT (R150). -/
def takenKind (b : Byte) : Option RecordKind :=
  match b.toNat with
  | 0x21 => some .arrived
  | 0x22 => some .departed
  | 0x32 => some .census
  | 0x41 => some .text
  | _ => none

/-- A body length is one that its kind allows (R150). -/
def lengthAllowed (k : RecordKind) (body : List Byte) : Bool :=
  match k with
  | .arrived | .departed => body.length == 1
  | .text => decide (1 ≤ body.length) && decide (body.length ≤ 48)
  | .census =>
    match body with
    | k :: rest => decide (k.toNat ≤ 24) && rest.length == k.toNat
    | [] => false
  | .launched | .censusRequest => false

/-- The record that the bytes of an assembly spell, absent when the check fails (R150). -/
def checkRecord (bytes : List Byte) : Option (RecordKind × List Byte) :=
  match bytes with
  | kind :: len :: body =>
    match takenKind kind with
    | some k => if len.toNat = body.length ∧ lengthAllowed k body then some (k, body) else none
    | none => none
  | _ => none

/-- A completed record that is discarded (R150). -/
def discardRecord (s : State) : State :=
  putChan { s.lkc.chan with assembly := none, discarded := satInc 65535 s.lkc.chan.discarded } s

/-- A checked record reaches its block (R150): the Line Tracking Unit, or the held texts. -/
def handRecord (k : RecordKind) (body : List Byte) (s : State) : State :=
  match k with
  | .arrived => applyNamed applyArrived ((body.map BitVec.toNat).headD 0) s
  | .departed => applyNamed applyDeparted ((body.map BitVec.toNat).headD 0) s
  | .census => applyCensus ((body.drop 1).map BitVec.toNat) s
  | .text =>
    let s := putChan { s.lkc.chan with texts := s.lkc.chan.texts ++ [body] } s
    notify (.lineTextReady body.length s.lkc.chan.texts.length) s
  | .launched | .censusRequest => s

/-- A completed record is disposed of (R150). -/
def dispose (a : Assembly) (s : State) : State :=
  if a.damaged then discardRecord s
  else if a.tooLong then raiseEvent .lineRecordBad .absent (discardRecord s)
  else
    match checkRecord a.bytes with
    | none => raiseEvent .lineRecordBad .absent (discardRecord s)
    | some (k, body) =>
      let s := putChan { s.lkc.chan with assembly := none, received := satInc 65535 s.lkc.chan.received } s
      handRecord k body (tallyEvent .recordRx s)

/-- The assembly that a byte is taken into (R149). -/
def RecordChannel.begun (r : RecordChannel) : Assembly :=
  r.assembly.getD { bytes := [], damaged := false, tooLong := false }

/-- One byte is taken into the receive store (R149): kept, dropped with LINE_OVERRUN at a full store, or dropped as too
long. A later byte dropped for a damaged record adds to the count of bytes dropped, for whichever reason it is. -/
def takeByte (b : Byte) (s : State) : State :=
  let r := s.lkc.chan
  let a := r.begun
  if 64 ≤ r.fill then
    let t := putChan { r with assembly := some { a with damaged := true }, dropped := satInc 65535 r.dropped } s
    if a.damaged then t else raiseEvent .lineOverrun .absent t
  else if 50 ≤ a.bytes.length then
    let n := if a.damaged then satInc 65535 r.dropped else r.dropped
    putChan { r with assembly := some { a with tooLong := true }, dropped := n } s
  else evalPause (putChan { r with assembly := some { a with bytes := a.bytes ++ [b] } } s)

/-- A message slot of an applied cycle (R149). -/
def takeSlot (w : Word16) (s : State) : State :=
  if slotPresent w then
    let s := takeByte (slotByte w) s
    if slotEnd w then evalPause (dispose s.lkc.chan.begun s) else s
  else s

/-- A break of the record channel (R151); the count of records discarded is left as it is (log entry 15). -/
def recordBreak (s : State) : State :=
  match s.lkc.chan.assembly with
  | none => s
  | some a =>
    let s := evalPause (putChan { s.lkc.chan with assembly := none } s)
    if !a.bytes.isEmpty && !a.damaged && !a.tooLong then raiseEvent .lineRecordBad .absent s else s

/-- The oldest held text is freed (R153). -/
def freeText (s : State) : State := evalPause (putChan { s.lkc.chan with texts := s.lkc.chan.texts.drop 1 } s)

end Sys2Proof.Machine
end

