-- ==== Sys2Proof/Machine/Link.lean ====
section
/-! DEFINITION. The operations of the Line Link Controller (chapter 7): own cycles, the receiver, the far end's control
word, LINK_LOST and the tower table. -/

namespace Sys2Proof.Machine

/-- The Line Link Controller takes a value. -/
def putLkc (k : Lkc) (s : State) : State := { s with lkc := k }

/-- The receiver takes a value. -/
def putRx (r : LinkRx) (s : State) : State := putLkc { s.lkc with rx := r } s

/-- A LINK_STATE notice as the link stands (R127, R130). -/
def linkState (s : State) : State :=
  notify (.linkState s.lkc.rx.sync (s.active .linkLost) s.lkc.rx.relocks) s

/-! ### Towers -/

/-- The entries of the tower table take a value. -/
def putTowers (l : List TowerEntry) (s : State) : State :=
  putLkc { s.lkc with towers := { s.lkc.towers with entries := l } } s

/-- The three conditions over the tower table (R136). Where several change at one event they are reported in the order
of R136's table: ROPE_POSITION, ROPE_DERAIL, TOWER_SILENT (DESIGN CHOICE, log entry 39). -/
def towerEval (s : State) : State :=
  let l := s.lkc.towers.entries
  let off := TowerEntry.offCentre s.pfs.working.towerDwell
  let s := reportCondition .ropePosition (l.any off) (towerDetail l off) s
  let s := reportCondition .ropeDerail (l.any TowerEntry.derailed) (towerDetail l TowerEntry.derailed) s
  reportCondition .towerSilent (l.any TowerEntry.silent) (towerDetail l TowerEntry.silent) s

/-- An entry after a report of its tower (R134). -/
def TowerEntry.reported (st : TowerState) (rd : Word32) (e : TowerEntry) : TowerEntry :=
  if e.state = st then { e with age := 0, run := satInc 65535 e.run }
  else { state := st, age := 0, run := 1, changeRd := some rd }

/-- The tower word of an applied cycle (R134). A word whose number is above TOWER_COUNT and whose position state is
undefined too is dropped by its number and raises the out-of-range count alone: R134 does not say which count it raises
(DESIGN CHOICE, log entry 44). -/
def takeTower (w : Word16) (s : State) : State :=
  let t := s.lkc.towers
  let n := towerNumber w
  if n = 0 then s
  else if t.entries.length < n then
    putLkc { s.lkc with towers := { t with outOfRange := satInc 65535 t.outOfRange } } s
  else
    match towerState w with
    | none => putLkc { s.lkc with towers := { t with invalidState := satInc 65535 t.invalidState } } s
    | some st => towerEval (putTowers (t.entries.modify (n - 1) (TowerEntry.reported st s.rmu.rd)) s)

/-- An entry is stale: its age exceeds TOWER_STALE and it is not SENSOR_FAULT already (R135). -/
def TowerEntry.isStale (limit : Nat) (e : TowerEntry) : Bool := e.state != .sensorFault && decide (limit < e.age)

/-- An entry found stale (R135). -/
def TowerEntry.madeStale (rd : Word32) (e : TowerEntry) : TowerEntry :=
  { e with state := .sensorFault, run := 0, changeRd := some rd }

/-- An entry, made stale if it is (R135). -/
def TowerEntry.checked (limit : Nat) (rd : Word32) (e : TowerEntry) : TowerEntry :=
  if e.isStale limit then e.madeStale rd else e

/-- One superframe of age (R135). -/
def TowerEntry.aged (e : TowerEntry) : TowerEntry := { e with age := satInc 65535 e.age }

/-- Every entry that is stale is found so, and the causes are evaluated (R135, R137). -/
def findStale (s : State) : State :=
  towerEval (putTowers (s.lkc.towers.entries.map fun e => e.checked s.pfs.working.towerStale s.rmu.rd) s)

/-- The tower table ages at an own cycle numbered 0 (R135). -/
def ageTowers (s : State) : State := findStale (putTowers (s.lkc.towers.entries.map TowerEntry.aged) s)

/-- One tower is found stale (R135); no effect on an entry that is not (log entry 7). -/
def towerStale (i : Nat) (s : State) : State :=
  let p := s.pfs.working.towerStale
  if (s.lkc.towers.entries[i]?.map fun e => e.isStale p).getD false then
    towerEval (putTowers (s.lkc.towers.entries.modify i (TowerEntry.madeStale s.rmu.rd)) s)
  else s

/-- The tower table takes a new length (R137). -/
def resizeTowers (n : Nat) (l : List TowerEntry) : List TowerEntry :=
  l.take n ++ List.replicate (n - l.length) TowerEntry.reset

/-! ### Own cycles -/

/-- The control word of an own cycle begun now (R123). -/
def State.ownControl (s : State) : Word16 :=
  controlWord s.lkc.ownNext s.ssv.lines.permit s.ssv.demand.stopField s.lkc.chan.ownPause
    s.phn.a.state.sentCode.field s.phn.b.state.sentCode.field (BitVec.ofNat 2 s.ssv.mode.code)

/-- A cycle with its check word in place (R122). -/
def LineCycle.withCheck (c : LineCycle) : LineCycle := { c with check := cycleCheck c }

/-- The cycle that is formed with two message slots (R121). -/
def State.ownCycle (s : State) (m4 m5 : Word16) : LineCycle :=
  LineCycle.withCheck
    { sync := syncWord, control := s.ownControl, voiceA := s.phn.a.voiceOut, voiceB := s.phn.b.voiceOut, msg4 := m4,
      msg5 := m5, tower := 0, check := 0 }

/-- An own cycle is formed from the sources as they stand, and its number goes on (R121). -/
def formCycle (s : State) : State :=
  let x := fillSlots s
  let c := s.ownCycle x.2.1 x.2.2
  putLkc { x.1.lkc with txCycle := c, ownNext := s.lkc.ownNext + 1 } x.1

/-- An own cycle: formed, then a bad-cycle mark outside LOCKED, then ageing when it is numbered 0 (R121, R128, R135). -/
def transmitCycle (s : State) : State :=
  let n := s.lkc.ownNext
  let s := formCycle s
  let s := if s.lkc.rx.sync = .locked then s else badMarks s
  if n = 0 ∧ s.loaded then ageTowers s else s

/-! ### The far end's control word -/

/-- The conditions that follow the applied far-end fields and the sync state (R132, R133). Where several change at one
event they are reported in the order SUMMIT_STOP_EMG, SUMMIT_STOP_SVC, SUMMIT_NOT_READY: the rules give none (DESIGN
CHOICE, log entry 42). -/
def linkEval (s : State) : State :=
  let s := reportCondition .summitStopEmg (s.applied.stop == .emergency) .absent s
  let s := reportCondition .summitStopSvc (s.applied.stop == .service) .absent s
  reportCondition .summitNotReady (s.lkc.rx.sync == .locked && !s.applied.permit) .absent s

/-- The slots of an applied cycle go to their blocks; `old` is what was applied before (R128, R131). R128 orders only
the two message slots; the model takes the control word with its causes and call codes, the voice slots, the message
slots and the tower word in this order (DESIGN CHOICE, log entry 37). -/
def applyCycle (old : Applied) (c : LineCycle) (s : State) : State :=
  let s := linkEval (putRx { s.lkc.rx with held := some c.control } s)
  let s := farCode .b old.codeB s.applied.codeB (farCode .a old.codeA s.applied.codeA s)
  let s := goodVoice .b c.voiceB (goodVoice .a c.voiceA s)
  takeTower c.tower (takeSlot c.msg5 (takeSlot c.msg4 s))

/-! ### The receiver -/

/-- A candidate cycle in HUNT: sound, it gives CONFIRM (R124). -/
def huntCandidate (rx : RxCycle) (s : State) : State :=
  if s.lkc.rx.sync = .hunt && RxCycle.sound rx then putRx { s.lkc.rx with sync := .confirm, confirm := 1 } s else s

/-- The receiver enters LOCKED at a cycle, which is the first one applied (R125, R127 to R130). LINK_STATE is sent
before the reports and CALL_EVENTs of that cycle: R127 and R130 give it no place among them (DESIGN CHOICE, log entry
42). -/
def enterLocked (c : LineCycle) (s : State) : State :=
  let old := s.applied
  let r := s.lkc.rx
  let s := putRx { r with sync := .locked, confirm := 0, expected := some (ctlNumber c.control + 1), badRun := 0,
                          relocks := satInc 65535 r.relocks, outOfLock := none } s
  let s := reportCondition .linkLost false .absent s
  let s := linkState s
  let s := applyCycle old c s
  lockedEntry s

/-- A cycle in CONFIRM (R125). -/
def confirmCycle (rx : RxCycle) (s : State) : State :=
  if s.lkc.rx.sync = .confirm then
    if RxCycle.sound rx then
      if 4 ≤ s.lkc.rx.confirm + 1 then enterLocked rx.slots s
      else putRx { s.lkc.rx with confirm := s.lkc.rx.confirm + 1 } s
    else putRx { s.lkc.rx with sync := .hunt, confirm := 0 } s
  else s

/-- A cycle taken in LOCKED is good (R126). -/
def State.goodHere (s : State) (rx : RxCycle) : Bool :=
  RxCycle.sound rx && s.lkc.rx.expected == some (ctlNumber rx.slots.control)

/-- The receiver leaves LOCKED (R127, R129, R133, R151): LINK_STATE, then the far-end conditions, then the break of the
record channel (DESIGN CHOICE for the order, log entry 42). -/
def leaveLocked (s : State) : State :=
  let s := putRx { s.lkc.rx with sync := .hunt, badRun := 0, expected := none, outOfLock := some s.clock.ms } s
  recordBreak (linkEval (linkState s))

/-- A good cycle in LOCKED (R126 to R128). -/
def goodCycle (c : LineCycle) (s : State) : State :=
  let r := s.lkc.rx
  applyCycle s.applied c (putRx { r with expected := r.expected.map (· + 1), badRun := 0 } s)

/-- A bad cycle in LOCKED (R126 to R128). -/
def badCycle (s : State) : State :=
  let r := s.lkc.rx
  let s := putRx { r with expected := r.expected.map (· + 1), badRun := r.badRun + 1,
                          badTotal := satInc 4294967295 r.badTotal } s
  let s := badMarks (tallyEvent .badCycle s)
  if 16 ≤ s.lkc.rx.badRun then leaveLocked s else s

/-- A cycle in LOCKED, judged by R126. -/
def lockedCycle (rx : RxCycle) (s : State) : State :=
  if s.lkc.rx.sync = .locked then (if s.goodHere rx then goodCycle rx.slots s else badCycle s) else s

/-! ### The bits of LINE_RX -/

/-- The first 128 of the bits held are judged as the sync state says: a candidate in HUNT, otherwise the cycle at the
boundary, which is an event of its own (R124 to R127). -/
def judgeCycle (s : State) : State :=
  let x := RxCycle.ofBits s.lkc.rx.bits
  match s.lkc.rx.sync with
  | .hunt => huntCandidate x s
  | .confirm => event (confirmCycle x) s
  | .locked => event (lockedCycle x) s

/-- A judged cycle is passed: where the receiver hunts now, its first bit alone; otherwise the whole of it, and its end
is the boundary (R124 to R127). -/
def passBits (s : State) : State :=
  let r := s.lkc.rx
  if r.sync = .hunt then putRx { r with bits := r.bits.drop 1 } s
  else putRx { r with bits := r.bits.drop 128, boundary := s.clock.timebase } s

/-- A cycle's worth of bits is judged and passed. -/
def takeCycle (s : State) : State := passBits (judgeCycle s)

/-- Cycles are taken while 128 bits are held, at most as many as the number says. -/
def takeCycles : Nat → State → State
  | 0, s => s
  | n + 1, s => if s.lkc.rx.bits.length < 128 then s else takeCycles n (takeCycle s)

/-- Bits join those held, and every cycle that they complete is taken (R124 to R127). Each judgement passes one bit at
least, so that there are no more of them than bits. -/
def receiveBits (bits : List RxBit) (s : State) : State :=
  let held := s.lkc.rx.bits ++ bits
  takeCycles held.length (putRx { s.lkc.rx with bits := held } s)

/-- A cycle on a line without transitions: the bits of it that are missing, each low and with a code violation
(R126; DEDUCED, log entry 21). -/
def State.silentBits (s : State) : List RxBit :=
  List.replicate (128 - s.lkc.rx.bits.length) { level := false, violation := true }

/-- The receiver takes a cycle at its own nominal rate: it is LOCKED, LINE_RX carries no transitions, and 125 µs have
passed since the boundary (R126; log entry 21). -/
def State.silentCycleDue (s : State) : Bool :=
  s.lkc.rx.sync == .locked && s.pins.lineSilent && decide (125 ≤ (s.clock.timebase - s.lkc.rx.boundary).toNat)

/-- LINK_LOST is due (R129). -/
def State.linkLossDue (s : State) : Bool :=
  match s.lkc.rx.outOfLock with
  | some x => !s.active .linkLost && decide (s.pfs.working.linkLossMs ≤ s.elapsed x)
  | none => false

/-- LINK_LOST becomes active, and is handed to the blocks that depend on it (R130). Its CAUSE_RAISED and DEMAND_CHANGED
come first, then the far-end conditions and the CALL_EVENTs of A and B, and LINK_STATE last: R130 gives no order (DESIGN
CHOICE, log entry 42). -/
def loseLink (s : State) : State :=
  let s := reportActive .linkLost .absent s
  let s := callLost .b (callLost .a (linkEval s))
  linkState (lineLinkLost s)

/-- The link loss time expires (R129); no effect while it has not (log entry 7). -/
def linkLossExpiry (s : State) : State := if s.linkLossDue then loseLink s else s

end Sys2Proof.Machine
end

