-- ==== Sys2Proof/Machine/Stops.lean ====
section
/-! DEFINITION. The operations of the Stop Supervisor that requests and modes use (chapter 10): acknowledgement,
RESTRICTED, host stops, host supervision and the change of mode. -/

namespace Sys2Proof.Machine

/-- The Stop Supervisor takes a value. -/
def putSsv (u : Ssv) (s : State) : State := { s with ssv := u }

/-- A MODE_CHANGED notice as the mode, RESTRICTED and the lines stand (R176, R180). -/
def modeNotice (s : State) : State := notify (.modeChanged s.ssv.mode s.ssv.restricted s.ssv.lines) s

/-- The wanted route at a change of mode: computed on entry into RUN, discarded otherwise (R52, R180). -/
def modeRoute (s : State) : State := if s.ssv.mode = .run then routeCompute s else routeDiscard s

/-- A change of mode: the lines, the notice, and the blocks that depend on the mode (R180). -/
def changeMode (m : Mode) (s : State) : State :=
  modeRoute (overspeedEval (modeNotice (driveLines (putSsv { s.ssv with mode := m } s))))

/-! ### Acknowledgement (R173 to R175) -/

/-- A cause that a host request keeps active until it is acknowledged (R174). -/
def Cause.isHostStop : Cause → Bool
  | .hostStopSvc => true
  | .hostStopEmg => true
  | _ => false

/-- An acknowledgement of a cause is barred because it is active (R173 check 2). -/
def State.ackBarred (s : State) (c : Cause) : Bool := !c.isHostStop && s.active c

/-- An acknowledgement of a cause waits for the rope to rest (R173 check 4). -/
def State.ackNeedsRest (s : State) (c : Cause) : Bool := c.category == .emergency && !s.atRest

/-- An acknowledgement of a cause would clear it: it is standing, and neither check bars it (R173, R174). -/
def State.clearable (s : State) (c : Cause) : Bool :=
  (s.cause c).standing && !s.ackBarred c && !s.ackNeedsRest c

/-- The entry of a cause is cleared; its count and stamps are kept (R173, R174). -/
def clearCause (c : Cause) (s : State) : State :=
  putCause c { s.cause c with active := false, latched := false } s

/-- RESTRICTED takes a value, and OVERSPEED is re-evaluated against the new limit (R176). -/
def putRestricted (b : Bool) (s : State) : State := overspeedEval (putSsv { s.ssv with restricted := b } s)

/-- What follows the clearing of causes: RESTRICTED where one of them has the restrict property, then the effective
demand, then the notice of a change of RESTRICTED (R171, R173, R176; the order is log entry 16). -/
def afterClearing (restricts : Bool) (s : State) : State :=
  if restricts && !s.ssv.restricted then modeNotice (evalDemand (putRestricted true s)) else evalDemand s

/-- An accepted acknowledgement that clears a cause (R173). -/
def ackOne (c : Cause) (s : State) : State := afterClearing c.restricts (clearCause c s)

/-- The causes that ACK_ALL clears, in order of number (R175). -/
def State.clearables (s : State) : List Cause := Cause.all.filter fun c => s.clearable c

/-- An accepted ACK_ALL (R175). -/
def ackEvery (s : State) : State :=
  let l := s.clearables
  afterClearing (l.any Cause.restricts) (l.foldl (fun s c => clearCause c s) s)

/-- The number of standing entries. -/
def State.standingCount (s : State) : Nat := Cause.all.countP fun c => (s.cause c).standing

/-- Some entry of a category that a test names is latched. -/
def State.latchedIn (s : State) (p : Demand → Bool) : Bool := Cause.all.any fun c => (s.cause c).latched && p c.category

/-! ### Host supervision (R178) -/

/-- The outcome of a KEEPALIVE, in the order in which R179 lists the three (log entry 22). -/
inductive KeepJudged where
  | early | inTime | notJudged
  deriving DecidableEq, Repr

/-- The code of the outcome of a KEEPALIVE. -/
def KeepJudged.code : KeepJudged → Nat
  | .early => 0 | .inTime => 1 | .notJudged => 2

/-- Supervision runs: in SERVICE and RUN (R178). -/
def State.supervised (s : State) : Bool := s.ssv.mode == .service || s.ssv.mode == .run

/-- A KEEPALIVE taken now is early (R178). -/
def State.keepEarly (s : State) : Bool :=
  match s.ssv.lastKeep with
  | some x => s.pfs.working.hkWindowOn && decide (s.elapsed x < s.pfs.working.hkPeriod / 2)
  | none => false

/-- How a KEEPALIVE taken now is judged (R178, R179). -/
def State.keepJudged (s : State) : KeepJudged :=
  if !s.supervised then .notJudged else if s.keepEarly then .early else .inTime

/-- A KEEPALIVE is taken (R178). -/
def keepAlive (s : State) : State :=
  if s.supervised then
    let t := reportCondition .hostSilent s.keepEarly .absent s
    putSsv { t.ssv with lastKeep := some s.clock.ms, deadline := some { ref := s.clock.ms, entry := false } } t
  else s

/-- The allowance of a deadline reference (R178). -/
def State.allowance (s : State) (d : Deadline) : Nat := if d.entry then 2000 else s.pfs.working.hkPeriod

/-- The deadline is missed (R178). -/
def State.deadlineOver (s : State) : Bool :=
  match s.ssv.deadline with
  | some d => decide (s.allowance d ≤ s.elapsed d.ref)
  | none => false

/-- A missed deadline (R178); no effect while it has not passed (log entry 7). -/
def deadlineMissed (s : State) : State :=
  if s.deadlineOver then
    let t := reportCondition .hostSilent true .absent s
    putSsv { t.ssv with deadline := none } t
  else s

end Sys2Proof.Machine
end

