-- ==== Sys2Proof/Machine/Tally.lean ====
section
/-! DEFINITION. The tally sample and the operations of the tally requests (chapter 11). -/

namespace Sys2Proof.Machine

/-- The comparison of a level counter (R187). -/
def Counter.compare (k : Counter) (v : Nat) : Bool :=
  if k.invert then decide (v < k.threshold) else decide (k.threshold ≤ v)

/-- What a level counter adds for a sampled value, before the freeze is looked at (R187). -/
def Counter.gain (k : Counter) (v : Nat) : Nat :=
  if k.threshold = 0 then v
  else if k.compare v && !(k.edge && k.last) then 1
  else 0

/-- The last comparison of a level counter after a sample (R187). -/
def Counter.lastAfter (k : Counter) (v : Nat) : Bool := if k.threshold = 0 then false else k.compare v

/-- One counter takes the tally sample (R187). -/
def sampleCounter (k : CounterIx) (s : State) : State :=
  let r := s.counter k
  match s.levelOf r.source with
  | none => s
  | some v =>
    if r.enable then
      let t := putCounter k { r with last := r.lastAfter v } s
      if r.counts s.tal.frozen then tallyAdd k (r.gain v) t else t
    else s

/-- The tally sample, over the counters in the order of their numbers (R187; the order is log entry 17). -/
def tallySample (s : State) : State := CounterIx.all.foldl (fun s k => sampleCounter k s) s

/-- The freeze state takes a value. -/
def putFrozen (b : Bool) (s : State) : State := { s with tal := { s.tal with frozen := b } }

/-- A counter with freeze trigger on has its overflow flag set (R190). -/
def State.triggerStanding (s : State) : Bool := s.tal.counters.toList.any fun k => k.trigger && k.overflow

end Sys2Proof.Machine
end

