-- ==== Sys2Proof/Machine/Profile.lean ====
section
/-! DEFINITION. The operations of the Profile Store and of the start of the part (sections 12.5 to 12.7): writes, the
commit, the loading of the profile, and the entry into a reset. -/

namespace Sys2Proof.Machine

/-- The Profile Store takes a value. -/
def putPfs (u : Pfs) (s : State) : State := { s with pfs := u }

/-- The profile status becomes MODIFIED (R196). -/
def modified (s : State) : State := putPfs { s.pfs with status := .modified } s

/-- The working profile no longer holds a launch count for a number: it is unregistered (R12, R196). -/
def forgetCount (c : Cabin) (s : State) : State :=
  putPfs { s.pfs with counts := s.pfs.counts.set c.val none c.isLt } s

/-- What the blocks do at once at the write of a parameter, beside what every event settles (R35, R52, R137). -/
def paramWritten (q : Param) (s : State) : State :=
  match q with
  | .mwStepUm | .bwStepUm | .slipVmin | .slipLimit | .slipHoldMm | .vMax | .vEmgMargin | .vInspect | .vRestrict
  | .tensionSpan | .tensionLoLim | .tensionLo | .tensionHi | .tensionHiLim => ropeWritten q s
  | .autoStore => routeCompute s
  | .towerCount => towerEval (putTowers (resizeTowers s.pfs.working.towerCount s.lkc.towers.entries) s)
  | .towerDwell => towerEval s
  | .towerStale => findStale s
  | _ => s

/-- An accepted WRITE_PARAM (R196, R197). -/
def writeParam (q : Param) (v : Nat) (s : State) : State :=
  paramWritten q (modified (putPfs { s.pfs with working := s.pfs.working.set q v } s))

/-- An accepted RESTORE_DEFAULTS (R200). The rope's causes are reported first, then the wanted route is computed, then
the tower causes are reported: no rule orders them (DESIGN CHOICE, log entry 39). -/
def restoreDefaults (s : State) : State :=
  let old := s.pfs.working
  let s := modified (putPfs { s.pfs with working := Params.default } s)
  let s := routeCompute (ropeRestored old s)
  findStale (putTowers (resizeTowers s.pfs.working.towerCount s.lkc.towers.entries) s)

/-- The parameter on the right of the first cross-check that fails, absent when all hold (R198). -/
def crossCheck (p : Params) : Option Param :=
  if ¬ p.gripMin < p.gripMax then some .gripMax
  else if ¬ p.tensionLoLim < p.tensionLo then some .tensionLo
  else if ¬ p.tensionLo < p.tensionHi then some .tensionHi
  else if ¬ p.tensionHi < p.tensionHiLim then some .tensionHiLim
  else if ¬ p.tensionHiLim ≤ p.tensionSpan then some .tensionSpan
  else if ¬ p.vInspect ≤ p.vRestrict then some .vRestrict
  else if ¬ p.vRestrict ≤ p.vMax then some .vMax
  else if ¬ p.switchClear ≤ p.spacing then some .spacing
  else none

/-- The contents that a commit accepted now fixes (R198). -/
def State.contents (s : State) : Profile := { params := s.pfs.working, regs := s.registrations }

/-- A commit starts: the write count goes up and the contents are fixed (R198, R201). -/
def startCommit (tag : Option Byte) (s : State) : State :=
  putPfs { s.pfs with writes := satInc 65535 s.pfs.writes, commit := some { contents := s.contents, tag := tag } } s

/-- The held place of the reply queue is filled (R199). -/
def fillHeld (r : Reply) : List ReplyEntry → List ReplyEntry
  | [] => []
  | .held t :: l => if t = r.tag then .ready r :: l else .held t :: fillHeld r l
  | .ready x :: l => .ready x :: fillHeld r l

/-- The reply of COMMIT_PROFILE fills its held place (R192, R199). -/
def commitReply (tag : Byte) (st : Status) (s : State) : State :=
  { s with spt := { s.spt with
      replies := fillHeld { kind := 0xB1, tag := tag, status := st, data := [], resets := false } s.spt.replies } }

/-- The Profile Store at the completion of a commit (R199, R201). The stored copy is replaced here and not at the
acceptance (DESIGN CHOICE, log entry 46). With an equal read-back the launch counts of the contents are the committed
ones; with another they stay as last loaded or committed (R196; DESIGN CHOICE, log entry 48). -/
def finishCommit (c : Commit) (equal : Bool) (s : State) : State :=
  if equal then
    putPfs { s.pfs with stored := .good c.contents, counts := c.contents.regs, status := .valid, commit := none } s
  else
    { putPfs { s.pfs with stored := .worn s.free, status := .modified, commit := none } s with free := s.free + 1 }

/-- A commit completes; `equal` says whether the read-back is equal (R199). No effect without a commit in flight. -/
def commitDone (equal : Bool) (s : State) : State :=
  match s.pfs.commit with
  | none => s
  | some c =>
    let s := finishCommit c equal s
    match c.tag with
    | some t => commitReply t (if equal then .ok else .worn) s
    | none => s

/-! ### The loading of the profile (R9, R201) -/

/-- The record of a cabin after the loading of the profile (R9). -/
def loadedCabin (p : Params) : Option Nat → CabinRecord
  | some n => { CabinRecord.unregistered with registered := true, launches := n, due := dueOf p n }
  | none => CabinRecord.unregistered

/-- The profile that the loading makes the working one, and its status (R201). -/
def State.profileToLoad (s : State) : Profile × ProfileStatus :=
  if s.resetCause = .profileRestore then (Profile.default, .modified)
  else if s.pfs.stored.checkGood then (s.pfs.stored.contents, .valid)
  else (Profile.default, .invalid)

/-- The working copy stands, its launch counts with it, and the cabin table (R9, R196, R201). -/
def loadContents (s : State) : State :=
  let x := s.profileToLoad
  { putPfs { s.pfs with working := x.1.params, counts := x.1.regs, status := x.2 } s with
    cabins := x.1.regs.map (loadedCabin x.1.params) }

/-- The commit of a PROFILE_RESTORE start (R201). -/
def loadCommit (s : State) : State := if s.resetCause = .profileRestore then startCommit none s else s

/-- A filter at the raw level of its input. -/
def Filter.taken (raw : Bool) : Filter := { level := raw, count := 0 }

/-- The ten station inputs at their raw levels (R39). -/
def takenInputs (x : PerInput Bool) : PerInput Filter :=
  ⟨.taken x.arr, .taken x.opn, .taken x.cls, .taken x.lck, .taken x.grp, .taken x.gat, .taken x.att, .taken x.sti,
    .taken x.stm, .taken x.lckOk⟩

/-- The blocks take their starting references: the wheel and bullwheel levels (R19, R20), the station levels (R39), the
strobe (R48), the out-of-lock start (R129) and the length of the tower table (R134). -/
def takeReferences (s : State) : State :=
  let s := putRmu { s.rmu with mwRef := s.pins.mwP, bwRefA := s.pins.bwA, bwRefB := s.pins.bwB } s
  let s := putStu { s.stu with inputs := takenInputs s.pins.station, strobe := s.pins.cidStb } s
  let s := putRx { s.lkc.rx with outOfLock := some s.clock.ms } s
  putTowers (List.replicate s.pfs.working.towerCount TowerEntry.reset) s

/-- The Drive Unit sets its five channels from their ends, OPENER first and GATE last, which shows where several raise
DRIVE_FAULT (R63; DESIGN CHOICE, log entry 43). -/
def takeDrives (s : State) : State :=
  driveFound .gate (driveFound .release (driveFound .switch (driveFound .closer (driveFound .opener s))))

/-- The change from START to SERVICE: STARTED, then MODE_CHANGED, and host supervision begins (R178, R180). -/
def enterService (s : State) : State :=
  let s := notify (.started s.resetCause s.pfs.status s.pfs.writes) s
  let s := putSsv { s.ssv with deadline := some { ref := s.clock.ms, entry := true } } s
  changeMode .service s

/-- The loading of the profile (R201). -/
def loadProfile (s : State) : State :=
  let s := takeReferences (loadCommit (loadContents s))
  enterService (takeDrives { s with loaded := true })

/-! ### Reset (R195) -/

/-- A commit that is cut off leaves a stored copy whose check fails (R199). -/
def Pfs.cut (n : Nat) (u : Pfs) : Pfs :=
  if u.commit.isSome then { u with stored := .torn n, commit := none } else u

/-- The part is held in reset: every block at its reset values, mode OFF. The profile store keeps its copies and its
write count, the pins stay as the world sets them, and RESTRICTED is kept but at a power-on (R172, R184, R195, R196).
R9 fills the cabin table only at the loading of the profile: until then all 96 numbers are unregistered (DESIGN CHOICE,
log entry 4). -/
def enterReset (c : ResetCause) (s : State) : State :=
  { pins := s.pins, clock := Clock.reset, supply := true, resetCause := c, loaded := false, rmu := Rmu.reset,
    asc := Vector.replicate 7 0, cabins := Vector.replicate 96 CabinRecord.unregistered, lists := Lists.reset,
    stu := Stu.reset, dru := druReset, lnu := Lnu.reset, ltu := Ltu.reset, lkc := Lkc.reset,
    phn := { a := CallRecord.reset, b := CallRecord.reset },
    ssv := Ssv.held (c != .powerOn && s.ssv.restricted), tal := Tal.reset, spt := Spt.reset,
    pfs := s.pfs.cut s.free, free := if s.pfs.commit.isSome then s.free + 1 else s.free, pending := s.pending }

/-- The supply is lost: the part is without function, and a commit in flight is cut off (R199). RESTRICTED is cleared
only by the power-on start that follows (R176). -/
def loseSupply (s : State) : State := { enterReset .powerOn s with supply := false, ssv := Ssv.held s.ssv.restricted }

/-- The end of the reset: START, with the reset cause settled by PROFILE_RESTORE at a power-on, and MODE_CHANGED, which
each change of mode sends (R180, R184, R195; log entry 19). -/
def endReset (s : State) : State :=
  let c := if s.resetCause = .powerOn ∧ s.pins.profileRestore then .profileRestore else s.resetCause
  modeNotice (driveLines { s with resetCause := c, ssv := { s.ssv with mode := .start } })

end Sys2Proof.Machine
end

