-- ==== Sys2Proof/Machine/Operands.lean ====
section
/-! DEFINITION. The fields of request bodies and how they are decoded (R202, Table 13-3). A decoder answers nothing for
a value outside its defined codes, which the request then refuses BAD_VALUE. -/

namespace Sys2Proof.Machine

/-- A two-byte value, high byte first. -/
def be16 (h l : Byte) : Nat := h.toNat * 256 + l.toNat

/-- A four-byte value, high byte first. -/
def be32 (a b c d : Byte) : Nat := ((a.toNat * 256 + b.toNat) * 256 + c.toNat) * 256 + d.toNat

/-- A flag field: 00h or 01h. -/
def flagArg (b : Byte) : Option Bool :=
  match b.toNat with
  | 0 => some false
  | 1 => some true
  | _ => none

/-- A cabin field: 1..96. -/
def cabinArg (b : Byte) : Option Cabin := cabinOf b.toNat

/-- An end field: END_A 0, END_B 1. -/
def endArg (b : Byte) : Option End :=
  match b.toNat with
  | 0 => some .a
  | 1 => some .b
  | _ => none

/-- A switch route field: LINE 0, STORE 1. -/
def routeArg (b : Byte) : Option Route :=
  match b.toNat with
  | 0 => some .line
  | 1 => some .store
  | _ => none

/-- A call channel field: A 0, B 1. -/
def callArg (b : Byte) : Option CallChannel :=
  match b.toNat with
  | 0 => some .a
  | 1 => some .b
  | _ => none

/-- A mode field of SET_MODE: SERVICE 1 or RUN 2 (R181). -/
def modeArg (b : Byte) : Option Mode :=
  match b.toNat with
  | 1 => some .service
  | 2 => some .run
  | _ => none

/-- A counter field: 1..8. -/
def counterArg (b : Byte) : Option CounterIx :=
  if h : 1 ≤ b.toNat ∧ b.toNat ≤ 8 then some ⟨b.toNat - 1, by omega⟩ else none

/-- A tally source field (Table 13-1). -/
def sourceArg (b : Byte) : Option TallySource :=
  match b.toNat with
  | 0 => some .launch
  | 1 => some .valleyArrival
  | 2 => some .doorReversal
  | 3 => some .gripFail
  | 4 => some .badCycle
  | 5 => some .recordRx
  | 6 => some .recordTx
  | 7 => some .readerMiss
  | 8 => some .passage
  | 9 => some .stationOccupancy
  | 10 => some .gateQueue
  | 11 => some .rxStoreFill
  | 12 => some .uplineCount
  | 13 => some .slipAbs
  | 14 => some .speedDm
  | _ => none

/-- The cause a category of HOST_STOP stands for: SERVICE 3 or EMERGENCY 4 (R174). -/
def hostStopArg (b : Byte) : Option Cause :=
  match b.toNat with
  | 3 => some .hostStopSvc
  | 4 => some .hostStopEmg
  | _ => none

/-- A list that READ_LIST names (Table 13-1). -/
inductive ListName where
  | station | storage | upLine | summit | downLine
  deriving DecidableEq, Repr

/-- A list field. -/
def listArg (b : Byte) : Option ListName :=
  match b.toNat with
  | 0 => some .station
  | 1 => some .storage
  | 2 => some .upLine
  | 3 => some .summit
  | 4 => some .downLine
  | _ => none

/-- The configuration that SET_TALLY carries after its counter (R189). -/
structure TallyConfig where
  enable    : Bool
  source    : TallySource
  threshold : Nat
  invert    : Bool
  edge      : Bool
  notify    : Bool
  member    : Bool
  trigger   : Bool
  deriving DecidableEq, Repr

/-- The configuration fields of SET_TALLY (Table 13-3). -/
def configArg : List Byte → Option TallyConfig
  | [en, src, thr, inv, edge, ntf, mem, trg] =>
    match flagArg en, sourceArg src, flagArg inv, flagArg edge, flagArg ntf, flagArg mem, flagArg trg with
    | some en, some src, some inv, some edge, some ntf, some mem, some trg =>
      some { enable := en, source := src, threshold := thr.toNat, invert := inv, edge := edge, notify := ntf,
             member := mem, trigger := trg }
    | _, _, _, _, _, _, _ => none
  | _ => none

end Sys2Proof.Machine
end

