-- ==== Sys2Proof/Machine/Port.lean ====
section
/-! DEFINITION. The Station Port (sections 12.1 to 12.4): how a request is taken and answered, and how replies and
notices are sent. -/

namespace Sys2Proof.Machine

/-- The Station Port takes a value. -/
def putSpt (u : Spt) (s : State) : State := { s with spt := u }

/-- What a request's own rule answers. -/
inductive Answer where
  /-- A check fails: the status, with no change to any state. -/
  | refuse (st : Status) (data : List Byte)
  /-- OK with no change: a read, or a request that finds nothing to do. -/
  | read (data : List Byte)
  /-- OK, carried out: the state it leaves. -/
  | ok (s : State) (data : List Byte)
  /-- A commit is accepted: its reply comes at its completion (R198). -/
  | hold
  /-- RESET_PART is accepted (R195). -/
  | reset

/-- A kind of request: its code, the body length it allows (any, where absent), whether it is served before the profile
has been loaded, and its own rule. -/
structure Request where
  kind   : Byte
  length : Option Nat
  always : Bool
  handle : List Byte → State → Answer

/-- An entry joins the tail of the reply queue (R192). -/
def joinReply (e : ReplyEntry) (s : State) : State := putSpt { s.spt with replies := s.spt.replies ++ [e] } s

/-- A reply to a request of a kind: kind KIND + 80h, the request's TAG, status and data (R192). -/
def replyTo (kind tag : Byte) (st : Status) (data : List Byte) : Reply :=
  { kind := kind + 0x80, tag := tag, status := st, data := data, resets := false }

/-- A reply joins the queue. -/
def answer (kind tag : Byte) (st : Status) (data : List Byte) (s : State) : State :=
  joinReply (.ready (replyTo kind tag st data)) s

/-- The body length is one that a kind allows (R192). -/
def Request.lengthOk (r : Request) (body : List Byte) : Bool :=
  match r.length with
  | some n => body.length == n
  | none => true

/-- A request that has passed the checks of R192 is carried out by its own rule, and answered. -/
def carryOut (r : Request) (tag : Byte) (body : List Byte) (s : State) : State :=
  match r.handle body s with
  | .refuse st data => answer r.kind tag st data s
  | .read data => answer r.kind tag .ok data s
  | .ok t data => answer r.kind tag .ok data t
  | .hold => joinReply (.held tag) (startCommit (some tag) s)
  | .reset =>
    let s := joinReply (.ready { replyTo r.kind tag .ok [] with resets := true }) s
    putSpt { s.spt with stopped := true } s

/-- The port takes a complete frame: the receiver hunts again (R191). -/
def hunting (s : State) : State := putSpt { s.spt with rx := .hunting } s

/-- A request is dropped because the reply queue holds 4 entries (R192). -/
def dropRequest (s : State) : State := putSpt { s.spt with dropRequest := satInc 65535 s.spt.dropRequest } s

/-- The checks of R192 on a request of a known kind, in their order, and the request itself. -/
def judge (r : Request) (tag : Byte) (body : List Byte) (s : State) : State :=
  if 4 ≤ s.spt.replies.length then dropRequest s
  else if !r.lengthOk body then answer r.kind tag .badLength [] s
  else if !s.loaded && !r.always then answer r.kind tag .busy [] s
  else carryOut r tag body s

/-- A request of a known kind is taken (R192). -/
def serve (r : Request) (tag : Byte) (body : List Byte) (s : State) : State :=
  if s.listening then judge r tag body (hunting s) else s

/-- A request of an unknown kind is taken (R192). -/
def serveUnknown (kind tag : Byte) (s : State) : State :=
  if s.listening then
    let s := hunting s
    if 4 ≤ s.spt.replies.length then dropRequest s else answer 0 tag .unknownKind [kind] s
  else s

/-- The first check that fails refuses the request; otherwise it is carried out (R10). -/
def checks (l : List (Bool × Status)) (a : Answer) : Answer :=
  match l.find? Prod.fst with
  | some x => .refuse x.2 []
  | none => a

/-- A value outside its defined codes is refused (R202). -/
def withArg {α : Type} (x : Option α) (f : α → Answer) : Answer :=
  match x with
  | some v => f v
  | none => .refuse .badValue []

/-! ### The receiver (R191) -/

/-- One bad frame is counted, and the receiver hunts. -/
def countBad (s : State) : State :=
  putSpt { s.spt with rx := .hunting, badFrames := satInc 65535 s.spt.badFrames } s

/-- A frame abandoned by a gap or a break is counted where one was being assembled (R191). -/
def abandonFrame (s : State) : State :=
  if s.listening then
    match s.spt.rx with
    | .hunting => s
    | .assembling _ => countBad s
  else s

/-- The bytes behind a start byte, as far as they are there: too few, a bad frame, or a frame with what follows it. -/
inductive Parsed where
  | short
  | bad
  | frame (kind tag : Byte) (body rest : List Byte)

/-- The bytes after a start byte are read as LEN, KIND, TAG, body and check (R191, R203). -/
def parseFrame : List Byte → Parsed
  | [] => .short
  | len :: l =>
    let n := len.toNat
    if n < 2 ∨ 250 < n then .bad
    else if l.length < n + 2 then .short
    else
      let counted := l.take n
      if (l.drop n).take 2 = wordBytes (crc16 (len :: counted)) then
        match counted with
        | kind :: tag :: body => .frame kind tag body (l.drop (n + 2))
        | _ => .bad
      else .bad

/-- The bytes held by the receiver: a start byte and what has been assembled behind it. -/
def RxState.bytes : RxState → List Byte
  | .hunting => []
  | .assembling l => startByte :: l

/-- Bytes are searched for frames, each search a byte shorter than the one before: after a bad frame the hunt resumes
at the byte after its start byte; a complete frame is taken as a request by `take` (R191). -/
def scanBytes (take : Byte → Byte → List Byte → State → State) : Nat → List Byte → State → State
  | 0, _, s => hunting s
  | _, [], s => hunting s
  | n + 1, b :: l, s =>
    if b = startByte then
      match parseFrame l with
      | .short => putSpt { s.spt with rx := .assembling l } s
      | .bad => scanBytes take n l (countBad s)
      | .frame kind tag body rest =>
        let t := take kind tag body s
        if t.listening then scanBytes take n rest t else t
    else scanBytes take n l s

/-- Characters arrive at the receiver. -/
def receive (take : Byte → Byte → List Byte → State → State) (chars : List Byte) (s : State) : State :=
  if s.listening then
    let l := s.spt.rx.bytes ++ chars
    scanBytes take l.length l s
  else s

/-! ### The transmitter (R193) -/

/-- SP_TX is free to begin a frame: none is being sent, and the part is not about to enter the reset of RESET_PART. -/
def Spt.free (u : Spt) : Bool :=
  match u.tx with
  | none => true
  | some f => f.remaining == 0 && !f.resets

/-- The oldest reply that is ready, and the queue without it; a held place is passed over (R193). -/
def takeReady : List ReplyEntry → Option (Reply × List ReplyEntry)
  | [] => none
  | .ready r :: l => some (r, l)
  | .held t :: l => (takeReady l).map fun x => (x.1, .held t :: x.2)

/-- A frame on SP_TX at its beginning. -/
def TxFrame.begun (bytes : List Byte) (resets : Bool) : TxFrame :=
  { bytes := bytes, resets := resets, remaining := wireTime bytes }

/-- The frame of a reply. -/
def Reply.frame (r : Reply) : TxFrame := TxFrame.begun (frameBytes r.kind r.tag r.body) r.resets

/-- The frame of a notice (R193, Table 13-2). -/
def QueuedNotice.frame (q : QueuedNotice) (lost : Bool) : TxFrame :=
  TxFrame.begun (frameBytes q.notice.kind 0 (q.body lost)) false

/-- The transmitter begins the next frame, when it is free (R193). -/
def beginFrame (s : State) : State :=
  if s.ssv.mode != .off && s.spt.free then
    match takeReady s.spt.replies with
    | some (r, l) => putSpt { s.spt with replies := l, tx := some r.frame } s
    | none =>
      match s.spt.notices with
      | q :: l => putSpt { s.spt with notices := l, lost := false, tx := some (q.frame s.spt.lost) } s
      | [] => s
  else s

/-- The reply of RESET_PART has been sent to its last byte (R195). -/
def State.resetSent (s : State) : Bool :=
  match s.spt.tx with
  | some f => f.resets && f.remaining == 0
  | none => false

end Sys2Proof.Machine
end

