-- ==== Sys2Proof/Machine/Reads.lean ====
section
/-! DEFINITION. The data of the replies that describe the part: the fields that each rule lists, in its order, coded by
R202 and section 13.2. -/

namespace Sys2Proof.Machine

/-- A kept RD and the distance since it, each an optional field. -/
def rdField (s : State) (x : Option Word32) : List Byte := opt 4 w32 x ++ opt 4 (fun x => i32 (s.since x)) x

/-- A condition as its block last reported it. -/
def condition (s : State) (c : Cause) : List Byte := flag (s.active c)

/-- The place of the first element that satisfies a test. -/
def placeOf {α : Type} (p : α → Bool) (l : List α) : Option Nat := l.findIdx? p

/-! ### Cabins and lists (R13, R14) -/

/-- The list position of a cabin: the entries ahead of it in the list of its location (R13). -/
def State.listPosition (s : State) (c : Cabin) : Option Nat :=
  match (s.cab c).location with
  | .station => placeOf (fun e => e.who == .cabin c) s.lists.station
  | .storage => placeOf (fun x => x == c) s.lists.storage
  | .upLine => placeOf (fun e => e.cabin == c) s.lists.upLine
  | .summit => placeOf (fun e => e.cabin == c) s.lists.summit
  | .downLine => placeOf (fun e => e.cabin == c) s.lists.downLine
  | .unplaced | .withdrawn | .lost => none

/-- The fields of Table 1-5 and the list position (R13). -/
def cabinData (c : Cabin) (s : State) : List Byte :=
  let r := s.cab c
  flag r.registered ++ u8 r.location.code ++ u8 r.door.code ++ u8 r.grip.code ++ u16 r.force ++ u16 r.launches ++
    flag r.due ++ flag r.retire ++ opt 4 w32 (stampIn s.lists.upLine c) ++ opt 4 w32 (stampIn s.lists.summit c) ++
    opt 4 w32 (stampIn s.lists.downLine c) ++ opt 1 u8 (s.listPosition c)

/-- The grip fields of a station entry: 0 for an identified one (section 13.2). -/
def Occupant.gripData : Occupant → List Byte
  | .cabin _ => u8 0 ++ u16 0
  | .unidentified r f => u8 r.code ++ u16 f

/-- A station entry of READ_LIST, 10 bytes (section 13.2). -/
def stationData (e : StationEntry) : List Byte :=
  cabinField e.cabin ++ u8 (Segment.code e.segment) ++ w32 e.entryRd ++ flag e.atGate ++ e.who.gripData

/-- A line entry of READ_LIST, 5 bytes (section 13.2). -/
def lineData (e : LineEntry) : List Byte := cabinField (some e.cabin) ++ w32 e.stamp

/-- The part of a list that a read returns, coded: the number of entries, then the entries. -/
def sliceData {α : Type} (f : α → List Byte) (l : List α) (start max : Nat) : List Byte :=
  let part := (l.drop start).take max
  u8 part.length ++ part.flatMap f

/-- The length and change count of a list. -/
def State.listSize (s : State) : ListName → Nat × Word16
  | .station => (s.lists.station.length, s.lists.stationCount)
  | .storage => (s.lists.storage.length, s.lists.storageCount)
  | .upLine => (s.lists.upLine.length, s.lists.upLineCount)
  | .summit => (s.lists.summit.length, s.lists.summitCount)
  | .downLine => (s.lists.downLine.length, s.lists.downLineCount)

/-- The entries of a list that a read returns. -/
def State.listSlice (s : State) (n : ListName) (start max : Nat) : List Byte :=
  match n with
  | .station => sliceData stationData s.lists.station start max
  | .storage => sliceData (fun c => cabinField (some c)) s.lists.storage start max
  | .upLine => sliceData lineData s.lists.upLine start max
  | .summit => sliceData lineData s.lists.summit start max
  | .downLine => sliceData lineData s.lists.downLine start max

/-- The code of a list (Table 13-1). -/
def ListName.code : ListName → Nat
  | .station => 0 | .storage => 1 | .upLine => 2 | .summit => 3 | .downLine => 4

/-- The data of READ_LIST (R14, section 13.2). -/
def listData (n : ListName) (start max : Nat) (s : State) : List Byte :=
  u8 n.code ++ u8 (s.listSize n).1 ++ u8 start ++ u16 (s.listSize n).2.toNat ++ s.listSlice n start max

/-! ### Rope (R37) -/

/-- The timing state of a source, the number of its periods and their sum (R37). -/
def sourceData (r : Source) : List Byte :=
  u8 (if r.kept.isSome then 0 else 1) ++ u8 r.window.length ++ u32 r.window.sum

/-- The tension average and the carriage position (R37). -/
def tensionData (s : State) : List Byte :=
  opt 2 u16 s.rmu.tensionAverage ++ opt 2 u16 s.carriage

/-- The data of READ_ROPE (R37). -/
def ropeData (s : State) : List Byte :=
  let r := s.rmu
  w32 r.rd ++ u16 r.rem ++ u8 r.direction.code ++ u16 r.mw.speed ++ flag r.mw.overrange ++ u16 r.bw.speed ++
    flag r.bw.overrange ++ sourceData r.mw ++ sourceData r.bw ++ i32 r.slip ++ rdField s r.slipStart ++
    condition s .overspeed ++ condition s .overspeedHigh ++ condition s .slip ++ condition s .tensionRange ++
    condition s .tensionLimit ++ u16 s.speedLimit ++ tensionData s ++ u8 r.tension.length ++
    s.asc.toList.flatMap (fun n => u16 n.toNat) ++ u16 r.jumps

/-! ### Station track (R61) -/

/-- The ten station inputs, in the order of R39. -/
def StationInput.all : List StationInput := [.arr, .opn, .cls, .lck, .grp, .gat, .att, .sti, .stm, .lckOk]

/-- The reader latch: its code, its RD and its distance (R61). -/
def latchData (s : State) (x : Option Latch) : List Byte :=
  opt 1 (fun l => u8 (BitVec.toNat l.code)) x ++ rdField s (x.map Latch.rd)

/-- The release in flight: its cabin, phase and completion RD (R61); the last is an optional field, absent in phase
OPENING, in which R58 has kept none yet (DESIGN CHOICE, log entry 20). -/
def releaseData (x : Option Release) : List Byte :=
  cabinField (x.map Release.cabin) ++ opt 1 (fun r => u8 (if r.completion.isSome then 1 else 0)) x ++
    opt 4 w32 (x.bind Release.completion)

/-- The data of READ_TRACK (R61). -/
def trackData (s : State) : List Byte :=
  StationInput.all.flatMap (fun i => flag (s.stu.inputs.get i).level) ++
    latchData s s.stu.latch ++ rdField s s.stu.lastArr ++
    flag s.clearanceMet ++ opt 1 (fun r => u8 (Route.code r)) s.stu.wanted ++ flag s.stu.throwPending ++
    releaseData s.stu.release ++ Segment.all.flatMap (fun g => u8 (s.segmentCount g)) ++
    u8 s.lists.storage.length ++ condition s .stationFull ++ condition s .stationStall ++ condition s .storageFull

/-! ### Drives (R81) -/

/-- The cabin and phase of a door task (R81). -/
def taskData (x : Option DoorTask) : List Byte :=
  cabinField (x.bind DoorTask.cabin) ++ opt 1 (fun t => u8 (TaskPhase.code t.phase)) x

/-- The start of a pause, absent in the other phases. -/
def TaskPhase.pauseStart : TaskPhase → Option Word32
  | .pause x => some x
  | .opening | .closing | .reversing | .returning => none

/-- A door task of the closer: also the reach reference, the distance since it, and the time since the pause start, an
optional field that is present in PAUSE (R81; DESIGN CHOICE, log entry 20). -/
def closerData (s : State) (x : Option DoorTask) : List Byte :=
  taskData x ++ rdField s (x.map DoorTask.reach) ++
    opt 4 (fun x => u32 (s.elapsed x)) (x.bind fun t => TaskPhase.pauseStart t.phase)

/-- The fields that every channel has (R81). -/
def channelData (s : State) (d : DriveChannel) : List Byte :=
  u8 d.state.code ++ flag d.endA.level ++ flag d.endB.level ++ opt 4 (fun x => u32 (s.elapsed x)) d.strokeStart ++
    u8 d.run ++ u16 d.latest ++ u16 d.peak ++ u8 d.retry

/-- The data of READ_DRIVES (R81). -/
def drivesData (s : State) : List Byte :=
  channelData s s.dru.opener ++ taskData s.dru.opener.task ++ channelData s s.dru.closer ++
    closerData s s.dru.closer.task ++ channelData s s.dru.switch ++ channelData s s.dru.release ++
    channelData s s.dru.gate ++ flag s.drivesHome

/-! ### Launch (R101) -/

/-- The grip window (R101). -/
def windowData (s : State) (x : Option GripWindow) : List Byte :=
  cabinField (x.bind GripWindow.cabin) ++ rdField s (x.map GripWindow.openRd) ++
    opt 2 (fun w => u16 (GripWindow.peak w)) x

/-- The force and result of the last window closed (R101). -/
def outcomeData (x : Option GripOutcome) : List Byte :=
  opt 2 (fun o => u16 (GripOutcome.force o)) x ++ opt 1 (fun o => u8 (GripResult.code o.result)) x

/-- The launch in flight (R101). -/
def flightData (x : Option Flight) : List Byte :=
  cabinField (x.map Flight.cabin) ++ opt 4 (fun f => w32 (Flight.launchRd f)) x ++
    opt 4 (fun f => u32 (Flight.spacing f)) x ++
    opt 1 (fun f => u8 (if Flight.left f then 1 else 0)) x ++ opt 1 (fun f => flag (Flight.stuck f)) x

/-- The hold start (R101). -/
def holdData (s : State) (x : Option HoldStart) : List Byte :=
  rdField s (x.map HoldStart.rd) ++ opt 1 (fun h => flag (HoldStart.used h)) x

/-- The data of READ_LAUNCH (R101). The candidate is a cabin field, so that 0 stands for an absent candidate and for an
unidentified one alike (R202). -/
def launchData (s : State) : List Byte :=
  windowData s s.lnu.window ++ outcomeData s.lnu.lastResult ++ rdField s s.lnu.rdL ++ cabinField s.candidateCabin ++
    s.launchConditions.flatMap flag ++ flightData s.lnu.flight ++ flag s.lnu.hostHold ++ holdData s s.lnu.hold

/-! ### Line (R118) -/

/-- Length, change count and head of a line list (R118). -/
def lineListData (s : State) (l : List LineEntry) (n : Word16) : List Byte :=
  u8 l.length ++ u16 n.toNat ++ cabinField (l.head?.map LineEntry.cabin) ++ rdField s (l.head?.map LineEntry.stamp)

/-- One of the two reasons for which the up-line check is suspended: an optional field, present while it is suspended
(R118; DESIGN CHOICE, log entry 20). -/
def suspensionData (s : State) (reason : Bool) : List Byte :=
  opt 1 flag (if s.upCheckRunning then none else some reason)

/-- The census wait (R118). -/
def waitData (s : State) (x : Option CensusWait) : List Byte :=
  opt 4 (fun w => u32 (s.elapsed (CensusWait.start w))) x ++
    opt 1 (fun w => u8 (if CensusWait.placed w then 1 else 0)) x

/-- The outcome of the last census wait (R118), coded in the order of R115 (DESIGN CHOICE, log entry 22). -/
def censusEndData (x : Option CensusEnd) : List Byte :=
  opt 1 (fun e => u8 (CensusOutcome.code e.outcome)) x ++ opt 4 (fun e => w32 (CensusEnd.ms e)) x

/-- The data of READ_LINE_TRACK (R118). -/
def lineTrackData (s : State) : List Byte :=
  lineListData s s.lists.upLine s.lists.upLineCount ++ lineListData s s.lists.summit s.lists.summitCount ++
    lineListData s s.lists.downLine s.lists.downLineCount ++ flag s.upCheckRunning ++
    suspensionData s (s.lkc.rx.sync != .locked) ++ suspensionData s s.ltu.wait.isSome ++
    cabinField s.ltu.overUp ++ cabinField s.ltu.overDown ++
    i32 s.earlyBound ++ i32 s.overdueBound ++ flag s.ltu.censusDue ++ waitData s s.ltu.wait ++
    censusEndData s.ltu.lastEnd

/-! ### Link (R138, R139) -/

/-- The held control word with each field as received, each an optional field (R138; DESIGN CHOICE for the form, log
entry 20). -/
def heldData (x : Option Word16) : List Byte :=
  opt 1 (fun w => u8 (ctlNumber w).toNat) x ++ opt 1 (fun w => flag (ctlPermit w)) x ++
    opt 1 (fun w => u8 (ctlStop w).toNat) x ++ opt 1 (fun w => flag (ctlPause w)) x ++
    opt 1 (fun w => u8 (ctlCodeA w).toNat) x ++ opt 1 (fun w => u8 (ctlCodeB w).toNat) x ++
    opt 1 (fun w => u8 (ctlMode w).toNat) x

/-- The applied far-end fields (R131, R138). -/
def appliedData (x : Applied) : List Byte :=
  flag x.permit ++ u8 x.stop.stopField.toNat ++ flag x.pause ++ u8 x.codeA.toNat ++ u8 x.codeB.toNat ++
    opt 1 (fun (m : BitVec 2) => u8 m.toNat) x.mode

/-- The receiver's part of READ_LINK (R138). -/
def receiverData (s : State) : List Byte :=
  let r := s.lkc.rx
  u8 r.sync.code ++ opt 1 u8 (if r.sync = .confirm then some r.confirm else none) ++
    opt 1 (fun (n : BitVec 4) => u8 n.toNat) r.expected ++ u8 r.badRun ++ u32 r.badTotal ++ u16 r.relocks ++
    opt 4 w32 r.outOfLock ++ opt 4 (fun x => u32 (s.elapsed x)) r.outOfLock ++ condition s .linkLost

/-- The data of READ_LINK (R138). -/
def linkData (s : State) : List Byte :=
  receiverData s ++ heldData s.lkc.rx.held ++ appliedData s.applied ++ u16 s.lkc.txCycle.control.toNat ++
    u8 (ctlNumber s.lkc.txCycle.control).toNat ++ condition s .summitStopSvc ++ condition s .summitStopEmg ++
    condition s .summitNotReady

/-- An entry of READ_TOWERS, 14 bytes, with one presence byte for its last two fields (section 13.2). -/
def towerData (s : State) (e : TowerEntry) : List Byte :=
  u8 e.state.code ++ u16 e.age ++ u16 e.run ++ opt 8 (fun x => w32 x ++ i32 (s.since x)) e.changeRd

/-- The data of READ_TOWERS (R139). -/
def towersData (start : Nat) (s : State) : List Byte :=
  let t := s.lkc.towers
  u8 t.entries.length ++ u8 start ++ u16 t.outOfRange ++ u16 t.invalidState ++ condition s .ropePosition ++
    condition s .ropeDerail ++ condition s .towerSilent ++ sliceData (towerData s) t.entries start 16

/-! ### Record channel (R154) -/

/-- The record in progress, with its progress (R154). Its kind is sent as its code of Table 8-1, 11h to 41h, and not as
a place in an order from 0 (DESIGN CHOICE, log entry 22). -/
def progressData (x : Option (Progress × TxRecord)) : List Byte :=
  opt 1 (fun x => u8 (RecordKind.code x.2.kind)) x ++
    opt 1 (fun x => u8 (if Progress.fromPriority x.1 then 0 else 1)) x ++
    opt 1 (fun x => u8 (Progress.sent x.1)) x ++ opt 1 (fun x => u8 (List.length x.2.body + 2)) x

/-- The record of the priority slot (R154), its kind as its code of Table 8-1 (DESIGN CHOICE, log entry 22). -/
def priorityData (x : Option TxRecord) : List Byte :=
  opt 1 (fun t => u8 (RecordKind.code t.kind)) x ++ opt 1 (fun t => u8 (TxRecord.heldSize t)) x

/-- The record being assembled (R154). -/
def assemblyData (x : Option Assembly) : List Byte :=
  opt 1 (fun a => u8 (List.length a.bytes)) x ++ opt 1 (fun a => flag (a.damaged || a.tooLong)) x

/-- The record in progress with its record. -/
def RecordChannel.progressing (r : RecordChannel) : Option (Progress × TxRecord) :=
  match r.progress, r.inProgress with
  | some p, some t => some (p, t)
  | _, _ => none

/-- The transmit side of READ_RECORD_CHANNEL (R154). -/
def transmitData (s : State) : List Byte :=
  let r := s.lkc.chan
  u8 r.queue.length ++ u8 r.occupancy ++ u8 r.hostOccupancy ++ u8 r.reservedBytes ++ flag r.canReserve ++
    priorityData r.priority ++ flag (s.ltu.wait.any fun w => !w.placed) ++ progressData r.progressing

/-- The data of READ_RECORD_CHANNEL (R154). The length of the oldest held text is an optional field, absent while no text
is held: R154 gives it no value then (DESIGN CHOICE, log entry 20). -/
def channelStateData (s : State) : List Byte :=
  let r := s.lkc.chan
  transmitData s ++ flag s.applied.pause ++ flag r.ownPause ++ u8 r.fill ++
    assemblyData r.assembly ++ u8 r.texts.length ++
    opt 1 (fun t => u8 (List.length t)) r.texts.head? ++ u16 r.sent ++ u16 r.received ++ u16 r.discarded ++
    u16 r.dropped

/-! ### Calls (R168) -/

/-- A call timer: its kind and the time since its start (R168). -/
def timerData (s : State) (x : Option CallTimer) : List Byte :=
  opt 1 (fun t => u8 (TimerKind.code t.kind)) x ++ opt 4 (fun t => u32 (s.elapsed (CallTimer.start t))) x

/-- One call channel (R168); `applied` is the applied far code as the Line Link Controller presents it. -/
def callData (s : State) (r : CallRecord) (applied : BitVec 3) : List Byte :=
  u8 r.state.code ++ opt 1 (fun o => u8 (CallOrigin.code o)) r.origin ++ u8 r.state.sentCode.code ++ u8 r.farCode.code ++
    u8 applied.toNat ++ timerData s r.timer ++ flag r.ring ++
    u8 r.holdCount ++ opt 1 (fun w => u8 (CallReason.code w)) r.last ++ u16 r.undefined

/-- The data of READ_CALLS (R168). -/
def callsData (s : State) : List Byte :=
  callData s s.phn.a s.applied.codeA ++ callData s s.phn.b s.applied.codeB ++ condition s .linkLost

/-! ### Causes (R183) -/

/-- An entry of READ_CAUSES, 14 bytes (section 13.2). -/
def causeData (s : State) (c : Cause) : List Byte :=
  let e := s.cause c
  let bits := (if e.active then 1 else 0) + (if e.latched then 2 else 0) + (if e.first.isSome then 4 else 0)
  let stamps := match e.first with
    | some f => w32 f.rd ++ w32 f.ms ++ u8 f.detail.code
    | none => List.replicate 9 0
  u8 c.number ++ u8 c.category.code ++ u8 bits ++ u8 e.count ++ stamps ++ u8 e.last.code

/-- The entries of a selection, in order of cause number: all, or those standing (R183). -/
def State.selection (s : State) (standing : Bool) : List Cause :=
  if standing then Cause.all.filter fun c => (s.cause c).standing else Cause.all

/-- Mode, effective demand, RESTRICTED and the stop lines. -/
def stopData (s : State) : List Byte :=
  u8 s.ssv.mode.code ++ u8 s.ssv.demand.code ++ flag s.ssv.restricted ++ u8 s.ssv.lines.code

/-- The data of READ_CAUSES (R183). -/
def causesData (standing : Bool) (start : Nat) (s : State) : List Byte :=
  let l := s.selection standing
  stopData s ++ u8 l.length ++ u8 start ++ sliceData (causeData s) l start 16

/-! ### Tally, identity and status (R189, R194, R197) -/

/-- One counter record (Table 11-1). -/
def counterData (k : Counter) : List Byte :=
  flag k.enable ++ u8 k.source.code ++ u8 k.threshold ++ flag k.invert ++ flag k.edge ++ flag k.notify ++ flag k.member ++
    flag k.trigger ++ w32 k.value ++ flag k.overflow ++ flag k.last

/-- The data of READ_TALLY (R189). The eight records are a fixed set and come without a count byte: whether they are a
list of entries in the sense of R202 is open (DESIGN CHOICE, log entry 20). -/
def tallyData (s : State) : List Byte := flag s.tal.frozen ++ s.tal.counters.toList.flatMap counterData

/-- The data of IDENTIFY (R194). -/
def identityData (s : State) : List Byte := u16 0x0410 ++ u8 1 ++ u8 s.resetCause.code ++ w32 s.clock.ms

/-- The data of READ_STATUS (R194). -/
def statusData (s : State) : List Byte :=
  stopData s ++ u8 s.pfs.status.code ++ flag s.pfs.commit.isSome ++ u16 s.pfs.writes ++ u8 s.lkc.rx.sync.code ++
    condition s .linkLost ++ u16 s.rmu.mw.speed ++ u16 s.rmu.bw.speed ++ w32 s.rmu.rd ++ u8 s.rmu.direction.code ++
    i32 s.rmu.slip ++ opt 2 u16 s.carriage ++ u8 s.lists.station.length ++ u8 s.lists.storage.length ++
    u8 s.lists.upLine.length ++ u8 s.lists.summit.length ++ u8 s.lists.downLine.length ++ u8 s.lkc.chan.fill ++
    u16 s.spt.badFrames ++ u16 s.spt.dropRequest ++ u16 s.spt.dropNotice

/-- The data of READ_PARAM (R197). The range is sent as two values of four bytes, the lower bound and then the upper:
R197 names it as one item, and R202 and R203 give a range no form (DESIGN CHOICE, log entry 20). While a commit is in
flight the stored value is that of the stored copy as it stood before it, until COMMIT_COMPLETION replaces the copy:
R197 to R199 do not say (DESIGN CHOICE, log entry 46). -/
def paramData (q : Param) (s : State) : List Byte :=
  u32 (s.pfs.working.get q) ++ u32 (s.pfs.stored.contents.params.get q) ++ u32 q.lo ++ u32 (q.hi s.pfs.working) ++
    u32 q.dflt ++ u8 s.pfs.status.code

end Sys2Proof.Machine
end

