-- ==== Sys2Proof/Machine/Cabins.lean ====
section
/-! DEFINITION. The requests on cabins and lists (R10 to R18). -/

namespace Sys2Proof.Machine

/-- A cabin operand, and the rule that takes it; anything else is a value outside its codes (R10 check 1). -/
def cabinRule (f : Cabin → State → Answer) (body : List Byte) (s : State) : Answer :=
  match body with
  | [c] => withArg (cabinArg c) fun c => f c s
  | _ => .refuse .badLength []

/-- A cabin is not registered. -/
def State.unknownCabin (s : State) (c : Cabin) : Bool := !(s.cab c).registered

/-- The mode is not SERVICE. -/
def State.notService (s : State) : Bool := s.ssv.mode != .service

/-- A commit is in flight (R199). -/
def State.committing (s : State) : Bool := s.pfs.commit.isSome

/-- A cabin is UNPLACED or WITHDRAWN. -/
def State.aside (s : State) (c : Cabin) : Bool :=
  (s.cab c).location == .unplaced || (s.cab c).location == .withdrawn

/-- The record that REGISTER_CABIN leaves: a new registration, or the count replaced and the due flag recomputed
(R11). The working profile keeps the launch count last loaded or committed, absent for a new registration (R196;
DESIGN CHOICE, log entry 48). -/
def CabinRecord.registeredAs (p : Params) (n : Nat) (r : CabinRecord) : CabinRecord :=
  { r with registered := true, launches := n, due := dueOf p n }

/-- REGISTER_CABIN (R11). -/
def registerCabinRule (body : List Byte) (s : State) : Answer :=
  match body with
  | [c, h, l] =>
    withArg (cabinArg c) fun c =>
      checks
        [ (s.notService, .wrongMode), (s.committing, .busy),
          ((s.cab c).registered && !s.aside c, .wrongState) ]
        (.ok (modified (putCab c ((s.cab c).registeredAs s.pfs.working (be16 h l)) s)) [])
  | _ => .refuse .badLength []

/-- The request REGISTER_CABIN, KIND 01h (Table 12-3). -/
def registerCabinRequest : Request :=
  { kind := 0x01, length := some 3, always := false, handle := registerCabinRule }

/-- REGISTER_CABIN is taken at the station port (R11). -/
def execRegisterCabin (tag : Byte) (body : List Byte) (s : State) : Host.Outcome State Fault Refusal :=
  done (serve registerCabinRequest tag body s)

/-- UNREGISTER_CABIN (R12): the number takes the unregistered record, and the working profile holds no launch count for
it any more (R196). -/
def unregisterCabinRule : List Byte → State → Answer :=
  cabinRule fun c s =>
    checks
      [ (s.notService, .wrongMode), (s.committing, .busy), (s.unknownCabin c, .notFound),
        (!s.aside c, .wrongState) ]
      (.ok (modified (forgetCount c (putCab c CabinRecord.unregistered s))) [])

/-- The request UNREGISTER_CABIN, KIND 02h (Table 12-3). -/
def unregisterCabinRequest : Request :=
  { kind := 0x02, length := some 1, always := false, handle := unregisterCabinRule }

/-- UNREGISTER_CABIN is taken at the station port (R12). -/
def execUnregisterCabin (tag : Byte) (body : List Byte) (s : State) : Host.Outcome State Fault Refusal :=
  done (serve unregisterCabinRequest tag body s)

/-- READ_CABIN (R13). -/
def readCabinRule : List Byte → State → Answer := cabinRule fun c s => .read (cabinData c s)

/-- The request READ_CABIN, KIND 03h (Table 12-3). -/
def readCabinRequest : Request :=
  { kind := 0x03, length := some 1, always := false, handle := readCabinRule }

/-- READ_CABIN is taken at the station port (R13). -/
def execReadCabin (tag : Byte) (body : List Byte) (s : State) : Host.Outcome State Fault Refusal :=
  done (serve readCabinRequest tag body s)

/-- READ_LIST (R14). -/
def readListRule (body : List Byte) (s : State) : Answer :=
  match body with
  | [n, start, max] =>
    withArg (listArg n) fun n =>
      checks
        [ (decide (max.toNat < 1) || decide (24 < max.toNat), .badValue),
          (decide ((s.listSize n).1 < start.toNat), .notFound) ]
        (.read (listData n start.toNat max.toNat s))
  | _ => .refuse .badLength []

/-- The request READ_LIST, KIND 04h (Table 12-3). -/
def readListRequest : Request :=
  { kind := 0x04, length := some 3, always := false, handle := readListRule }

/-- READ_LIST is taken at the station port (R14). -/
def execReadList (tag : Byte) (body : List Byte) (s : State) : Host.Outcome State Fault Refusal :=
  done (serve readListRequest tag body s)

/-- A cabin is located in one of the five lists. -/
def Location.inList : Location → Bool
  | .station | .storage | .upLine | .summit | .downLine => true
  | .unplaced | .withdrawn | .lost => false

/-- A cabin is part of an operation under way: the launch in flight, or the release from storage (R15). -/
def State.underWay (s : State) (c : Cabin) : Bool :=
  (s.lnu.flight.any fun f => f.cabin == c) || (s.stu.release.isSome && s.lists.storage.head? == some c)

/-- A cabin is withdrawn: its entry leaves its list, its pass starts afresh, its location is WITHDRAWN (R15). -/
def withdraw (c : Cabin) (s : State) : State :=
  let s := leaveList c s
  putCab c { freshPass (s.cab c) with location := .withdrawn } s

/-- WITHDRAW_CABIN (R15). -/
def withdrawCabinRule : List Byte → State → Answer :=
  cabinRule fun c s =>
    checks [ (s.unknownCabin c, .notFound), (!(s.cab c).location.inList || s.underWay c, .wrongState) ]
      (.ok (event (withdraw c) s) [])

/-- The request WITHDRAW_CABIN, KIND 05h (Table 12-3). -/
def withdrawCabinRequest : Request :=
  { kind := 0x05, length := some 1, always := false, handle := withdrawCabinRule }

/-- WITHDRAW_CABIN is taken at the station port (R15). -/
def execWithdrawCabin (tag : Byte) (body : List Byte) (s : State) : Host.Outcome State Fault Refusal :=
  done (serve withdrawCabinRequest tag body s)

/-- A cabin is placed at the tail of the storage list, its pass afresh (R16). -/
def reinstate (c : Cabin) (s : State) : State :=
  let s := intoStorage c s
  putCab c (freshPass (s.cab c)) s

/-- REINSTATE_CABIN (R16). -/
def reinstateCabinRule : List Byte → State → Answer :=
  cabinRule fun c s =>
    checks [ (s.notService, .wrongMode), (s.unknownCabin c, .notFound), (!s.aside c, .wrongState) ]
      (.ok (event (reinstate c) s) [])

/-- The request REINSTATE_CABIN, KIND 06h (Table 12-3). -/
def reinstateCabinRequest : Request :=
  { kind := 0x06, length := some 1, always := false, handle := reinstateCabinRule }

/-- REINSTATE_CABIN is taken at the station port (R16). -/
def execReinstateCabin (tag : Byte) (body : List Byte) (s : State) : Host.Outcome State Fault Refusal :=
  done (serve reinstateCabinRequest tag body s)

/-- The retire flag of a cabin changes; at the down-line head the wanted route is computed again (R5). -/
def retire (c : Cabin) (on : Bool) (s : State) : State :=
  let s := putCab c { s.cab c with retire := on } s
  if headCabin s.lists.downLine = some c then routeCompute s else s

/-- RETIRE_CABIN (R17). -/
def retireCabinRule (body : List Byte) (s : State) : Answer :=
  match body with
  | [c, on] =>
    withArg (cabinArg c) fun c => withArg (flagArg on) fun on =>
      checks [ (s.unknownCabin c, .notFound) ]
        (if (s.cab c).retire = on then .read [] else .ok (event (retire c on) s) [])
  | _ => .refuse .badLength []

/-- The request RETIRE_CABIN, KIND 07h (Table 12-3). -/
def retireCabinRequest : Request :=
  { kind := 0x07, length := some 2, always := false, handle := retireCabinRule }

/-- RETIRE_CABIN is taken at the station port (R17). -/
def execRetireCabin (tag : Byte) (body : List Byte) (s : State) : Host.Outcome State Fault Refusal :=
  done (serve retireCabinRequest tag body s)

/-- CABIN_SERVICED (R18). -/
def cabinServicedRule : List Byte → State → Answer :=
  cabinRule fun c s =>
    checks
      [ (s.unknownCabin c, .notFound),
        (!((s.cab c).location == .storage || (s.cab c).location == .withdrawn), .wrongState) ]
      (.ok (putCab c { s.cab c with launches := 0, due := false } s) [])

/-- The request CABIN_SERVICED, KIND 08h (Table 12-3). -/
def cabinServicedRequest : Request :=
  { kind := 0x08, length := some 1, always := false, handle := cabinServicedRule }

/-- CABIN_SERVICED is taken at the station port (R18). -/
def execCabinServiced (tag : Byte) (body : List Byte) (s : State) : Host.Outcome State Fault Refusal :=
  done (serve cabinServicedRequest tag body s)

end Sys2Proof.Machine
end

