-- ==== Sys2Proof/Machine/StationRequests.lean ====
section
/-! DEFINITION. The requests on rope, station track, drives and launches (chapters 2 to 5). -/

namespace Sys2Proof.Machine

/-- READ_ROPE (R37). -/
def readRopeRule (_ : List Byte) (s : State) : Answer := .read (ropeData s)

/-- The request READ_ROPE, KIND 09h (Table 12-3). -/
def readRopeRequest : Request :=
  { kind := 0x09, length := some 0, always := false, handle := readRopeRule }

/-- READ_ROPE is taken at the station port (R37). -/
def execReadRope (tag : Byte) (body : List Byte) (s : State) : Host.Outcome State Fault Refusal :=
  done (serve readRopeRequest tag body s)

/-- An unidentified entry is bound to a cabin, when the cabin may be bound (R60). -/
def bindAnswer (e : StationEntry) (c : Cabin) (s : State) : Answer :=
  match e.who with
  | .cabin _ => .refuse .wrongState []
  | .unidentified r f =>
    checks [ (!((s.cab c).location == .unplaced || (s.cab c).location == .lost), .wrongState) ]
      (.ok (event (bindEntry e r f c) s) [])

/-- BIND_ENTRY (R60). -/
def bindEntryRule (body : List Byte) (s : State) : Answer :=
  match body with
  | [position, c] =>
    withArg (cabinArg c) fun c =>
      if s.unknownCabin c then .refuse .notFound []
      else
        match s.lists.station[position.toNat]? with
        | none => .refuse .notFound []
        | some e => bindAnswer e c s
  | _ => .refuse .badLength []

/-- The request BIND_ENTRY, KIND 0Ah (Table 12-3). -/
def bindEntryRequest : Request :=
  { kind := 0x0A, length := some 2, always := false, handle := bindEntryRule }

/-- BIND_ENTRY is taken at the station port (R60). -/
def execBindEntry (tag : Byte) (body : List Byte) (s : State) : Host.Outcome State Fault Refusal :=
  done (serve bindEntryRequest tag body s)

/-- SET_SWITCH (R54). -/
def setSwitchRule (body : List Byte) (s : State) : Answer :=
  match body with
  | [r] =>
    withArg (routeArg r) fun r =>
      let st := s.dru.switch.state
      checks
        [ (s.notService, .wrongMode),
          (st == .fault || (st == .unknown && r == .store), .wrongState),
          (!s.clearanceMet, .busy) ]
        (if st = atEnd r.end then .read [] else .ok (commandDrive .switch r.end s) [])
  | _ => .refuse .badLength []

/-- The request SET_SWITCH, KIND 0Bh (Table 12-3). -/
def setSwitchRequest : Request :=
  { kind := 0x0B, length := some 1, always := false, handle := setSwitchRule }

/-- SET_SWITCH is taken at the station port (R54). -/
def execSetSwitch (tag : Byte) (body : List Byte) (s : State) : Host.Outcome State Fault Refusal :=
  done (serve setSwitchRequest tag body s)

/-- A release from storage begins for the storage head (R57). -/
def releaseHead (c : Cabin) (s : State) : State :=
  commandDrive .release .b (putStu { s.stu with release := some { cabin := c, completion := none } } s)

/-- RELEASE_FROM_STORAGE (R57). -/
def releaseFromStorageRule (_ : List Byte) (s : State) : Answer :=
  if s.ssv.mode == .start || s.ssv.mode == .off then .refuse .wrongMode []
  else
    match s.lists.storage.head? with
    | none => .refuse .notFound []
    | some c =>
      checks
        [ (s.stu.release.isSome, .busy), (s.dru.release.state != .atA, .wrongState),
          (s.segmentCount .opn != 0, .refused) ]
        (.ok (releaseHead c s) [])

/-- The request RELEASE_FROM_STORAGE, KIND 0Ch (Table 12-3). -/
def releaseFromStorageRequest : Request :=
  { kind := 0x0C, length := some 0, always := false, handle := releaseFromStorageRule }

/-- RELEASE_FROM_STORAGE is taken at the station port (R57). -/
def execReleaseFromStorage (tag : Byte) (body : List Byte) (s : State) : Host.Outcome State Fault Refusal :=
  done (serve releaseFromStorageRequest tag body s)

/-- READ_TRACK (R61). -/
def readTrackRule (_ : List Byte) (s : State) : Answer := .read (trackData s)

/-- The request READ_TRACK, KIND 0Dh (Table 12-3). -/
def readTrackRequest : Request :=
  { kind := 0x0D, length := some 0, always := false, handle := readTrackRule }

/-- READ_TRACK is taken at the station port (R61). -/
def execReadTrack (tag : Byte) (body : List Byte) (s : State) : Host.Outcome State Fault Refusal :=
  done (serve readTrackRequest tag body s)

/-- A channel state that bars a test stroke toward an end (R80 check 3). -/
def DriveChannel.barsTest (d : DriveChannel) (e : End) : Bool :=
  match e with
  | .b => d.state == .unknown || d.state == .fault
  | .a => d.state == .fault && d.endA.level && d.endB.level

/-- A channel is busy with a door task, a release or a launch (R80 check 4). -/
def State.testBusy (s : State) (ch : Channel) : Bool :=
  match ch with
  | .opener | .closer => (s.dru.get ch).task.isSome
  | .release => s.stu.release.isSome
  | .gate => s.lnu.flight.isSome
  | .switch => false

/-- DRIVE_TEST (R80). -/
def driveTestRule (body : List Byte) (s : State) : Answer :=
  match body with
  | [ch, e] =>
    withArg (channelOfCode ch.toNat) fun ch => withArg (endArg e) fun e =>
      checks
        [ (s.notService, .wrongMode), ((s.dru.get ch).barsTest e, .wrongState), (s.testBusy ch, .busy),
          (ch == .switch && !s.clearanceMet, .busy) ]
        (.ok (testDrive ch e s) [])
  | _ => .refuse .badLength []

/-- The request DRIVE_TEST, KIND 0Eh (Table 12-3). -/
def driveTestRequest : Request :=
  { kind := 0x0E, length := some 2, always := false, handle := driveTestRule }

/-- DRIVE_TEST is taken at the station port (R80). -/
def execDriveTest (tag : Byte) (body : List Byte) (s : State) : Host.Outcome State Fault Refusal :=
  done (serve driveTestRequest tag body s)

/-- READ_DRIVES (R81). -/
def readDrivesRule (_ : List Byte) (s : State) : Answer := .read (drivesData s)

/-- The request READ_DRIVES, KIND 0Fh (Table 12-3). -/
def readDrivesRequest : Request :=
  { kind := 0x0F, length := some 0, always := false, handle := readDrivesRule }

/-- READ_DRIVES is taken at the station port (R81). -/
def execReadDrives (tag : Byte) (body : List Byte) (s : State) : Host.Outcome State Fault Refusal :=
  done (serve readDrivesRequest tag body s)

/-- HOLD_LAUNCHES (R100). -/
def holdLaunchesRule (_ : List Byte) (s : State) : Answer := .ok (event (putLnu { s.lnu with hostHold := true }) s) []

/-- The request HOLD_LAUNCHES, KIND 10h (Table 12-3). -/
def holdLaunchesRequest : Request :=
  { kind := 0x10, length := some 0, always := false, handle := holdLaunchesRule }

/-- HOLD_LAUNCHES is taken at the station port (R100). -/
def execHoldLaunches (tag : Byte) (body : List Byte) (s : State) : Host.Outcome State Fault Refusal :=
  done (serve holdLaunchesRequest tag body s)

/-- RESUME_LAUNCHES (R100). -/
def resumeLaunchesRule (_ : List Byte) (s : State) : Answer := .ok (event (putLnu { s.lnu with hostHold := false }) s) []

/-- The request RESUME_LAUNCHES, KIND 11h (Table 12-3). -/
def resumeLaunchesRequest : Request :=
  { kind := 0x11, length := some 0, always := false, handle := resumeLaunchesRule }

/-- RESUME_LAUNCHES is taken at the station port (R100). -/
def execResumeLaunches (tag : Byte) (body : List Byte) (s : State) : Host.Outcome State Fault Refusal :=
  done (serve resumeLaunchesRequest tag body s)

/-- READ_LAUNCH (R101). -/
def readLaunchRule (_ : List Byte) (s : State) : Answer := .read (launchData s)

/-- The request READ_LAUNCH, KIND 12h (Table 12-3). -/
def readLaunchRequest : Request :=
  { kind := 0x12, length := some 0, always := false, handle := readLaunchRule }

/-- READ_LAUNCH is taken at the station port (R101). -/
def execReadLaunch (tag : Byte) (body : List Byte) (s : State) : Host.Outcome State Fault Refusal :=
  done (serve readLaunchRequest tag body s)

end Sys2Proof.Machine
end

