-- ==== Sys2Proof/Machine/LineRequests.lean ====
section
/-! DEFINITION. The requests on the line, the link, line records and calls (chapters 6 to 9). -/

namespace Sys2Proof.Machine

/-- A cabin is located on the line. -/
def Location.onLine : Location → Bool
  | .upLine | .summit | .downLine => true
  | .unplaced | .storage | .station | .withdrawn | .lost => false

/-- DECLARE_LOST (R112). -/
def declareLostRule : List Byte → State → Answer :=
  cabinRule fun c s =>
    checks [ (s.unknownCabin c, .notFound), (!(s.cab c).location.onLine, .wrongState) ] (.ok (event (declareLost c) s) [])

/-- The request DECLARE_LOST, KIND 13h (Table 12-3). -/
def declareLostRequest : Request :=
  { kind := 0x13, length := some 1, always := false, handle := declareLostRule }

/-- DECLARE_LOST is taken at the station port (R112). -/
def execDeclareLost (tag : Byte) (body : List Byte) (s : State) : Host.Outcome State Fault Refusal :=
  done (serve declareLostRequest tag body s)

/-- READ_LINE_TRACK (R118). -/
def readLineTrackRule (_ : List Byte) (s : State) : Answer := .read (lineTrackData s)

/-- The request READ_LINE_TRACK, KIND 14h (Table 12-3). -/
def readLineTrackRequest : Request :=
  { kind := 0x14, length := some 0, always := false, handle := readLineTrackRule }

/-- READ_LINE_TRACK is taken at the station port (R118). -/
def execReadLineTrack (tag : Byte) (body : List Byte) (s : State) : Host.Outcome State Fault Refusal :=
  done (serve readLineTrackRequest tag body s)

/-- READ_LINK (R138). -/
def readLinkRule (_ : List Byte) (s : State) : Answer := .read (linkData s)

/-- The request READ_LINK, KIND 15h (Table 12-3). -/
def readLinkRequest : Request :=
  { kind := 0x15, length := some 0, always := false, handle := readLinkRule }

/-- READ_LINK is taken at the station port (R138). -/
def execReadLink (tag : Byte) (body : List Byte) (s : State) : Host.Outcome State Fault Refusal :=
  done (serve readLinkRequest tag body s)

/-- READ_TOWERS (R139). -/
def readTowersRule (body : List Byte) (s : State) : Answer :=
  match body with
  | [start] =>
    checks [ (decide (s.lkc.towers.entries.length < start.toNat), .notFound) ] (.read (towersData start.toNat s))
  | _ => .refuse .badLength []

/-- The request READ_TOWERS, KIND 16h (Table 12-3). -/
def readTowersRequest : Request :=
  { kind := 0x16, length := some 1, always := false, handle := readTowersRule }

/-- READ_TOWERS is taken at the station port (R139). -/
def execReadTowers (tag : Byte) (body : List Byte) (s : State) : Host.Outcome State Fault Refusal :=
  done (serve readTowersRequest tag body s)

/-- A host text of a held size finds no room in the transmit queue (R147). -/
def RecordChannel.noRoom (r : RecordChannel) (size : Nat) : Bool :=
  decide (96 < r.hostOccupancy + size) || decide (128 < r.occupancy + r.reservedBytes + size)

/-- A TEXT record of the host. -/
def hostText (text : List Byte) : TxRecord := { kind := .text, body := text, origin := .host }

/-- SEND_LINE_TEXT (R147). -/
def sendLineTextRule (text : List Byte) (s : State) : Answer :=
  checks
    [ (decide (text.length < 1) || decide (48 < text.length), .badValue),
      (s.lkc.chan.noRoom (1 + text.length), .full) ]
    (.ok (event (queueRecord (hostText text)) s) [])

/-- The request SEND_LINE_TEXT, KIND 17h (Table 12-3). -/
def sendLineTextRequest : Request :=
  { kind := 0x17, length := none, always := false, handle := sendLineTextRule }

/-- SEND_LINE_TEXT is taken at the station port (R147). -/
def execSendLineText (tag : Byte) (body : List Byte) (s : State) : Host.Outcome State Fault Refusal :=
  done (serve sendLineTextRequest tag body s)

/-- SEND_PRIORITY_TEXT (R147). -/
def sendPriorityTextRule (text : List Byte) (s : State) : Answer :=
  checks
    [ (!priorityLength text, .badValue), (s.lkc.chan.priority.isSome, .busy) ]
    (.ok (putChan { s.lkc.chan with priority := some (hostText text) } s) [])

/-- The request SEND_PRIORITY_TEXT, KIND 18h (Table 12-3). -/
def sendPriorityTextRequest : Request :=
  { kind := 0x18, length := none, always := false, handle := sendPriorityTextRule }

/-- SEND_PRIORITY_TEXT is taken at the station port (R147). -/
def execSendPriorityText (tag : Byte) (body : List Byte) (s : State) : Host.Outcome State Fault Refusal :=
  done (serve sendPriorityTextRequest tag body s)

/-- READ_LINE_TEXT (R153). -/
def readLineTextRule (_ : List Byte) (s : State) : Answer :=
  match s.lkc.chan.texts with
  | [] => .refuse .notFound []
  | text :: rest => .ok (freeText s) (text ++ u8 rest.length)

/-- The request READ_LINE_TEXT, KIND 19h (Table 12-3). -/
def readLineTextRequest : Request :=
  { kind := 0x19, length := some 0, always := false, handle := readLineTextRule }

/-- READ_LINE_TEXT is taken at the station port (R153). -/
def execReadLineText (tag : Byte) (body : List Byte) (s : State) : Host.Outcome State Fault Refusal :=
  done (serve readLineTextRequest tag body s)

/-- READ_RECORD_CHANNEL (R154). -/
def readRecordChannelRule (_ : List Byte) (s : State) : Answer := .read (channelStateData s)

/-- The request READ_RECORD_CHANNEL, KIND 1Ah (Table 12-3). -/
def readRecordChannelRequest : Request :=
  { kind := 0x1A, length := some 0, always := false, handle := readRecordChannelRule }

/-- READ_RECORD_CHANNEL is taken at the station port (R154). -/
def execReadRecordChannel (tag : Byte) (body : List Byte) (s : State) : Host.Outcome State Fault Refusal :=
  done (serve readRecordChannelRequest tag body s)

/-- A call channel operand, and the rule that takes it (R167). -/
def callRule (f : CallChannel → State → Answer) (body : List Byte) (s : State) : Answer :=
  match body with
  | [ch] => withArg (callArg ch) fun ch => f ch s
  | _ => .refuse .badLength []

/-- PLACE_CALL (R167). -/
def placeCallRule : List Byte → State → Answer :=
  callRule fun ch s =>
    checks [ (s.active .linkLost, .refused), ((s.call ch).state != .idle, .busy) ] (.ok (placeCall ch s) [])

/-- The request PLACE_CALL, KIND 1Bh (Table 12-3). -/
def placeCallRequest : Request :=
  { kind := 0x1B, length := some 1, always := false, handle := placeCallRule }

/-- PLACE_CALL is taken at the station port (R167). -/
def execPlaceCall (tag : Byte) (body : List Byte) (s : State) : Host.Outcome State Fault Refusal :=
  done (serve placeCallRequest tag body s)

/-- ANSWER_CALL (R167). -/
def answerCallRule : List Byte → State → Answer :=
  callRule fun ch s => checks [ ((s.call ch).state != .ringing, .wrongState) ] (.ok (toConnected ch s) [])

/-- The request ANSWER_CALL, KIND 1Ch (Table 12-3). -/
def answerCallRequest : Request :=
  { kind := 0x1C, length := some 1, always := false, handle := answerCallRule }

/-- ANSWER_CALL is taken at the station port (R167). -/
def execAnswerCall (tag : Byte) (body : List Byte) (s : State) : Host.Outcome State Fault Refusal :=
  done (serve answerCallRequest tag body s)

/-- END_CALL (R167). -/
def endCallRule : List Byte → State → Answer :=
  callRule fun ch s =>
    match (s.call ch).state with
    | .idle | .clearing => .read []
    | .seizing | .ringback | .ringing | .connected => .ok (toClearing ch .localClear s) []

/-- The request END_CALL, KIND 1Dh (Table 12-3). -/
def endCallRequest : Request :=
  { kind := 0x1D, length := some 1, always := false, handle := endCallRule }

/-- END_CALL is taken at the station port (R167). -/
def execEndCall (tag : Byte) (body : List Byte) (s : State) : Host.Outcome State Fault Refusal :=
  done (serve endCallRequest tag body s)

/-- READ_CALLS (R168). -/
def readCallsRule (_ : List Byte) (s : State) : Answer := .read (callsData s)

/-- The request READ_CALLS, KIND 1Eh (Table 12-3). -/
def readCallsRequest : Request :=
  { kind := 0x1E, length := some 0, always := false, handle := readCallsRule }

/-- READ_CALLS is taken at the station port (R168). -/
def execReadCalls (tag : Byte) (body : List Byte) (s : State) : Host.Outcome State Fault Refusal :=
  done (serve readCallsRequest tag body s)

end Sys2Proof.Machine
end

