-- ==== Sys2Proof/Machine/StopRequests.lean ====
section
/-! DEFINITION. The requests on stops, modes and restricted running (chapter 10). -/

namespace Sys2Proof.Machine

/-- An acknowledgement of one cause (R173). -/
def ackAnswer (c : Cause) (s : State) : Answer :=
  if s.ackBarred c then .refuse .stillActive []
  else if !(s.cause c).standing then .read []
  else if s.ackNeedsRest c then .refuse .refused []
  else .ok (event (ackOne c) s) []

/-- ACK_CAUSE (R173, R174). -/
def ackCauseRule (body : List Byte) (s : State) : Answer :=
  match body with
  | [c] => withArg (Cause.ofNumber c.toNat) fun c => ackAnswer c s
  | _ => .refuse .badLength []

/-- The request ACK_CAUSE, KIND 1Fh (Table 12-3). -/
def ackCauseRequest : Request :=
  { kind := 0x1F, length := some 1, always := false, handle := ackCauseRule }

/-- ACK_CAUSE is taken at the station port (R173). -/
def execAckCause (tag : Byte) (body : List Byte) (s : State) : Host.Outcome State Fault Refusal :=
  done (serve ackCauseRequest tag body s)

/-- ACK_ALL (R175): the reply carries the number of entries cleared and of entries still standing. -/
def ackAllRule (_ : List Byte) (s : State) : Answer :=
  .ok (event ackEvery s) (u8 s.clearables.length ++ u8 (ackEvery s).standingCount)

/-- The request ACK_ALL, KIND 20h (Table 12-3). -/
def ackAllRequest : Request :=
  { kind := 0x20, length := some 0, always := false, handle := ackAllRule }

/-- ACK_ALL is taken at the station port (R175). -/
def execAckAll (tag : Byte) (body : List Byte) (s : State) : Host.Outcome State Fault Refusal :=
  done (serve ackAllRequest tag body s)

/-- HOST_STOP (R174). -/
def hostStopRule (body : List Byte) (s : State) : Answer :=
  match body with
  | [k] =>
    withArg (hostStopArg k) fun c => if s.active c then .read [] else .ok (event (reportActive c .absent) s) []
  | _ => .refuse .badLength []

/-- The request HOST_STOP, KIND 21h (Table 12-3). -/
def hostStopRequest : Request :=
  { kind := 0x21, length := some 1, always := false, handle := hostStopRule }

/-- HOST_STOP is taken at the station port (R174). -/
def execHostStop (tag : Byte) (body : List Byte) (s : State) : Host.Outcome State Fault Refusal :=
  done (serve hostStopRequest tag body s)

/-- LIFT_RESTRICTION (R177). -/
def liftRestrictionRule (_ : List Byte) (s : State) : Answer :=
  if !s.ssv.restricted then .read []
  else
    checks
      [ (!s.atRest, .refused), (s.latchedIn fun d => d == .service || d == .emergency, .refused) ]
      (.ok (event (fun s => modeNotice (putRestricted false s)) s) [])

/-- The request LIFT_RESTRICTION, KIND 22h (Table 12-3). -/
def liftRestrictionRequest : Request :=
  { kind := 0x22, length := some 0, always := false, handle := liftRestrictionRule }

/-- LIFT_RESTRICTION is taken at the station port (R177). -/
def execLiftRestriction (tag : Byte) (body : List Byte) (s : State) : Host.Outcome State Fault Refusal :=
  done (serve liftRestrictionRequest tag body s)

/-- KEEPALIVE (R178, R179): the reply says how it was judged. -/
def keepaliveRule (_ : List Byte) (s : State) : Answer := .ok (event keepAlive s) (u8 s.keepJudged.code)

/-- The request KEEPALIVE, KIND 23h (Table 12-3). -/
def keepaliveRequest : Request :=
  { kind := 0x23, length := some 0, always := false, handle := keepaliveRule }

/-- KEEPALIVE is taken at the station port (R178, R179). -/
def execKeepalive (tag : Byte) (body : List Byte) (s : State) : Host.Outcome State Fault Refusal :=
  done (serve keepaliveRequest tag body s)

/-- Some EMERGENCY entry is latched (R181 check 3). -/
def State.emergencyLatched (s : State) : Bool := s.latchedIn fun d => d == .emergency

/-- The checks of SET_MODE(RUN) in SERVICE (R181). -/
def State.runChecks (s : State) : List (Bool × Status) :=
  [ (s.committing, .busy), (s.pfs.status != .valid, .wrongState), (s.emergencyLatched, .wrongState),
    (!s.drivesHome, .wrongState) ]

/-- SET_MODE (R181, R182). -/
def setModeRule (body : List Byte) (s : State) : Answer :=
  match body with
  | [m] =>
    withArg (modeArg m) fun m =>
      if s.ssv.mode = .start ∨ s.ssv.mode = .off then .refuse .wrongMode []
      else if s.ssv.mode = m then .read []
      else if m = .run then checks s.runChecks (.ok (event (changeMode .run) s) [])
      else checks [ (!s.atRest, .refused) ] (.ok (event (changeMode .service) s) [])
  | _ => .refuse .badLength []

/-- The request SET_MODE, KIND 24h (Table 12-3). -/
def setModeRequest : Request :=
  { kind := 0x24, length := some 1, always := false, handle := setModeRule }

/-- SET_MODE is taken at the station port (R181, R182). -/
def execSetMode (tag : Byte) (body : List Byte) (s : State) : Host.Outcome State Fault Refusal :=
  done (serve setModeRequest tag body s)

/-- READ_CAUSES (R183): selection ALL 0 or STANDING 1. -/
def readCausesRule (body : List Byte) (s : State) : Answer :=
  match body with
  | [sel, start] =>
    withArg (flagArg sel) fun standing =>
      checks [ (decide ((s.selection standing).length < start.toNat), .notFound) ]
        (.read (causesData standing start.toNat s))
  | _ => .refuse .badLength []

/-- The request READ_CAUSES, KIND 25h (Table 12-3). -/
def readCausesRequest : Request :=
  { kind := 0x25, length := some 2, always := false, handle := readCausesRule }

/-- READ_CAUSES is taken at the station port (R183). -/
def execReadCauses (tag : Byte) (body : List Byte) (s : State) : Host.Outcome State Fault Refusal :=
  done (serve readCausesRequest tag body s)

end Sys2Proof.Machine
end

