-- ==== Sys2Proof/Machine/TallyRequests.lean ====
section
/-! DEFINITION. The requests on tally counters (R189, R190). -/

namespace Sys2Proof.Machine

/-- A counter with a configuration; its last comparison is false, its value and overflow flag stay (R189). -/
def Counter.configured (k : Counter) (x : TallyConfig) : Counter :=
  { enable := x.enable, source := x.source, threshold := x.threshold, invert := x.invert, edge := x.edge,
    notify := x.notify, member := x.member, trigger := x.trigger, value := k.value, overflow := k.overflow,
    last := false }

/-- SET_TALLY (R189). -/
def setTallyRule (body : List Byte) (s : State) : Answer :=
  match body with
  | k :: fields =>
    withArg (counterArg k) fun k => withArg (configArg fields) fun x =>
      .ok (putCounter k ((s.counter k).configured x) s) []
  | [] => .refuse .badLength []

/-- The request SET_TALLY, KIND 26h (Table 12-3). -/
def setTallyRequest : Request :=
  { kind := 0x26, length := some 9, always := false, handle := setTallyRule }

/-- SET_TALLY is taken at the station port (R189). -/
def execSetTally (tag : Byte) (body : List Byte) (s : State) : Host.Outcome State Fault Refusal :=
  done (serve setTallyRequest tag body s)

/-- WRITE_TALLY (R189). -/
def writeTallyRule (body : List Byte) (s : State) : Answer :=
  match body with
  | [k, a, b, c, d] =>
    withArg (counterArg k) fun k =>
      .ok (putCounter k { s.counter k with value := BitVec.ofNat 32 (be32 a b c d) } s) []
  | _ => .refuse .badLength []

/-- The request WRITE_TALLY, KIND 27h (Table 12-3). -/
def writeTallyRequest : Request :=
  { kind := 0x27, length := some 5, always := false, handle := writeTallyRule }

/-- WRITE_TALLY is taken at the station port (R189). -/
def execWriteTally (tag : Byte) (body : List Byte) (s : State) : Host.Outcome State Fault Refusal :=
  done (serve writeTallyRequest tag body s)

/-- READ_TALLY (R189). -/
def readTallyRule (_ : List Byte) (s : State) : Answer := .read (tallyData s)

/-- The request READ_TALLY, KIND 28h (Table 12-3). -/
def readTallyRequest : Request :=
  { kind := 0x28, length := some 0, always := false, handle := readTallyRule }

/-- READ_TALLY is taken at the station port (R189). -/
def execReadTally (tag : Byte) (body : List Byte) (s : State) : Host.Outcome State Fault Refusal :=
  done (serve readTallyRequest tag body s)

/-- CLEAR_OVERFLOW (R190). -/
def clearOverflowRule (body : List Byte) (s : State) : Answer :=
  match body with
  | [k] => withArg (counterArg k) fun k => .ok (putCounter k { s.counter k with overflow := false } s) []
  | _ => .refuse .badLength []

/-- The request CLEAR_OVERFLOW, KIND 29h (Table 12-3). -/
def clearOverflowRequest : Request :=
  { kind := 0x29, length := some 1, always := false, handle := clearOverflowRule }

/-- CLEAR_OVERFLOW is taken at the station port (R190). -/
def execClearOverflow (tag : Byte) (body : List Byte) (s : State) : Host.Outcome State Fault Refusal :=
  done (serve clearOverflowRequest tag body s)

/-- FREEZE_TALLY (R190). -/
def freezeTallyRule (_ : List Byte) (s : State) : Answer := .ok (putFrozen true s) []

/-- The request FREEZE_TALLY, KIND 2Ah (Table 12-3). -/
def freezeTallyRequest : Request :=
  { kind := 0x2A, length := some 0, always := false, handle := freezeTallyRule }

/-- FREEZE_TALLY is taken at the station port (R190). -/
def execFreezeTally (tag : Byte) (body : List Byte) (s : State) : Host.Outcome State Fault Refusal :=
  done (serve freezeTallyRequest tag body s)

/-- UNFREEZE_TALLY (R190). -/
def unfreezeTallyRule (_ : List Byte) (s : State) : Answer :=
  checks [ (s.triggerStanding, .stillActive) ] (.ok (putFrozen false s) [])

/-- The request UNFREEZE_TALLY, KIND 2Bh (Table 12-3). -/
def unfreezeTallyRequest : Request :=
  { kind := 0x2B, length := some 0, always := false, handle := unfreezeTallyRule }

/-- UNFREEZE_TALLY is taken at the station port (R190). -/
def execUnfreezeTally (tag : Byte) (body : List Byte) (s : State) : Host.Outcome State Fault Refusal :=
  done (serve unfreezeTallyRequest tag body s)

end Sys2Proof.Machine
end

