-- ==== Sys2Proof/Machine/ProfileRequests.lean ====
section
/-! DEFINITION. The requests on identity, status, reset and profile (sections 12.4 to 12.6). -/

namespace Sys2Proof.Machine

/-- IDENTIFY (R194). -/
def identifyRule (_ : List Byte) (s : State) : Answer := .read (identityData s)

/-- The request IDENTIFY, KIND 2Ch (Table 12-3). -/
def identifyRequest : Request :=
  { kind := 0x2C, length := some 0, always := true, handle := identifyRule }

/-- IDENTIFY is taken at the station port (R194). -/
def execIdentify (tag : Byte) (body : List Byte) (s : State) : Host.Outcome State Fault Refusal :=
  done (serve identifyRequest tag body s)

/-- READ_STATUS (R194). -/
def readStatusRule (_ : List Byte) (s : State) : Answer := .read (statusData s)

/-- The request READ_STATUS, KIND 2Dh (Table 12-3). -/
def readStatusRequest : Request :=
  { kind := 0x2D, length := some 0, always := false, handle := readStatusRule }

/-- READ_STATUS is taken at the station port (R194). -/
def execReadStatus (tag : Byte) (body : List Byte) (s : State) : Host.Outcome State Fault Refusal :=
  done (serve readStatusRequest tag body s)

/-- RESET_PART (R195). -/
def resetPartRule (_ : List Byte) (s : State) : Answer := checks [ (s.committing, .busy) ] .reset

/-- The request RESET_PART, KIND 2Eh (Table 12-3). -/
def resetPartRequest : Request :=
  { kind := 0x2E, length := some 0, always := false, handle := resetPartRule }

/-- RESET_PART is taken at the station port (R195). -/
def execResetPart (tag : Byte) (body : List Byte) (s : State) : Host.Outcome State Fault Refusal :=
  done (serve resetPartRequest tag body s)

/-- READ_PARAM (R197). -/
def readParamRule (body : List Byte) (s : State) : Answer :=
  match body with
  | [q, i] => withArg (Param.ofNumber q.toNat i.toNat) fun q => .read (paramData q s)
  | _ => .refuse .badLength []

/-- The request READ_PARAM, KIND 2Fh (Table 12-3). -/
def readParamRequest : Request :=
  { kind := 0x2F, length := some 2, always := false, handle := readParamRule }

/-- READ_PARAM is taken at the station port (R197). -/
def execReadParam (tag : Byte) (body : List Byte) (s : State) : Host.Outcome State Fault Refusal :=
  done (serve readParamRequest tag body s)

/-- A value lies outside the range of a parameter as it now stands (R197 check 4). -/
def State.outOfRange (s : State) (q : Param) (v : Nat) : Bool :=
  decide (v < q.lo) || decide (q.hi s.pfs.working < v)

/-- WRITE_PARAM (R197): the reply carries the value now held. -/
def writeParamRule (body : List Byte) (s : State) : Answer :=
  match body with
  | [q, i, a, b, c, d] =>
    withArg (Param.ofNumber q.toNat i.toNat) fun q =>
      let v := be32 a b c d
      checks
        [ (s.notService, .wrongMode), (s.committing, .busy), (s.outOfRange q v, .badValue) ]
        (.ok (event (writeParam q v) s) (u32 v))
  | _ => .refuse .badLength []

/-- The request WRITE_PARAM, KIND 30h (Table 12-3). -/
def writeParamRequest : Request :=
  { kind := 0x30, length := some 6, always := false, handle := writeParamRule }

/-- WRITE_PARAM is taken at the station port (R197). -/
def execWriteParam (tag : Byte) (body : List Byte) (s : State) : Host.Outcome State Fault Refusal :=
  done (serve writeParamRequest tag body s)

/-- What COMMIT_PROFILE answers after its mode and busy checks (R198). R198 lets the reply INCONSISTENT name the parameter
and does not say how: it carries one byte behind the status, the parameter's number of Table 13-4, and no index byte
(DESIGN CHOICE, log entry 49). -/
def commitAnswer (s : State) : Answer :=
  match crossCheck s.pfs.working with
  | some q => .refuse .inconsistent (u8 q.number)
  | none => checks [ (decide (20000 ≤ s.pfs.writes), .worn) ] .hold

/-- COMMIT_PROFILE (R198). -/
def commitProfileRule (_ : List Byte) (s : State) : Answer :=
  if s.notService then .refuse .wrongMode []
  else if s.committing then .refuse .busy []
  else commitAnswer s

/-- The request COMMIT_PROFILE, KIND 31h (Table 12-3). -/
def commitProfileRequest : Request :=
  { kind := 0x31, length := some 0, always := false, handle := commitProfileRule }

/-- COMMIT_PROFILE is taken at the station port (R198). -/
def execCommitProfile (tag : Byte) (body : List Byte) (s : State) : Host.Outcome State Fault Refusal :=
  done (serve commitProfileRequest tag body s)

/-- RESTORE_DEFAULTS (R200). -/
def restoreDefaultsRule (_ : List Byte) (s : State) : Answer :=
  checks [ (s.notService, .wrongMode), (s.committing, .busy) ] (.ok (event restoreDefaults s) [])

/-- The request RESTORE_DEFAULTS, KIND 32h (Table 12-3). -/
def restoreDefaultsRequest : Request :=
  { kind := 0x32, length := some 0, always := false, handle := restoreDefaultsRule }

/-- RESTORE_DEFAULTS is taken at the station port (R200). -/
def execRestoreDefaults (tag : Byte) (body : List Byte) (s : State) : Host.Outcome State Fault Refusal :=
  done (serve restoreDefaultsRequest tag body s)

end Sys2Proof.Machine
end

