-- ==== Sys2Proof/Machine/RopeEvents.lean ====
section
/-! DEFINITION. The events of the encoders and the analog scan (chapter 2). -/

namespace Sys2Proof.Machine

/-- An event that a block takes once the profile has been loaded, with the end of the event (R201). -/
def onEvent (f : State → State) (s : State) : State := whenLoaded (event f) s

/-- A conversion of an analog channel: the latest sample is replaced from the end of the reset on; the blocks take it once
the profile has been loaded (R32, R36). -/
def converted (k : Fin 7) (n : Sample) (f : State → State) (s : State) : State :=
  if s.ssv.mode = .off then s else whenLoaded f (putSample k n s)

/-- MEASURING_WHEEL_PULSE: a rising edge of MW_P has been seen (R19, R22, R24, R26). -/
def execMeasuringWheelPulse (s : State) : Host.Outcome State Fault Refusal :=
  done (onEvent wheelPulse s)

/-- BULLWHEEL_COUNT: one of BW_A and BW_B has changed (R20, R21). -/
def execBullwheelCount (input : BullInput) (s : State) : Host.Outcome State Fault Refusal :=
  done (onEvent (rmuCount input) s)

/-- A quadrature jump: both inputs of the pair have changed; only the jump count and the reference move (R20). -/
def quadratureJump (s : State) : State :=
  putRmu { s.rmu with bwRefA := !s.rmu.bwRefA, bwRefB := !s.rmu.bwRefB, jumps := satInc 65535 s.rmu.jumps } s

/-- QUADRATURE_JUMP: BW_A and BW_B have changed in one sample (R20). -/
def execQuadratureJump (s : State) : Host.Outcome State Fault Refusal :=
  done (whenLoaded quadratureJump s)

/-- MEASURING_WHEEL_STALL: 65,536 µs without a pulse (R25); no effect before (log entry 7). -/
def execMeasuringWheelStall (s : State) : Host.Outcome State Fault Refusal :=
  done (onEvent mwStall s)

/-- BULLWHEEL_STALL: 65,536 µs without a count (R25); no effect before (log entry 7). -/
def execBullwheelStall (s : State) : Host.Outcome State Fault Refusal :=
  done (onEvent bwStall s)

/-- TENSION_SAMPLE: a conversion of AN0 (R32 to R34). -/
def execTensionSample (n : Sample) (s : State) : Host.Outcome State Fault Refusal :=
  done (converted 0 n (event (tensionSample n)) s)

/-- GRIP_SAMPLE: a conversion of AN1 (R32, R85). -/
def execGripSample (n : Sample) (s : State) : Host.Outcome State Fault Refusal :=
  done (converted 1 n (gripSample n) s)

/-- The analog channel of a drive channel's current (Table 1-3). -/
def currentInput : Channel → Fin 7
  | .opener => 2
  | .closer => 3
  | .switch => 4
  | .release => 5
  | .gate => 6

/-- CURRENT_SAMPLE: a conversion of one of AN2..AN6 (R32, R70, R71). -/
def execCurrentSample (ch : Channel) (n : Sample) (s : State) : Host.Outcome State Fault Refusal :=
  done (converted (currentInput ch) n (event (currentSample ch n)) s)

end Sys2Proof.Machine
end

