-- ==== Sys2Proof/Machine/StationEvents.lean ====
section
/-! DEFINITION. The events of the checkpoints, the drives and the gate (chapters 3 to 5). -/

namespace Sys2Proof.Machine

/-- ARR_PASSAGE: the filtered level of ARR has become active; VALLEY_ARRIVAL is signalled beside PASSAGE (R40, R49).
The tally events are signalled in the order PASSAGE, VALLEY_ARRIVAL, READER_MISS, before the arrival's own reports:
R40, R48 and R186 leave the order open (DESIGN CHOICE, log entry 17). -/
def execArrPassage (s : State) : Host.Outcome State Fault Refusal :=
  done (onEvent (fun s => arrPassage (tallyEvent .valleyArrival (passageAt .arr s))) s)

/-- OPN_PASSAGE: the filtered level of OPN has become active (R40, R42, R45). -/
def execOpnPassage (s : State) : Host.Outcome State Fault Refusal :=
  done (onEvent (fun s => opnPassage (passageAt .opn s)) s)

/-- CLS_PASSAGE: the filtered level of CLS has become active (R40, R42, R45). -/
def execClsPassage (s : State) : Host.Outcome State Fault Refusal :=
  done (onEvent (fun s => clsPassage (passageAt .cls s)) s)

/-- LCK_PASSAGE: the filtered level of LCK has become active (R40, R42, R46). -/
def execLckPassage (s : State) : Host.Outcome State Fault Refusal :=
  done (onEvent (fun s => lckPassage (passageAt .lck s)) s)

/-- GRP_PASSAGE: the filtered level of GRP has become active (R40, R42, R84). -/
def execGrpPassage (s : State) : Host.Outcome State Fault Refusal :=
  done (onEvent (fun s => grpPassage (passageAt .grp s)) s)

/-- GRP_TRAILING_EDGE: the filtered level of GRP has become inactive (R40, R85). -/
def execGrpTrailingEdge (s : State) : Host.Outcome State Fault Refusal :=
  done (onEvent (fun s => closeAnyWindow (putInput .grp false s)) s)

/-- GAT_PASSAGE: the filtered level of GAT has become active (R40, R47, R96). -/
def execGatPassage (s : State) : Host.Outcome State Fault Refusal :=
  done (onEvent (fun s => gatPassage (passageAt .gat s)) s)

/-- GAT_TRAILING_EDGE: the filtered level of GAT has become inactive (R40, R95). -/
def execGatTrailingEdge (s : State) : Host.Outcome State Fault Refusal :=
  done (onEvent (fun s => gateTrailing (putInput .gat false s)) s)

/-- ATT_PASSAGE: the filtered level of ATT has become active (R40, R98, R99). -/
def execAttPassage (s : State) : Host.Outcome State Fault Refusal :=
  done (onEvent (fun s => attPassage (passageAt .att s)) s)

/-- STI_PASSAGE: the filtered level of STI has become active (R40, R55). -/
def execStiPassage (s : State) : Host.Outcome State Fault Refusal :=
  done (onEvent (fun s => stiPassage (passageAt .sti s)) s)

/-- STM_PASSAGE: the filtered level of STM has become active (R40, R58, R59). -/
def execStmPassage (s : State) : Host.Outcome State Fault Refusal :=
  done (onEvent (fun s => stmPassage (passageAt .stm s)) s)

/-- READER_STROBE: a rising edge of CID_STB, with the code present (R48). -/
def execReaderStrobe (code : BitVec 7) (s : State) : Host.Outcome State Fault Refusal :=
  done (whenLoaded (readerStrobe code) s)

/-- END_INPUT_CHANGE: a filtered end input has taken a level (R64, R67, R69). -/
def execEndInputChange (ch : Channel) (e : End) (level : Bool) (s : State) : Host.Outcome State Fault Refusal :=
  done (onEvent (endChange ch e level) s)

/-- STROKE_TIMEOUT: a stroke has lasted STROKE_TIME (R68). -/
def execStrokeTimeout (ch : Channel) (s : State) : Host.Outcome State Fault Refusal :=
  done (onEvent (strokeTimeout ch) s)

/-- RETRY_PAUSE_EXPIRY: a pause of the closer has lasted RETRY_PAUSE (R76). -/
def execRetryPauseExpiry (s : State) : Host.Outcome State Fault Refusal :=
  done (onEvent retryPauseExpiry s)

/-- LAUNCH_DECISION: the launch decision is evaluated (R88, R89, R94). -/
def execLaunchDecision (s : State) : Host.Outcome State Fault Refusal :=
  done (whenLoaded launchEval s)

/-- SWITCH_THROW: the wanted route is compared with the SWITCH, and a pending throw commanded (R52, R53). -/
def execSwitchThrow (s : State) : Host.Outcome State Fault Refusal :=
  done (whenLoaded throwEval s)

end Sys2Proof.Machine
end

