-- ==== Sys2Proof/Machine/LineEvents.lean ====
section
/-! DEFINITION. The events of the line link and the telephone (chapters 6 to 9). -/

namespace Sys2Proof.Machine

/-- An own line cycle begins; once the profile has been loaded the event also ends as every event does (R121, R140). -/
def lineCycle (s : State) : State :=
  if s.ssv.mode = .off then s else if s.loaded then event transmitCycle s else transmitCycle s

/-- LINE_CYCLE_TRANSMIT: an own line cycle begins (R121). -/
def execLineCycleTransmit (s : State) : Host.Outcome State Fault Refusal :=
  done (lineCycle s)

/-- TOWER_STALE: an entry is found stale (R135); no effect on an entry that is not (log entry 7). -/
def execTowerStale (t : Fin 40) (s : State) : Host.Outcome State Fault Refusal :=
  done (onEvent (towerStale t.val) s)

/-- CENSUS_REQUEST_PLACEMENT: a waiting census request is placed in a free priority slot (R114, R146). -/
def execCensusRequestPlacement (s : State) : Host.Outcome State Fault Refusal :=
  done (whenLoaded placeCensus s)

/-- SYNC_CANDIDATE: bits of LINE_RX that complete a candidate in HUNT (R124); the receiver's own state and R124 to R127
judge what they complete (log entry 9). -/
def execSyncCandidate (bits : List RxBit) (s : State) : Host.Outcome State Fault Refusal :=
  done (whenLoaded (receiveBits bits) s)

/-- CONFIRM_CYCLE: bits of LINE_RX that complete a cycle in CONFIRM (R125); judged as at SYNC_CANDIDATE (log entry 9). -/
def execConfirmCycle (bits : List RxBit) (s : State) : Host.Outcome State Fault Refusal :=
  done (whenLoaded (receiveBits bits) s)

/-- GOOD_CYCLE: bits of LINE_RX that complete a good cycle in LOCKED (R126, R128); judged as at SYNC_CANDIDATE (log entry
9). -/
def execGoodCycle (bits : List RxBit) (s : State) : Host.Outcome State Fault Refusal :=
  done (whenLoaded (receiveBits bits) s)

/-- BAD_CYCLE: bits of LINE_RX that complete a bad cycle in LOCKED (R126, R127); judged as at SYNC_CANDIDATE (log entry
9). -/
def execBadCycle (bits : List RxBit) (s : State) : Host.Outcome State Fault Refusal :=
  done (whenLoaded (receiveBits bits) s)

/-- LINK_LOSS_EXPIRY: LINK_LOSS_MS have passed out of LOCKED (R129, R130). -/
def execLinkLossExpiry (s : State) : Host.Outcome State Fault Refusal :=
  done (onEvent linkLossExpiry s)

/-- CENSUS_WAIT_EXPIRY: CENSUS_WAIT has passed (R115). -/
def execCensusWaitExpiry (s : State) : Host.Outcome State Fault Refusal :=
  done (onEvent censusExpiry s)

/-- SEIZE_TIME_EXPIRY: 500 ms in SEIZING (R161). -/
def execSeizeTimeExpiry (ch : CallChannel) (s : State) : Host.Outcome State Fault Refusal :=
  done (whenLoaded (seizeExpiry ch) s)

/-- RING_TIME_EXPIRY: RING_TIME in RINGBACK or RINGING (R161). -/
def execRingTimeExpiry (ch : CallChannel) (s : State) : Host.Outcome State Fault Refusal :=
  done (whenLoaded (ringExpiry ch) s)

/-- CLEAR_GUARD_EXPIRY: 100 ms in CLEARING (R161). -/
def execClearGuardExpiry (ch : CallChannel) (s : State) : Host.Outcome State Fault Refusal :=
  done (whenLoaded (guardExpiry ch) s)

/-- VOICE_PORT_FRAME: a voice port exchanges a sample (R165, R166). -/
def execVoicePortFrame (ch : CallChannel) (v : Voice) (s : State) : Host.Outcome State Fault Refusal :=
  done (whenLoaded (portFrame ch v) s)

end Sys2Proof.Machine
end

