-- ==== Sys2Proof/Machine/PortEvents.lean ====
section
/-! DEFINITION. The events of the station port, the tally unit, the profile store and the reset (chapters 11 and 12). -/

namespace Sys2Proof.Machine

/-- The request of a KIND, absent for a KIND outside Table 12-3. -/
def requestOf : Nat → Option Request
  | 0x01 => some registerCabinRequest
  | 0x02 => some unregisterCabinRequest
  | 0x03 => some readCabinRequest
  | 0x04 => some readListRequest
  | 0x05 => some withdrawCabinRequest
  | 0x06 => some reinstateCabinRequest
  | 0x07 => some retireCabinRequest
  | 0x08 => some cabinServicedRequest
  | 0x09 => some readRopeRequest
  | 0x0A => some bindEntryRequest
  | 0x0B => some setSwitchRequest
  | 0x0C => some releaseFromStorageRequest
  | 0x0D => some readTrackRequest
  | 0x0E => some driveTestRequest
  | 0x0F => some readDrivesRequest
  | 0x10 => some holdLaunchesRequest
  | 0x11 => some resumeLaunchesRequest
  | 0x12 => some readLaunchRequest
  | 0x13 => some declareLostRequest
  | 0x14 => some readLineTrackRequest
  | 0x15 => some readLinkRequest
  | 0x16 => some readTowersRequest
  | 0x17 => some sendLineTextRequest
  | 0x18 => some sendPriorityTextRequest
  | 0x19 => some readLineTextRequest
  | 0x1A => some readRecordChannelRequest
  | 0x1B => some placeCallRequest
  | 0x1C => some answerCallRequest
  | 0x1D => some endCallRequest
  | 0x1E => some readCallsRequest
  | 0x1F => some ackCauseRequest
  | 0x20 => some ackAllRequest
  | 0x21 => some hostStopRequest
  | 0x22 => some liftRestrictionRequest
  | 0x23 => some keepaliveRequest
  | 0x24 => some setModeRequest
  | 0x25 => some readCausesRequest
  | 0x26 => some setTallyRequest
  | 0x27 => some writeTallyRequest
  | 0x28 => some readTallyRequest
  | 0x29 => some clearOverflowRequest
  | 0x2A => some freezeTallyRequest
  | 0x2B => some unfreezeTallyRequest
  | 0x2C => some identifyRequest
  | 0x2D => some readStatusRequest
  | 0x2E => some resetPartRequest
  | 0x2F => some readParamRequest
  | 0x30 => some writeParamRequest
  | 0x31 => some commitProfileRequest
  | 0x32 => some restoreDefaultsRequest
  | _ => none

/-- A complete frame is taken as a request (R192). -/
def takeRequest (kind tag : Byte) (body : List Byte) (s : State) : State :=
  match requestOf kind.toNat with
  | some r => serve r tag body s
  | none => serveUnknown kind tag s

/-- UNKNOWN_KIND: a complete frame of a KIND outside Table 12-3 is answered so (R192). -/
def execUnknownKind (kind tag : Byte) (body : List Byte) (s : State) : Host.Outcome State Fault Refusal :=
  done (takeRequest kind tag body s)

/-- BAD_FRAME: characters have been received; the receiver searches them for frames, counts the bad ones and takes any
complete one (R191; log entry 10). -/
def execBadFrame (chars : List Byte) (s : State) : Host.Outcome State Fault Refusal :=
  done (receive takeRequest chars s)

/-- FRAME_GAP_TIMEOUT: more than 4 character times within a frame (R191). -/
def execFrameGapTimeout (s : State) : Host.Outcome State Fault Refusal :=
  done (abandonFrame s)

/-- BREAK_RECEIVED: a character with its stop bit low (R191). -/
def execBreakReceived (s : State) : Host.Outcome State Fault Refusal :=
  done (abandonFrame s)

/-- FRAME_TRANSMIT: SP_TX is free, and the next frame begins (R193). -/
def execFrameTransmit (s : State) : Host.Outcome State Fault Refusal :=
  done (beginFrame s)

/-- TALLY_SAMPLE: MS_TIME has reached a multiple of 100 (R187). The command is the sample: one that a sender queues at
another time is taken all the same (DESIGN CHOICE, log entry 7). -/
def execTallySample (s : State) : Host.Outcome State Fault Refusal :=
  done (whenLoaded tallySample s)

/-- HOST_DEADLINE_MISSED: the allowance has passed without a KEEPALIVE (R178). -/
def execHostDeadlineMissed (s : State) : Host.Outcome State Fault Refusal :=
  done (onEvent deadlineMissed s)

/-- COMMIT_COMPLETION: the stored copy has been written and read back (R199). -/
def execCommitCompletion (equal : Bool) (s : State) : Host.Outcome State Fault Refusal :=
  done (commitDone equal s)

/-- HOST_RESET_ENTRY: the last byte of the reply of RESET_PART has been sent (R195); no effect before (log entry 7). -/
def execHostResetEntry (s : State) : Host.Outcome State Fault Refusal :=
  done (if s.resetSent then enterReset .hostRequest s else s)

/-- POWER_ON: the supply rises, and the part is held in reset; a rise while the supply is up is taken as one after a dip
(R195; log entry 5). -/
def execPowerOn (s : State) : Host.Outcome State Fault Refusal :=
  done (enterReset .powerOn s)

/-- The reset of the RESETN pin: with reset cause PIN while the supply is up, and without a change of cause during the
reset of a supply rise (R195; log entry 5). -/
def pinReset (s : State) : State :=
  if !s.supply || (s.ssv.mode == .off && s.resetCause == .powerOn) then s else enterReset .pin s

/-- RESETN_ASSERTED: RESETN is taken low (R195). -/
def execResetnAsserted (s : State) : Host.Outcome State Fault Refusal :=
  done (pinReset s)

/-- END_OF_RESET: the reset ends, and the mode is START (R180, R184). -/
def execEndOfReset (s : State) : Host.Outcome State Fault Refusal :=
  done (if s.supply && s.ssv.mode == .off then endReset s else s)

/-- PROFILE_LOAD: the working copy stands, and the part enters SERVICE (R180, R201). -/
def execProfileLoad (s : State) : Host.Outcome State Fault Refusal :=
  done (if s.ssv.mode == .start && !s.loaded then event loadProfile s else s)

/-- SUPPLY_LOSS: the supply falls (R199). -/
def execSupplyLoss (s : State) : Host.Outcome State Fault Refusal :=
  done (if s.supply then loseSupply s else s)

end Sys2Proof.Machine
end

