-- ==== Sys2Proof/Machine/Dispatch.lean ====
section
/-! DEFINITION. The meaning of each command, by one arm per constructor of Instr. -/

namespace Sys2Proof.Machine

def exec (i : Instr) (s : State) : Host.Outcome State Fault Refusal :=
  match i with
  | .powerOn => Sys2Proof.Machine.execPowerOn s
  | .resetnAsserted => Sys2Proof.Machine.execResetnAsserted s
  | .endOfReset => Sys2Proof.Machine.execEndOfReset s
  | .profileLoad => Sys2Proof.Machine.execProfileLoad s
  | .measuringWheelPulse => Sys2Proof.Machine.execMeasuringWheelPulse s
  | .bullwheelCount input => Sys2Proof.Machine.execBullwheelCount input s
  | .quadratureJump => Sys2Proof.Machine.execQuadratureJump s
  | .measuringWheelStall => Sys2Proof.Machine.execMeasuringWheelStall s
  | .bullwheelStall => Sys2Proof.Machine.execBullwheelStall s
  | .tensionSample n => Sys2Proof.Machine.execTensionSample n s
  | .gripSample n => Sys2Proof.Machine.execGripSample n s
  | .currentSample ch n => Sys2Proof.Machine.execCurrentSample ch n s
  | .arrPassage => Sys2Proof.Machine.execArrPassage s
  | .opnPassage => Sys2Proof.Machine.execOpnPassage s
  | .clsPassage => Sys2Proof.Machine.execClsPassage s
  | .lckPassage => Sys2Proof.Machine.execLckPassage s
  | .grpPassage => Sys2Proof.Machine.execGrpPassage s
  | .grpTrailingEdge => Sys2Proof.Machine.execGrpTrailingEdge s
  | .gatPassage => Sys2Proof.Machine.execGatPassage s
  | .gatTrailingEdge => Sys2Proof.Machine.execGatTrailingEdge s
  | .attPassage => Sys2Proof.Machine.execAttPassage s
  | .stiPassage => Sys2Proof.Machine.execStiPassage s
  | .stmPassage => Sys2Proof.Machine.execStmPassage s
  | .readerStrobe code => Sys2Proof.Machine.execReaderStrobe code s
  | .endInputChange ch e level => Sys2Proof.Machine.execEndInputChange ch e level s
  | .strokeTimeout ch => Sys2Proof.Machine.execStrokeTimeout ch s
  | .retryPauseExpiry => Sys2Proof.Machine.execRetryPauseExpiry s
  | .launchDecision => Sys2Proof.Machine.execLaunchDecision s
  | .switchThrow => Sys2Proof.Machine.execSwitchThrow s
  | .tallySample => Sys2Proof.Machine.execTallySample s
  | .lineCycleTransmit => Sys2Proof.Machine.execLineCycleTransmit s
  | .towerStale t => Sys2Proof.Machine.execTowerStale t s
  | .censusRequestPlacement => Sys2Proof.Machine.execCensusRequestPlacement s
  | .syncCandidate bits => Sys2Proof.Machine.execSyncCandidate bits s
  | .confirmCycle bits => Sys2Proof.Machine.execConfirmCycle bits s
  | .goodCycle bits => Sys2Proof.Machine.execGoodCycle bits s
  | .badCycle bits => Sys2Proof.Machine.execBadCycle bits s
  | .linkLossExpiry => Sys2Proof.Machine.execLinkLossExpiry s
  | .censusWaitExpiry => Sys2Proof.Machine.execCensusWaitExpiry s
  | .seizeTimeExpiry ch => Sys2Proof.Machine.execSeizeTimeExpiry ch s
  | .ringTimeExpiry ch => Sys2Proof.Machine.execRingTimeExpiry ch s
  | .clearGuardExpiry ch => Sys2Proof.Machine.execClearGuardExpiry ch s
  | .voicePortFrame ch v => Sys2Proof.Machine.execVoicePortFrame ch v s
  | .hostDeadlineMissed => Sys2Proof.Machine.execHostDeadlineMissed s
  | .commitCompletion equal => Sys2Proof.Machine.execCommitCompletion equal s
  | .badFrame chars => Sys2Proof.Machine.execBadFrame chars s
  | .frameGapTimeout => Sys2Proof.Machine.execFrameGapTimeout s
  | .breakReceived => Sys2Proof.Machine.execBreakReceived s
  | .unknownKind kind tag body => Sys2Proof.Machine.execUnknownKind kind tag body s
  | .frameTransmit => Sys2Proof.Machine.execFrameTransmit s
  | .hostResetEntry => Sys2Proof.Machine.execHostResetEntry s
  | .registerCabin tag body => Sys2Proof.Machine.execRegisterCabin tag body s
  | .unregisterCabin tag body => Sys2Proof.Machine.execUnregisterCabin tag body s
  | .readCabin tag body => Sys2Proof.Machine.execReadCabin tag body s
  | .readList tag body => Sys2Proof.Machine.execReadList tag body s
  | .withdrawCabin tag body => Sys2Proof.Machine.execWithdrawCabin tag body s
  | .reinstateCabin tag body => Sys2Proof.Machine.execReinstateCabin tag body s
  | .retireCabin tag body => Sys2Proof.Machine.execRetireCabin tag body s
  | .cabinServiced tag body => Sys2Proof.Machine.execCabinServiced tag body s
  | .readRope tag body => Sys2Proof.Machine.execReadRope tag body s
  | .bindEntry tag body => Sys2Proof.Machine.execBindEntry tag body s
  | .setSwitch tag body => Sys2Proof.Machine.execSetSwitch tag body s
  | .releaseFromStorage tag body => Sys2Proof.Machine.execReleaseFromStorage tag body s
  | .readTrack tag body => Sys2Proof.Machine.execReadTrack tag body s
  | .driveTest tag body => Sys2Proof.Machine.execDriveTest tag body s
  | .readDrives tag body => Sys2Proof.Machine.execReadDrives tag body s
  | .holdLaunches tag body => Sys2Proof.Machine.execHoldLaunches tag body s
  | .resumeLaunches tag body => Sys2Proof.Machine.execResumeLaunches tag body s
  | .readLaunch tag body => Sys2Proof.Machine.execReadLaunch tag body s
  | .declareLost tag body => Sys2Proof.Machine.execDeclareLost tag body s
  | .readLineTrack tag body => Sys2Proof.Machine.execReadLineTrack tag body s
  | .readLink tag body => Sys2Proof.Machine.execReadLink tag body s
  | .readTowers tag body => Sys2Proof.Machine.execReadTowers tag body s
  | .sendLineText tag body => Sys2Proof.Machine.execSendLineText tag body s
  | .sendPriorityText tag body => Sys2Proof.Machine.execSendPriorityText tag body s
  | .readLineText tag body => Sys2Proof.Machine.execReadLineText tag body s
  | .readRecordChannel tag body => Sys2Proof.Machine.execReadRecordChannel tag body s
  | .placeCall tag body => Sys2Proof.Machine.execPlaceCall tag body s
  | .answerCall tag body => Sys2Proof.Machine.execAnswerCall tag body s
  | .endCall tag body => Sys2Proof.Machine.execEndCall tag body s
  | .readCalls tag body => Sys2Proof.Machine.execReadCalls tag body s
  | .ackCause tag body => Sys2Proof.Machine.execAckCause tag body s
  | .ackAll tag body => Sys2Proof.Machine.execAckAll tag body s
  | .hostStop tag body => Sys2Proof.Machine.execHostStop tag body s
  | .liftRestriction tag body => Sys2Proof.Machine.execLiftRestriction tag body s
  | .keepalive tag body => Sys2Proof.Machine.execKeepalive tag body s
  | .setMode tag body => Sys2Proof.Machine.execSetMode tag body s
  | .readCauses tag body => Sys2Proof.Machine.execReadCauses tag body s
  | .setTally tag body => Sys2Proof.Machine.execSetTally tag body s
  | .writeTally tag body => Sys2Proof.Machine.execWriteTally tag body s
  | .readTally tag body => Sys2Proof.Machine.execReadTally tag body s
  | .clearOverflow tag body => Sys2Proof.Machine.execClearOverflow tag body s
  | .freezeTally tag body => Sys2Proof.Machine.execFreezeTally tag body s
  | .unfreezeTally tag body => Sys2Proof.Machine.execUnfreezeTally tag body s
  | .identify tag body => Sys2Proof.Machine.execIdentify tag body s
  | .readStatus tag body => Sys2Proof.Machine.execReadStatus tag body s
  | .resetPart tag body => Sys2Proof.Machine.execResetPart tag body s
  | .readParam tag body => Sys2Proof.Machine.execReadParam tag body s
  | .writeParam tag body => Sys2Proof.Machine.execWriteParam tag body s
  | .commitProfile tag body => Sys2Proof.Machine.execCommitProfile tag body s
  | .restoreDefaults tag body => Sys2Proof.Machine.execRestoreDefaults tag body s
  | .supplyLoss => Sys2Proof.Machine.execSupplyLoss s

end Sys2Proof.Machine
end

