-- ==== Sys2Proof/Machine/Tick.lean ====
section
/-! DEFINITION. One microsecond of the capture timebase, which passes when no command waits (DESIGN CHOICE, log entry
6): the clocks advance, the raw inputs are sampled and filtered, and the commands that have fallen due are put into the
queue. What a command does is exec's alone. -/

namespace Sys2Proof.Machine

/-- One microsecond of both clocks (Table 1-2, R24). -/
def Clock.next (c : Clock) : Clock :=
  { timebase := c.timebase + 1, micro := (c.micro + 1) % 1000, ms := if c.micro = 999 then c.ms + 1 else c.ms,
    cyclePhase := (c.cyclePhase + 1) % 125, scanPhase := (c.scanPhase + 1) % 500 }

/-- A command that is due when a test holds. -/
def dueWhen (b : Bool) (i : Instr) : List Instr := if b then [i] else []

/-! ### Sampling in each microsecond -/

/-- The bullwheel command that the raw pair brings against the reference pair (R20). -/
def bullDue (s : State) : List Instr :=
  match s.pins.bwA != s.rmu.bwRefA, s.pins.bwB != s.rmu.bwRefB with
  | true, true => [.quadratureJump]
  | true, false => [.bullwheelCount .bwA]
  | false, true => [.bullwheelCount .bwB]
  | false, false => []

/-- What the encoders and the reader bring in a microsecond, a stall before the pulse or count that ends it (R19, R20,
R25, R48). -/
def sampleDue (s : State) : List Instr :=
  dueWhen (s.rmu.mw.stallDue s.clock.timebase) .measuringWheelStall ++
    dueWhen (s.rmu.bw.stallDue s.clock.timebase) .bullwheelStall ++
    dueWhen (s.pins.mwP && !s.rmu.mwRef) .measuringWheelPulse ++ bullDue s ++
    dueWhen (s.pins.cidStb && !s.stu.strobe) (.readerStrobe s.pins.cid)

/-- A low sample of MW_P and the level of CID_STB are kept (R19, R48). -/
def keepSamples (s : State) : State :=
  putStu { s.stu with strobe := s.pins.cidStb } (putRmu { s.rmu with mwRef := s.rmu.mwRef && s.pins.mwP } s)

/-! ### Line -/

/-- What the line brings: a cycle that a silent line lets pass (R126; log entry 21). -/
def lineDue (s : State) : List Instr := dueWhen s.silentCycleDue (.badCycle s.silentBits)

/-! ### Intervals -/

/-- The conversion of a scan phase: AN k at phase 71 × k of the rotation (R32; the instants are log entry 6). -/
def scanDue (s : State) (phase : Nat) : List Instr :=
  match phase with
  | 0 => [.tensionSample s.pins.analog[0]]
  | 71 => [.gripSample s.pins.analog[1]]
  | 142 => [.currentSample .opener s.pins.analog[2]]
  | 213 => [.currentSample .closer s.pins.analog[3]]
  | 284 => [.currentSample .switch s.pins.analog[4]]
  | 355 => [.currentSample .release s.pins.analog[5]]
  | 426 => [.currentSample .gate s.pins.analog[6]]
  | _ => []

/-- The voice frames and the own cycle that begin at a cycle phase of 0 (R121, R165). Section 9.3 leaves phase and drift
of the port frames against the line cycle open: the model begins the frames of both ports and the own cycle in one
microsecond, without drift (DESIGN CHOICE, log entry 6). -/
def cycleDue (s : State) (phase : Nat) : List Instr :=
  if phase = 0 then [.voicePortFrame .a s.pins.vp1, .voicePortFrame .b s.pins.vp2, .lineCycleTransmit] else []

/-! ### Sampling in each millisecond -/

/-- A filter after one sample: its count, and whether its level changes at this sample (R39). -/
def Filter.sample (n : Nat) (raw : Bool) (f : Filter) : Filter × Bool :=
  if raw = f.level then ({ f with count := 0 }, false)
  else if n ≤ f.count + 1 then ({ f with count := 0 }, true)
  else ({ f with count := f.count + 1 }, false)

/-- The command of a change of a station input: passages, and the trailing edges of GRP and GAT; the other changes have
none (R40). -/
def edgeCommand : StationInput → Bool → Option Instr
  | .arr, true => some .arrPassage
  | .opn, true => some .opnPassage
  | .cls, true => some .clsPassage
  | .lck, true => some .lckPassage
  | .grp, true => some .grpPassage
  | .grp, false => some .grpTrailingEdge
  | .gat, true => some .gatPassage
  | .gat, false => some .gatTrailingEdge
  | .att, true => some .attPassage
  | .sti, true => some .stiPassage
  | .stm, true => some .stmPassage
  | _, _ => none

/-- One station input takes its sample: a change with a command is left to it, another is made here (R39, R40). So a
change of LCK_OK stands before an LCK_PASSAGE of the same millisecond is taken, and R46 reads the new level: R39, R40,
R41 and R46 give the two no order (DESIGN CHOICE, log entry 6). -/
def sampleInput (x : State × List Instr) (i : StationInput) : State × List Instr :=
  let s := x.1
  let raw := s.pins.station.get i
  let r := (s.stu.inputs.get i).sample s.pfs.working.sensorFilter raw
  let put := fun f => putStu { s.stu with inputs := s.stu.inputs.put i f } s
  if r.2 then
    match edgeCommand i raw with
    | some c => (put r.1, x.2 ++ [c])
    | none => (put { level := raw, count := 0 }, x.2)
  else (put r.1, x.2)

/-- The drive channels, in the order of their codes. -/
def Channel.all : List Channel := [.opener, .closer, .switch, .release, .gate]

/-- One end input takes its sample (R64). -/
def sampleEnd (ch : Channel) (e : End) (x : State × List Instr) : State × List Instr :=
  let s := x.1
  let d := s.dru.get ch
  let n := s.pfs.working.sensorFilter
  let raws := s.pins.ends.get ch
  match e with
  | .a =>
    let r := d.endA.sample n raws.a
    (putDrive ch { d with endA := r.1 } s, x.2 ++ dueWhen r.2 (.endInputChange ch .a raws.a))
  | .b =>
    let r := d.endB.sample n raws.b
    (putDrive ch { d with endB := r.1 } s, x.2 ++ dueWhen r.2 (.endInputChange ch .b raws.b))

/-- Both ends of a channel take their samples. Where both levels change at one millisecond, the event of END_A is queued
before that of END_B: R64 gives no order (DESIGN CHOICE, log entry 6). -/
def sampleEnds (x : State × List Instr) (ch : Channel) : State × List Instr := sampleEnd ch .b (sampleEnd ch .a x)

/-- The timers that have run out at a millisecond (R68, R76, R115, R129, R161, R178). -/
def timersDue (s : State) : List Instr :=
  Channel.all.flatMap (fun ch => dueWhen (s.strokeOver ch) (.strokeTimeout ch)) ++
    dueWhen s.pauseOver.isSome .retryPauseExpiry ++
    [CallChannel.a, CallChannel.b].flatMap (fun ch =>
      dueWhen (s.timerOver ch .seize) (.seizeTimeExpiry ch) ++ dueWhen (s.timerOver ch .ring) (.ringTimeExpiry ch) ++
        dueWhen (s.timerOver ch .guard) (.clearGuardExpiry ch)) ++
    dueWhen s.linkLossDue .linkLossExpiry ++ dueWhen s.waitOver .censusWaitExpiry ++
    dueWhen s.deadlineOver .hostDeadlineMissed ++ dueWhen (s.clock.ms.toNat % 100 == 0) .tallySample

/-- What a millisecond brings once the profile has been loaded. -/
def milliDue (s : State) : State × List Instr :=
  let x := Channel.all.foldl sampleEnds (StationInput.all.foldl sampleInput (s, []))
  (x.1, x.2 ++ timersDue x.1)

/-! ### The port -/

/-- The transmitter's next command: a frame to begin, or the reset after the reply of RESET_PART (R193, R195). -/
def portDue (s : State) : List Instr :=
  if s.resetSent then [.hostResetEntry]
  else dueWhen (s.spt.free && (!s.spt.notices.isEmpty || (takeReady s.spt.replies).isSome)) .frameTransmit

/-- The frame on SP_TX is one microsecond further (chapter 12). -/
def Spt.sending (u : Spt) : Spt := { u with tx := u.tx.map fun f => { f with remaining := f.remaining - 72 } }

/-! ### The tick -/

/-- The blocks that have begun to take their events: what a microsecond brings them. -/
def loadedDue (s : State) : State × List Instr :=
  let due := sampleDue s ++ lineDue s
  let x := if s.clock.micro = 0 then milliDue s else (s, [])
  (keepSamples x.1, due ++ x.2)

/-- One microsecond. -/
def passMicrosecond (s : State) : State :=
  let cycle := s.clock.cyclePhase
  let scan := s.clock.scanPhase
  let s := { putSpt s.spt.sending s with clock := s.clock.next }
  let x := if s.loaded then loadedDue s else (s, [])
  { x.1 with pending := x.1.pending ++ (cycleDue s cycle ++ scanDue s scan ++ x.2 ++ portDue s) }

/-- Time passes while the part is out of reset; in mode OFF nothing happens (log entry 6). -/
def tick (s : State) : State := if s.ssv.mode = .off then s else passMicrosecond s

end Sys2Proof.Machine
end

