-- ==== Sys2Proof/Safety.lean ====
section
/-! DEFINITION. What counts as a safe run, and the conditions on a state that the claims speak of. No command of the part
ends in a fault or a refusal, so a safe run is one in which every state keeps these conditions. -/

namespace Sys2Proof.Machine

/-- The effective demand is the highest category among the standing entries, and the stop lines follow mode and demand
(R171, R172). -/
def State.stopsFollow (s : State) : Prop :=
  s.ssv.demand = highestDemand s.ssv.causes ∧ s.ssv.lines = linesOf s.ssv.mode s.ssv.demand

/-- No HOLD cause is latched (R169). -/
def State.holdsUnlatched (s : State) : Prop :=
  ∀ c : Cause, c.category = .hold → (s.cause c).latched = false

/-- The queues of the station port are within their bounds (R193). -/
def State.queuesBounded (s : State) : Prop := s.spt.replies.length ≤ 4 ∧ s.spt.notices.length ≤ 16

/-- The station list holds at most 128 entries (R7). -/
def State.stationBounded (s : State) : Prop := s.lists.station.length ≤ 128

/-- The rope measurement is within its ranges: R below 1000, period windows of at most 8 periods, a tension window of at
most 16 samples, speeds of at most 12,000 mm/s, SLIP within −999..+999 (R22, R24, R26, R28, R33). -/
def State.ropeBounded (s : State) : Prop :=
  s.rmu.rem < 1000 ∧ s.rmu.mw.window.length ≤ 8 ∧ s.rmu.bw.window.length ≤ 8 ∧ s.rmu.tension.length ≤ 16 ∧
    s.rmu.mw.speed ≤ 12000 ∧ s.rmu.bw.speed ≤ 12000 ∧ -999 ≤ s.rmu.slip ∧ s.rmu.slip ≤ 999

/-- The receive store holds at most 64 bytes (R149). -/
def State.storeBounded (s : State) : Prop := s.lkc.chan.fill ≤ 64

/-- Each cabin stands in the list of its location, once, and in no other list; a number that is not registered is
UNPLACED (R1, R2, R7, R8). -/
def State.placed (s : State) : Prop :=
  ∀ c : Cabin,
    (let r := s.cab c
     let held := fun (l : Location) => if r.location = l then 1 else 0
     s.lists.station.countP (fun e => e.who == .cabin c) = held .station ∧ s.lists.storage.count c = held .storage ∧
       s.lists.upLine.countP (fun e => e.cabin == c) = held .upLine ∧
       s.lists.summit.countP (fun e => e.cabin == c) = held .summit ∧
       s.lists.downLine.countP (fun e => e.cabin == c) = held .downLine ∧
       (r.registered = false → r.location = .unplaced))

/-- Station entries are told apart by their numbers, and a launch in flight is of the cabin of its entry (R7, R94; the
numbers are the model's own, log entry 23). Before the profile has been loaded the lists are empty (R9). -/
def State.entriesApart (s : State) : Prop :=
  (s.lists.station.map StationEntry.id).Nodup ∧ (∀ e ∈ s.lists.station, e.id < s.stu.nextId) ∧
    (∀ f, s.lnu.flight = some f →
      f.entry < s.stu.nextId ∧ ∀ e ∈ s.lists.station, e.id = f.entry → e.who = .cabin f.cabin) ∧
    (s.loaded = false → s.lists.station = [] ∧ s.lists.storage = [] ∧ s.lists.upLine = [] ∧ s.lists.summit = [] ∧
      s.lists.downLine = [])

/-- An overdue record is that of the head of its list, and the condition of its cause is active exactly while the record
stands (R108 to R110). -/
def State.overdueKept (s : State) : Prop :=
  (∀ c, s.ltu.overUp = some c → s.lists.upLine.head?.map LineEntry.cabin = some c) ∧
    (∀ c, s.ltu.overDown = some c → s.lists.downLine.head?.map LineEntry.cabin = some c) ∧
    s.active .overdueUp = s.ltu.overUp.isSome ∧ s.active .overdueDown = s.ltu.overDown.isSome

/-- The cabin at the head of a line list, when the distance since its stamp is greater than LINE_LEN + ARR_TOL (R108,
R110). -/
def State.lateHead (s : State) (l : List LineEntry) : Option Cabin :=
  l.head?.bind fun e =>
    if (s.pfs.working.lineLen : Int) + s.pfs.working.arrTol < distance s.rmu.rd e.stamp then some e.cabin else none

/-- The up-line check runs: the link is LOCKED, and no census wait is present (R108). -/
def State.upChecked (s : State) : Prop := s.lkc.rx.sync = .locked ∧ s.ltu.wait = none

/-- Once the profile has been loaded, a head beyond the bound has its overdue record, for the up-line while its check
runs (R108, R110). -/
def State.overdueFound (s : State) : Prop :=
  s.loaded = true →
    (s.upChecked → (s.lateHead s.lists.upLine).isSome → s.ltu.overUp.isSome) ∧
      ((s.lateHead s.lists.downLine).isSome → s.ltu.overDown.isSome)

/-- While a release is in flight the storage head is its cabin (R58). -/
def State.releaseKept (s : State) : Prop := ∀ r, s.stu.release = some r → s.lists.storage.head? = some r.cabin

/-- The number of the entry at the gate whose cabin DOOR_NOT_LOCKED or GRIP_NOT_PASSED holds, in RUN (R90, R91). -/
def State.heldEntry (s : State) : Option Nat :=
  (s.lists.station.find? fun x => x.segment == .gat).bind fun e =>
    match e.who with
    | .cabin c =>
      if s.ssv.mode = .run ∧ e.atGate = true ∧ ((s.cab c).door ≠ .locked ∨ (s.cab c).grip ≠ .pass) then some e.id
      else none
    | .unidentified _ _ => none

/-- There is a hold start exactly while a door or grip hold is active, and it is that of the candidate (R91). -/
def State.holdKept (s : State) : Prop := s.lnu.hold.map HoldStart.entry = s.heldEntry

/-- An entry lies in a segment that has a SEG_LIMIT, and more than that has run since its entry RD (R44). -/
def State.beyondLimit (s : State) (e : StationEntry) : Bool :=
  (s.pfs.working.limitOf e.segment).any fun limit => decide ((limit : Int) < distance s.rmu.rd e.entryRd)

/-- The candidate: the oldest SEG-GAT entry, once it has its at-gate flag (R88). -/
def State.gateEntry (s : State) : Option StationEntry :=
  (s.lists.station.find? fun x => x.segment == .gat).filter StationEntry.atGate

/-- The limit of OVERSPEED: V_INSPECT in SERVICE, and otherwise V_RESTRICT or V_MAX by RESTRICTED (R30). -/
def State.overspeedLimit (s : State) (restricted : Bool) : Nat :=
  if s.ssv.mode = .service then s.pfs.working.vInspect
  else if restricted = true then s.pfs.working.vRestrict
  else s.pfs.working.vMax

/-- The event causes, as the column Kind of Table 10-2 gives them. -/
def Cause.event : Cause → Bool
  | .gateUnsafe | .switchUnsafe | .stationSequence | .releaseStuck | .driveFault | .gripFail | .gripSensor
  | .doorNotLockedStop | .launchStuck | .phantomArrival | .identityConflict | .arrivalOrder | .reader | .summitOrder
  | .early | .lineRecordConflict | .lineRecordBad | .lineOverrun | .censusMismatch | .doorOpenFail
  | .doorCloseFail => true
  | .overspeedHigh | .tensionLimit | .ropeDerail | .summitStopEmg | .hostStopEmg | .overspeed | .slip | .tensionRange
  | .ropePosition | .linkLost | .summitStopSvc | .summitNotReady | .stationStall | .stationFull | .storageFull
  | .overdueUp | .overdueDown | .hostSilent | .hostStopSvc | .unidentifiedAtGate | .doorNotLocked | .gripNotPassed
  | .linkBacklog | .hostHold | .towerSilent => false

/-- No cause but one of category HOLD is active without being latched (R169, R170). -/
def State.activesLatched (s : State) : Prop :=
  ∀ c : Cause, c.category ≠ .hold → s.active c = true → (s.cause c).latched = true

/-- The conditions of the station list and the storage rail are active exactly while they hold (R43, R44, R56). -/
def State.trackJudged (s : State) : Prop :=
  let p := s.pfs.working
  s.active .stationFull =
      Segment.all.any (fun g => decide (p.segCap.get g < s.lists.station.countP fun x => x.segment == g)) ∧
    s.active .stationStall = s.lists.station.any s.beyondLimit ∧
    s.active .storageFull = decide (p.storeCap < s.lists.storage.length)

/-- The five HOLD causes are active exactly while their conditions hold; while one is, its last detail is that of Table
5-3: the candidate's cabin for DOOR_NOT_LOCKED and GRIP_NOT_PASSED, and none for the others (R90, R170). -/
def State.gateJudged (s : State) : Prop :=
  let run := s.ssv.mode == .run
  let cabin := s.gateEntry.bind StationEntry.cabin
  s.active .unidentifiedAtGate = (run && s.gateEntry.any fun e => e.cabin.isNone) ∧
    s.active .doorNotLocked = (run && cabin.any fun c => (s.cab c).door != .locked) ∧
    s.active .gripNotPassed = (run && cabin.any fun c => (s.cab c).grip != .pass) ∧
    s.active .linkBacklog = (run && s.gateEntry.isSome && s.lnu.flight.isNone &&
      decide (128 < s.lkc.chan.occupancy + s.lkc.chan.reservedBytes + 5)) ∧
    s.active .hostHold = s.lnu.hostHold ∧
    (s.active .unidentifiedAtGate = true → (s.cause .unidentifiedAtGate).last = .absent) ∧
    (s.active .doorNotLocked = true → (s.cause .doorNotLocked).last = detailOf cabin) ∧
    (s.active .gripNotPassed = true → (s.cause .gripNotPassed).last = detailOf cabin) ∧
    (s.active .linkBacklog = true → (s.cause .linkBacklog).last = .absent) ∧
    (s.active .hostHold = true → (s.cause .hostHold).last = .absent)

/-- OVERSPEED is active exactly while V_MW is above the limit of mode and RESTRICTED, OVERSPEED_HIGH exactly while it is
above V_MAX + V_EMG_MARGIN or out of range (R30, R31). -/
def State.speedJudged (s : State) : Prop :=
  s.active .overspeed = decide (s.overspeedLimit s.ssv.restricted < s.rmu.mw.speed) ∧
    s.active .overspeedHigh =
      (decide (s.pfs.working.vMax + s.pfs.working.vEmgMargin < s.rmu.mw.speed) || s.rmu.mw.overrange)

/-- The tension conditions are active exactly while the carriage, of 16 samples, lies outside their bounds (R33,
R34). -/
def State.carriageJudged (s : State) : Prop :=
  let p := s.pfs.working
  let x := s.rmu.tension.sum / 16 * p.tensionSpan / 4095
  let full := decide (16 ≤ s.rmu.tension.length)
  s.active .tensionRange = (full && (decide (x < p.tensionLo) || decide (p.tensionHi < x))) ∧
    s.active .tensionLimit = (full && (decide (x < p.tensionLoLim) || decide (p.tensionHiLim < x)))

/-- The tower conditions are active exactly while some entry of the table meets them (R136). -/
def State.towersJudged (s : State) : Prop :=
  let l := s.lkc.towers.entries
  s.active .ropePosition = l.any (fun e =>
      (e.state == .inboard || e.state == .outboard) && decide (s.pfs.working.towerDwell ≤ e.run)) ∧
    s.active .ropeDerail = l.any (fun e => e.state == .derailed && decide (2 ≤ e.run)) ∧
    s.active .towerSilent = l.any (fun e => e.state == .sensorFault)

/-- The far end's conditions follow the held control word, which is out of use under LINK_LOST (R131 to R133). -/
def State.farJudged (s : State) : Prop :=
  let far : Option Word16 := if s.active .linkLost = true then none else s.lkc.rx.held
  s.active .summitStopEmg = far.any (fun w => ctlStop w == 2 || ctlStop w == 3) ∧
    s.active .summitStopSvc = far.any (fun w => ctlStop w == 1) ∧
    s.active .summitNotReady = (s.lkc.rx.sync == .locked && !far.any ctlPermit)

/-- The conditions that a settled event leaves evaluated: station, storage rail, gate and speed; and no event cause is
ever seen active (R170). -/
def State.conditionsKept (s : State) : Prop :=
  s.trackJudged ∧ s.gateJudged ∧ s.speedJudged ∧ ∀ c : Cause, c.event = true → s.active c = false

/-- The conditions of the carriage, the towers and the far end; before the profile has been loaded the rope is at rest,
the tension window is not full and every tower entry UNKNOWN (R36, R134). -/
def State.measuredKept (s : State) : Prop :=
  s.carriageJudged ∧ s.towersJudged ∧ s.farJudged ∧
    (s.loaded = false → s.rmu.mw.speed = 0 ∧ s.rmu.mw.overrange = false ∧ s.rmu.tension.length < 16 ∧
      ∀ e ∈ s.lkc.towers.entries, e.state = .unknown)

/-! ### What a command leaves alone -/

/-- The state, cut into the parts that the rules of the manual change together. -/
inductive Block where
  | pins | clock | power | rope | analog | cabins | lists | counts | track | route | doors | release | switch | gate
  | window | launch | hold | line | overdue | cycles | receiver | channel | reserved | towers | phone | mode | causes
  | tally | rx | replies | port | notices | profile | free | pending
  deriving DecidableEq, Repr

/-- A part of the state stands in `t` as it stood in `s`. -/
def Block.same (s t : State) : Block → Prop
  | .pins => t.pins = s.pins
  | .clock => t.clock = s.clock
  | .power => t.supply = s.supply ∧ t.resetCause = s.resetCause ∧ t.loaded = s.loaded
  | .rope => t.rmu = s.rmu
  | .analog => t.asc = s.asc
  | .cabins => t.cabins = s.cabins
  | .lists =>
    t.lists.station = s.lists.station ∧ t.lists.storage = s.lists.storage ∧ t.lists.upLine = s.lists.upLine ∧
      t.lists.summit = s.lists.summit ∧ t.lists.downLine = s.lists.downLine
  | .counts =>
    t.lists.stationCount = s.lists.stationCount ∧ t.lists.storageCount = s.lists.storageCount ∧
      t.lists.upLineCount = s.lists.upLineCount ∧ t.lists.summitCount = s.lists.summitCount ∧
      t.lists.downLineCount = s.lists.downLineCount
  | .track =>
    t.stu.inputs = s.stu.inputs ∧ t.stu.strobe = s.stu.strobe ∧ t.stu.latch = s.stu.latch ∧
      t.stu.lastArr = s.stu.lastArr ∧ t.stu.release = s.stu.release ∧ t.stu.nextId = s.stu.nextId
  | .route => t.stu.wanted = s.stu.wanted ∧ t.stu.throwPending = s.stu.throwPending
  | .doors => t.dru.opener = s.dru.opener ∧ t.dru.closer = s.dru.closer
  | .release => t.dru.release = s.dru.release
  | .switch => t.dru.switch = s.dru.switch
  | .gate => t.dru.gate = s.dru.gate
  | .window =>
    t.lnu.window = s.lnu.window ∧ t.lnu.lastResult = s.lnu.lastResult ∧ t.lnu.hostHold = s.lnu.hostHold
  | .launch => t.lnu.rdL = s.lnu.rdL ∧ t.lnu.flight = s.lnu.flight
  | .hold => t.lnu.hold = s.lnu.hold
  | .line => t.ltu.censusDue = s.ltu.censusDue ∧ t.ltu.wait = s.ltu.wait ∧ t.ltu.lastEnd = s.ltu.lastEnd
  | .overdue => t.ltu.overUp = s.ltu.overUp ∧ t.ltu.overDown = s.ltu.overDown
  | .cycles => t.lkc.ownNext = s.lkc.ownNext ∧ t.lkc.txCycle = s.lkc.txCycle
  | .receiver => t.lkc.rx = s.lkc.rx
  | .channel =>
    t.lkc.chan.queue = s.lkc.chan.queue ∧ t.lkc.chan.priority = s.lkc.chan.priority ∧
      t.lkc.chan.progress = s.lkc.chan.progress ∧ t.lkc.chan.assembly = s.lkc.chan.assembly ∧
      t.lkc.chan.texts = s.lkc.chan.texts ∧ t.lkc.chan.ownPause = s.lkc.chan.ownPause ∧
      t.lkc.chan.sent = s.lkc.chan.sent ∧ t.lkc.chan.received = s.lkc.chan.received ∧
      t.lkc.chan.discarded = s.lkc.chan.discarded ∧ t.lkc.chan.dropped = s.lkc.chan.dropped
  | .reserved => t.lkc.chan.reserved = s.lkc.chan.reserved
  | .towers => t.lkc.towers = s.lkc.towers
  | .phone => t.phn = s.phn
  | .mode =>
    t.ssv.mode = s.ssv.mode ∧ t.ssv.restricted = s.ssv.restricted ∧ t.ssv.lastKeep = s.ssv.lastKeep ∧
      t.ssv.deadline = s.ssv.deadline
  | .causes => t.ssv.causes = s.ssv.causes ∧ t.ssv.demand = s.ssv.demand ∧ t.ssv.lines = s.ssv.lines
  | .tally => t.tal = s.tal
  | .rx => t.spt.rx = s.spt.rx
  | .replies => t.spt.replies = s.spt.replies
  | .port =>
    t.spt.stopped = s.spt.stopped ∧ t.spt.badFrames = s.spt.badFrames ∧ t.spt.dropRequest = s.spt.dropRequest ∧
      t.spt.tx = s.spt.tx
  | .notices => t.spt.notices = s.spt.notices ∧ t.spt.lost = s.spt.lost ∧ t.spt.dropNotice = s.spt.dropNotice
  | .profile => t.pfs = s.pfs
  | .free => t.free = s.free
  | .pending => t.pending = s.pending

/-- Every part of the state outside a list stands in `t` as it stood in `s`. -/
def sameBut (changed : List Block) (s t : State) : Prop := ∀ b : Block, b ∉ changed → b.same s t

/-- What may follow from any event that a block takes, whatever it is: change counts, the wanted route and its throw, a
launch decision with its gate and reservation, the hold start, the overdue records, and the reports of conditions with
their notices (R8, R44, R52, R88 to R91, R107 to R110). What any step does there is said by `countsFollow`,
`throwCompared`, `launchDecided` and `State.Kept`. -/
def Block.settled : List Block :=
  [.counts, .route, .switch, .gate, .launch, .hold, .overdue, .reserved, .causes, .notices]

/-! ### Requests -/

/-- The part serves requests now: out of reset, its receiver not stopped by RESET_PART, the profile loaded, and room in
the reply queue (R192, R195, R201). -/
def State.serving (s : State) : Prop :=
  s.ssv.mode ≠ .off ∧ s.spt.stopped = false ∧ s.loaded = true ∧ s.spt.replies.length < 4

/-- A reply as a request's own rule gives it: kind KIND + 80h, its TAG, a status, and data (R192). -/
def replyIs (kind tag : Byte) (st : Status) (data : List Byte) : ReplyEntry :=
  .ready { kind := kind + 0x80, tag := tag, status := st, data := data, resets := false }

/-- `s` with the receiver hunting and one entry more in the reply queue: all that a request leaves that changes nothing
else (R191, R192). -/
def State.answered (s : State) (e : ReplyEntry) : State :=
  { s with spt := { s.spt with rx := .hunting, replies := s.spt.replies ++ [e] } }

/-- The body length that Table 13-3 gives a KIND of 01h to 32h; absent for the two that carry a text. -/
def tableLength (kind : Byte) : Option Nat :=
  match kind.toNat with
  | 0x01 | 0x04 => some 3
  | 0x02 | 0x03 | 0x05 | 0x06 | 0x08 | 0x0B | 0x13 | 0x16 | 0x1B | 0x1C | 0x1D | 0x1F | 0x21 | 0x24 | 0x29 => some 1
  | 0x07 | 0x0A | 0x0E | 0x25 | 0x2F => some 2
  | 0x26 => some 9
  | 0x27 => some 5
  | 0x30 => some 6
  | 0x17 | 0x18 => none
  | _ => some 0

/-! ### Notices -/

/-- The state after a notice has been formed: it joins those that wait, with the MS_TIME; where 16 wait it is dropped,
the notice-lost flag is set, and the count of dropped notices rises by 1 up to 65,535 (R193). -/
def State.noticed (n : Notice) (s : State) : State :=
  let u := s.spt
  { s with
    spt :=
      if u.notices.length < 16 then { u with notices := u.notices ++ [⟨s.clock.ms, n⟩] }
      else { u with lost := true, dropNotice := if u.dropNotice < 65535 then u.dropNotice + 1 else u.dropNotice } }

/-- Of the notices that an event forms, those that a test selects are the listed ones, in their order, with the MS_TIME
of the event. It is said of an event at which none is dropped (R193). -/
def sends (select : Notice → Bool) (l : List Notice) (s t : State) : Prop :=
  t.spt.notices.length < 16 →
    (t.spt.notices.drop s.spt.notices.length).filter (fun q => select q.notice) =
      l.map fun n => (⟨s.clock.ms, n⟩ : QueuedNotice)

/-- A notice of a KIND of Table 12-4. -/
def Notice.ofKind (kind : Byte) (n : Notice) : Bool := n.kind == kind

/-- A DRIVE_EVENT notice of a channel. -/
def Notice.ofDrive (ch : Channel) : Notice → Bool
  | .driveEvent k _ _ _ _ => k == ch
  | _ => false

/-- A CALL_EVENT notice of a channel. -/
def Notice.ofCall (ch : CallChannel) : Notice → Bool
  | .callEvent k _ _ _ => k == ch
  | _ => false

/-- A TALLY_OVERFLOW notice of a counter. -/
def Notice.ofCounter (k : CounterIx) : Notice → Bool
  | .tallyOverflow j _ _ _ => j == k
  | _ => false

/-! ### Reports of causes, and the tally -/

/-- A cause entry after a report of its cause becoming active, with detail, RD and MS_TIME (R170): active, latched by
all but a HOLD cause, one occurrence more up to 255, first stamps taken where the entry was clear, and the last
detail. -/
def CauseEntry.reported (c : Cause) (d : Detail) (rd ms : Word32) (e : CauseEntry) : CauseEntry where
  active := true
  latched := e.latched || c.category != .hold
  count := if e.count < 255 then e.count + 1 else e.count
  first := if e.active = true ∨ e.latched = true then e.first else some ⟨rd, ms, d⟩
  last := d

/-- A cause entry after its condition has been found to hold or not: a change is reported, with no detail (R170). -/
def CauseEntry.found (c : Cause) (now : Bool) (rd ms : Word32) (e : CauseEntry) : CauseEntry :=
  if now = e.active then e else if now = true then e.reported c .absent rd ms else { e with active := false }

/-- The occurrence counts that the CAUSE_RAISED notices of a cause carry, in the order of a list of notices, its detail
and RD aside. -/
def raisedCounts (c : Cause) (l : List QueuedNotice) : List Nat :=
  l.filterMap fun q =>
    match q.notice with
    | .causeRaised x _ n _ => if x = c then some n else none
    | _ => none

/-- The changes of demand that the DEMAND_CHANGED notices of a list carry, each as the pair of old and new. -/
def demandChanges (l : List QueuedNotice) : List (Demand × Demand) :=
  l.filterMap fun q =>
    match q.notice with
    | .demandChanged new old _ => some (old, new)
    | _ => none

/-- What a step makes of one entry of the cause table (R169, R170, R173). The count never falls. Without an occurrence
nothing new is active or latched, the first stamps stay, and the last detail changes only under a condition that stays
active. With one, all but a HOLD cause are latched, and a clear entry takes its first stamps, one that stands keeps
them; only an acknowledgement clears the latched field. -/
def entryFollows (acked : Bool) (c : Cause) (s t : State) : Prop :=
  let e := s.cause c
  let f := t.cause c
  let stood := e.active = true ∨ e.latched = true
  e.count ≤ f.count ∧ (e.count ≤ 255 → f.count ≤ 255) ∧
    (acked = false → e.latched = true → f.latched = true) ∧
    (acked = false → stood → f.first = e.first) ∧
    (f.count = e.count → e.count < 255 →
      (f.active = true → e.active = true) ∧ (f.latched = true → e.latched = true) ∧ f.first = e.first ∧
        (f.last = e.last ∨ e.active = true ∧ f.active = true)) ∧
    (e.count < f.count → (c.category ≠ .hold → f.latched = true) ∧
      (¬stood → ∃ rd d, (rd = t.rmu.rd ∨ rd = s.rmu.rd) ∧ f.first = some ⟨rd, s.clock.ms, d⟩ ∧
        (f.count = e.count + 1 → d = f.last)))

/-- The notices that a step forms of causes and demand, where none is dropped (R170, R171, R193): they stand behind
those that waited, stamped with its MS_TIME; each occurrence of a cause has its own, with the count it has reached, and
its RD; the changes of demand lead from the old demand to the new. -/
def noticesFollow (s t : State) : Prop :=
  ∃ new, t.spt.notices = s.spt.notices ++ new ∧ (∀ q ∈ new, q.ms = s.clock.ms) ∧
    (∀ c : Cause, (t.cause c).count < 255 →
      raisedCounts c new = (List.range ((t.cause c).count - (s.cause c).count)).map ((s.cause c).count + 1 + ·)) ∧
    (∀ q ∈ new, ∀ c d n rd, q.notice = .causeRaised c d n rd → (rd = t.rmu.rd ∨ rd = s.rmu.rd) ∧
      (n = (t.cause c).count → n < 255 → d = (t.cause c).last ∨ c = .doorNotLocked ∨ c = .gripNotPassed)) ∧
    (demandChanges new).map Prod.fst ++ [t.ssv.demand] = s.ssv.demand :: (demandChanges new).map Prod.snd ∧
    ∀ q ∈ new, ∀ x y lines, q.notice = .demandChanged x y lines →
      x ≠ y ∧ (lines = linesOf s.ssv.mode x ∨ lines = linesOf t.ssv.mode x)

/-- The tally unit after one counter has met an event of a source (R185, R186, R188): enabled, on that source and not
held by the freeze, it gains 1 modulo 2^32; at the wrap the overflow flag is set, and the freeze where the counter is a
trigger. -/
def Tal.met (src : TallySource) (u : Tal) (k : CounterIx) : Tal :=
  let r := u.counters[k]
  let wraps := decide (r.value.toNat = 4294967295)
  if r.enable = true ∧ r.source = src ∧ ¬(r.member = true ∧ u.frozen = true) then
    { counters := u.counters.set k { r with value := r.value + 1, overflow := r.overflow || wraps }
      frozen := u.frozen || (r.trigger && wraps) }
  else u

/-- The tally unit after an event of a source has been signalled to it: each of the eight counters has met it, in the
order of their numbers (R186; the order, which shows only where a trigger wraps, is log entry 17). -/
def Tal.event (src : TallySource) (u : Tal) : Tal := (List.finRange 8).foldl (Tal.met src) u

/-- The TALLY_OVERFLOW notices of an event of a source: one of each counter that wraps at it with notify on, with its
new value 0 and the freeze state after its overflow, against the unit as the counters before it have left it (R188). -/
def Tal.overflows (src : TallySource) (u : Tal) : List Notice :=
  (List.finRange 8).flatMap fun k =>
    let before : Tal := ((List.finRange 8).take k.val).foldl (Tal.met src) u
    let r : Counter := before.counters[k]
    if r.enable = true ∧ r.source = src ∧ ¬(r.member = true ∧ before.frozen = true) ∧ r.value.toNat = 4294967295 ∧
        r.notify = true then
      [.tallyOverflow k src 0 (before.frozen || r.trigger)]
    else []

/-- An event signals the listed sources to the tally unit, one after the other, and nothing else happens there; the
TALLY_OVERFLOW notices that it sends are those of these signals (R186, R188). -/
def tallied (l : List TallySource) (s t : State) : Prop :=
  let signalled := fun (x : Tal × List Notice) (src : TallySource) => (Tal.event src x.1, x.2 ++ Tal.overflows src x.1)
  let after := l.foldl signalled (s.tal, [])
  t.tal = after.1 ∧ sends (Notice.ofKind 0xC9) after.2 s t

/-! ### The rope -/

/-- The rope position in micrometres (R22). -/
def State.position (s : State) : Nat := s.rmu.rd.toNat * 1000 + s.rmu.rem

/-- The speed of a source from its period window: floor(step × n × 1000 / S), at most 12,000 and out of range above it,
and 0 with no period (R26). -/
def Source.measured (step : Nat) (r : Source) : Source :=
  let v := step * r.window.length * 1000 / r.window.sum
  { r with
    speed := if r.window = [] then 0 else if 12000 < v then 12000 else v
    overrange := r.window != [] && decide (12000 < v) }

/-- SLIP of two speeds: (V_BW − V_MW) × 1000 / V_BW toward zero within −999..+999, and 0 below SLIP_VMIN (R28). -/
def slipAt (p : Params) (bw mw : Nat) : Int :=
  let x := Int.tdiv (((bw : Int) - mw) * 1000) bw
  if bw < p.slipVmin then 0 else if 999 < x then 999 else if x < -999 then -999 else x

/-- Start and condition of a slip after its persistence is updated: within SLIP_LIMIT the start is discarded and the
condition inactive; beyond it the start is taken at the standing RD, or kept, and then the condition is active once
SLIP_HOLD_MM have run (R29). -/
def slipPersists (p : Params) (rd : Word32) (slip : Int) (x : Option Word32 × Bool) : Option Word32 × Bool :=
  if slip.natAbs ≤ p.slipLimit then (none, false)
  else
    match x.1 with
    | none => (some rd, x.2)
    | some start => (some start, x.2 || decide ((p.slipHoldMm : Int) ≤ distance rd start))

/-- The start of the present slip and the condition SLIP. -/
def State.slipState (s : State) : Option Word32 × Bool := (s.rmu.slipStart, s.active .slip)

/-- What a recomputation of SLIP makes of it and of its persistence, from the speeds and the RD that `t` has (R28,
R29). -/
def slipFollows (s t : State) : Prop :=
  t.rmu.slip = slipAt s.pfs.working t.rmu.bw.speed t.rmu.mw.speed ∧
    t.slipState = slipPersists s.pfs.working t.rmu.rd t.rmu.slip s.slipState

/-- The parameters of Table 2-6, the rope's. -/
def Param.ofRope : Param → Bool
  | .mwStepUm | .bwStepUm | .slipVmin | .slipLimit | .slipHoldMm | .vMax | .vEmgMargin | .vInspect | .vRestrict
  | .tensionSpan | .tensionLoLim | .tensionLo | .tensionHi | .tensionHiLim => true
  | _ => false

/-- What the write of a parameter evaluates again in the rope measurement, by the table of R35: the speed of the source
whose step is written, slip behind a step and SLIP_VMIN, persistence behind each of the slip's parameters; and then, for
every parameter of the rope, the conditions of speed and of a carriage of 16 samples. -/
def ropeFollows (x : Param) (s t : State) : Prop :=
  let p := t.pfs.working
  let slips := x = .mwStepUm ∨ x = .bwStepUm ∨ x = .slipVmin
  t.rmu = { s.rmu with
      mw := if x = .mwStepUm then s.rmu.mw.measured p.mwStepUm else s.rmu.mw
      bw := if x = .bwStepUm then s.rmu.bw.measured p.bwStepUm else s.rmu.bw
      slip := if slips then slipAt p t.rmu.bw.speed t.rmu.mw.speed else s.rmu.slip
      slipStart := t.rmu.slipStart } ∧
    t.slipState = (if slips ∨ x = .slipLimit ∨ x = .slipHoldMm then
      slipPersists p s.rmu.rd t.rmu.slip s.slipState else s.slipState) ∧
    (Param.ofRope x = true → t.speedJudged ∧ (16 ≤ s.rmu.tension.length → t.carriageJudged)) ∧
    (Param.ofRope x = false → t.active .overspeed = s.active .overspeed ∧ t.active .overspeedHigh = s.active .overspeedHigh) ∧
    (Param.ofRope x = false ∨ s.rmu.tension.length < 16 →
      t.active .tensionRange = s.active .tensionRange ∧ t.active .tensionLimit = s.active .tensionLimit)

/-- What a restore evaluates again in the rope measurement: as if each parameter of Table 2-6 were written in turn, in
the order of their numbers, so that the slip's persistence passes through the values in between (R35). -/
def ropeRestoredFrom (s t : State) : Prop :=
  let p := s.pfs.working
  let q := t.pfs.working
  let mw := s.rmu.mw.measured q.mwStepUm
  let bw := s.rmu.bw.measured q.bwStepUm
  let p3 := { p with slipVmin := q.slipVmin }
  let p4 := { p3 with slipLimit := q.slipLimit }
  let slip := slipAt q bw.speed mw.speed
  let x1 := slipPersists p s.rmu.rd (slipAt p s.rmu.bw.speed mw.speed) s.slipState
  let x2 := slipPersists p s.rmu.rd (slipAt p bw.speed mw.speed) x1
  let x3 := slipPersists p3 s.rmu.rd slip x2
  let x4 := slipPersists p4 s.rmu.rd slip x3
  let x5 := slipPersists q s.rmu.rd slip x4
  t.rmu = { s.rmu with mw := mw, bw := bw, slip := slip, slipStart := x5.1 } ∧ t.active .slip = x5.2 ∧
    t.speedJudged ∧ (16 ≤ s.rmu.tension.length → t.carriageJudged)

/-- A tower entry after TOWER_STALE is looked at: one that is older, and not found so before, is SENSOR_FAULT with run 0
and the standing RD as its change RD (R135). -/
def TowerEntry.staleAt (limit : Nat) (rd : Word32) (e : TowerEntry) : TowerEntry :=
  if e.state ≠ .sensorFault ∧ limit < e.age then { e with state := .sensorFault, run := 0, changeRd := some rd } else e

/-- What the write of a parameter evaluates again in the tower table (R137): TOWER_COUNT cuts it or adds entries in
UNKNOWN, TOWER_STALE finds stale what is older; with TOWER_DWELL each evaluates the three conditions. -/
def towersFollow (x : Param) (s t : State) : Prop :=
  let p := t.pfs.working
  let l := s.lkc.towers.entries
  t.lkc.towers = { s.lkc.towers with
      entries :=
        if x = .towerCount then List.take p.towerCount l ++ List.replicate (p.towerCount - l.length) ⟨.unknown, 0, 0, none⟩
        else if x = .towerStale then List.map (TowerEntry.staleAt p.towerStale s.rmu.rd) l
        else l } ∧
    (if x = .towerCount ∨ x = .towerDwell ∨ x = .towerStale then t.towersJudged
     else t.active .ropePosition = s.active .ropePosition ∧ t.active .ropeDerail = s.active .ropeDerail ∧
       t.active .towerSilent = s.active .towerSilent)

/-- The overdue checks as an event makes them with the bounds that then stand (R108 to R111): a record stays, and
without one a head beyond the bound takes it, for the up-line while its check runs. -/
def overdueChecked (s t : State) : Prop :=
  (∀ c, s.ltu.overUp = some c → t.ltu.overUp = some c) ∧ (∀ c, s.ltu.overDown = some c → t.ltu.overDown = some c) ∧
    (s.ltu.overUp = none →
      (s.upChecked → t.ltu.overUp = t.lateHead s.lists.upLine) ∧ (¬s.upChecked → t.ltu.overUp = none) ∧
      ∀ c, t.ltu.overUp = some c → t.active .overdueUp = true ∧ (t.cause .overdueUp).latched = true ∧
        (t.cause .overdueUp).last = .cabin c) ∧
    (s.ltu.overDown = none → t.ltu.overDown = t.lateHead s.lists.downLine ∧
      ∀ c, t.ltu.overDown = some c → t.active .overdueDown = true ∧ (t.cause .overdueDown).latched = true ∧
        (t.cause .overdueDown).last = .cabin c)

/-! ### The checks that a change of RD makes -/

/-- The force of a grip window: 0 for a peak up to GRIP_ZERO and (peak − GRIP_ZERO) × GRIP_SCALE / 4096 above it
(R86). -/
def GripWindow.force (p : Params) (w : GripWindow) : Nat :=
  if w.peak ≤ p.gripZero then 0 else (w.peak - p.gripZero) * p.gripScale / 4096

/-- The result of a grip window: PASS for a force within GRIP_MIN..GRIP_MAX and FAIL otherwise, and FAIL at a peak of
4095 (R86). -/
def GripWindow.result (p : Params) (w : GripWindow) : GripResult :=
  if w.peak = 4095 then .fail else if p.gripMin ≤ w.force p ∧ w.force p ≤ p.gripMax then .pass else .fail

/-- A station list after a grip window has closed: an unidentified entry keeps the window's result and force in its own
fields; an identified one has none (R7, R87). -/
def GripWindow.writtenTo (p : Params) (w : GripWindow) (l : List StationEntry) : List StationEntry :=
  if w.cabin.isSome then l
  else l.map fun x =>
    match x.who with
    | .unidentified _ _ => if x.id = w.entry then { x with who := .unidentified (w.result p) (w.force p) } else x
    | .cabin _ => x

/-- What the close of a grip window signals to the tally unit: GRIP_FAIL at a FAIL (R86, Table 11-2). -/
def GripWindow.signals (p : Params) (w : GripWindow) : List TallySource :=
  if w.result p = .fail then [.gripFail] else []

/-- A grip window closes (R86, R87): force and result are kept, the causes follow, and the window's cabin takes both
when it is located STATION and its entry still stands. -/
def gripJudged (w : GripWindow) (s t : State) : Prop :=
  let p := s.pfs.working
  t.lnu.lastResult = some { force := w.force p, result := w.result p } ∧
    (w.result p = .fail → (t.cause .gripFail).latched = true ∧ (t.cause .gripFail).last = detailOf w.cabin) ∧
    (w.result p ≠ .fail → t.cause .gripFail = s.cause .gripFail) ∧
    (w.peak = 4095 → (t.cause .gripSensor).latched = true ∧ (t.cause .gripSensor).last = detailOf w.cabin) ∧
    (w.peak ≠ 4095 → t.cause .gripSensor = s.cause .gripSensor) ∧
    ∀ d : Cabin, t.cab d =
      if w.cabin = some d ∧ s.lists.station.any (fun x => x.id == w.entry) = true ∧ (s.cab d).location = .station then
        { s.cab d with grip := w.result p, force := w.force p }
      else s.cab d

/-- The grip window at a change of RD (R85): it closes when GRIP_WINDOW_MAX has run since its open RD, an unidentified
entry keeps the result of its own, and otherwise window, last result, entries, cabins and tally stay. -/
def windowChecked (s t : State) : Prop :=
  let p := s.pfs.working
  (∀ w, s.lnu.window = some w → (p.gripWindowMax : Int) ≤ distance t.rmu.rd w.openRd →
    t.lnu.window = none ∧ gripJudged w s t ∧ t.lists.station = w.writtenTo p s.lists.station ∧
      tallied (w.signals p) s t) ∧
    ((∀ w, s.lnu.window = some w → distance t.rmu.rd w.openRd < (p.gripWindowMax : Int)) →
      t.lnu.window = s.lnu.window ∧ t.lnu.lastResult = s.lnu.lastResult ∧ t.lists.station = s.lists.station ∧
        t.cabins = s.cabins ∧ tallied [] s t)

/-- The hold start after an event (R91): that of the entry held now, kept where it was held before, and marked used
where the event raised the stop; taken at the standing RD for an entry that was not held; and none without a held
entry. -/
def holdFollows (fired : Bool) (s t : State) : Prop :=
  t.lnu.hold = t.heldEntry.map fun id =>
    match s.lnu.hold with
    | some h => if h.entry = id then { h with used := h.used || fired } else ⟨id, t.rmu.rd, false⟩
    | none => ⟨id, t.rmu.rd, false⟩

/-- The stop of a hold at a change of RD (R91): a hold start that is not used, LAUNCH_WAIT or more behind, raises
DOOR_NOT_LOCKED_STOP with the candidate's cabin and is used; nothing else raises it. -/
def holdChecked (s t : State) : Prop :=
  let fired := s.lnu.hold.any fun h => !h.used && decide ((s.pfs.working.launchWait : Int) ≤ distance t.rmu.rd h.rd)
  holdFollows fired s t ∧
    (fired = true → (t.cause .doorNotLockedStop).latched = true ∧
      (t.cause .doorNotLockedStop).last = detailOf s.candidateCabin) ∧
    (fired = false → t.cause .doorNotLockedStop = s.cause .doorNotLockedStop)

/-- A launch in flight at a change of RD (R97): in phase OPENING, with the stuck flag clear and more than GATE_LEAVE run
since the launch RD, LAUNCH_STUCK is raised with its cabin and the flag set; the gate stays as it is. -/
def flightChecked (s t : State) : Prop :=
  (∀ f, s.lnu.flight = some f → t.dru.gate = s.dru.gate ∧ t.lnu.rdL = s.lnu.rdL ∧
    (if f.left = false ∧ f.stuck = false ∧ (s.pfs.working.gateLeave : Int) < distance t.rmu.rd f.launchRd then
       t.lnu.flight = some { f with stuck := true } ∧ (t.cause .launchStuck).latched = true ∧
         (t.cause .launchStuck).last = .cabin f.cabin
     else t.lnu.flight = some f ∧ t.cause .launchStuck = s.cause .launchStuck)) ∧
    (s.lnu.flight = none → t.cause .launchStuck = s.cause .launchStuck)

/-- A channel without a door task after a command toward an end (Table 4-3, R66, R67): a stroke is started, or reversed
with its peak current kept; BLOCKED with that end active comes to rest there; at that end and on the way to it the
channel stays as it is, and so it does where the command is not taken, in FAULT and in UNKNOWN toward END_B. -/
def DriveChannel.commanded (e : End) (ms : Word32) (d : DriveChannel) : DriveChannel :=
  let stroke : DriveChannel := { d with state := toEnd e, strokeStart := some ms, run := 0, peak := 0 }
  match d.state, e with
  | .atA, .a | .toA, .a | .atB, .b | .toB, .b | .unknown, .b | .fault, _ => d
  | .toA, .b | .toB, .a => { stroke with peak := d.peak }
  | .atA, .b | .atB, .a | .unknown, .a => stroke
  | .blocked, _ => if d.endLevel e = true then { d with state := atEnd e, strokeStart := none, run := 0 } else stroke

/-- The notice of a command that finds a BLOCKED channel already at the end asked: DRIVE_EVENT, COMPLETED (Table 4-3,
R82). No other command sends one. -/
def DriveChannel.foundThere (ch : Channel) (e : End) (d : DriveChannel) : List Notice :=
  if d.state = .blocked ∧ d.endLevel e = true then [.driveEvent ch (atEnd e) .completed d.peak d.retry] else []

/-- The state after a command toward an end has been given to a channel without a door task (Table 4-3). -/
def State.commanded (ch : Channel) (e : End) (s : State) : State :=
  let d := s.dru.get ch
  (d.foundThere ch e).foldl (fun x n => x.noticed n) { s with dru := s.dru.put ch (d.commanded e s.clock.ms) }

/-- A release in flight at a change of RD (R58): in phase WAITING, with more than RELEASE_WAIT run since the release
completion RD, RELEASE_STUCK is raised with its cabin, the RELEASE channel is commanded toward END_A and the release
ends; otherwise release and channel stay. -/
def releaseChecked (s t : State) : Prop :=
  t.lists.storage = s.lists.storage ∧
    (∀ r x, s.stu.release = some r → r.completion = some x →
      (s.pfs.working.releaseWait : Int) < distance t.rmu.rd x →
      t.stu.release = none ∧ t.dru.release = s.dru.release.commanded .a s.clock.ms ∧
        sends (Notice.ofDrive .release) (s.dru.release.foundThere .release .a) s t ∧
        (t.cause .releaseStuck).latched = true ∧ (t.cause .releaseStuck).last = .cabin r.cabin) ∧
    ((∀ r x, s.stu.release = some r → r.completion = some x →
        distance t.rmu.rd x ≤ (s.pfs.working.releaseWait : Int)) →
      t.stu.release = s.stu.release ∧ t.dru.release = s.dru.release ∧ sends (Notice.ofDrive .release) [] s t ∧
        t.cause .releaseStuck = s.cause .releaseStuck)

/-- STATION_STALL is active exactly while an entry is beyond its limit; when it becomes active its detail is the cabin
of the one nearest the list head (R44). -/
def stallFollows (s t : State) : Prop :=
  t.active .stationStall = t.lists.station.any t.beyondLimit ∧
    (s.active .stationStall = false → ∀ e, t.lists.station.find? t.beyondLimit = some e →
      (t.cause .stationStall).latched = true ∧ (t.cause .stationStall).last = detailOf e.cabin)

/-- The end of the SWITCH that a route asks for (R52). -/
def Route.wantedEnd (r : Route) : End := if r = .line then .a else .b

/-- The SWITCH stands at the end that a route asks for, or drives toward it (R52). -/
def State.switchedTo (s : State) (r : Route) : Bool :=
  s.dru.switch.state == atEnd r.wantedEnd || s.dru.switch.state == toEnd r.wantedEnd

/-- The clearance is met at an RD (R53). -/
def State.clearAt (s : State) (rd : Word32) : Bool :=
  s.stu.lastArr.all fun x => decide ((s.pfs.working.switchClear : Int) ≤ distance rd x)

/-- A throw is pending after the comparison of a wanted route with the SWITCH, the clearance being met or not: without
it, and where the channel does not take the command, in FAULT and in UNKNOWN toward END_B (R52, R53, Table 4-3). -/
def State.throwStays (s : State) (r : Route) (clear : Bool) : Bool :=
  !s.switchedTo r && (!clear || s.dru.switch.state == .fault || (s.dru.switch.state == .unknown && r == .store))

/-- The comparison of a wanted route with the SWITCH, the clearance being met or not (R52, R53): with it the channel is
commanded toward the wanted end, unless it stands there or drives there; without it the channel stays as it is. The
pending throw follows. -/
def throwCompared (r : Route) (clear : Bool) (s t : State) : Prop :=
  t.stu.throwPending = s.throwStays r clear ∧
    (s.switchedTo r = true ∨ clear = false →
      t.dru.switch = s.dru.switch ∧ sends (Notice.ofDrive .switch) [] s t) ∧
    (s.switchedTo r = false → clear = true →
      t.dru.switch = s.dru.switch.commanded r.wantedEnd s.clock.ms ∧
        sends (Notice.ofDrive .switch) (s.dru.switch.foundThere .switch r.wantedEnd) s t)

/-- The throw at a change of RD (R52, R53): the wanted route is compared with the SWITCH, the clearance being that at the
new RD; without a wanted route nothing changes. -/
def throwChecked (s t : State) : Prop :=
  (s.stu.wanted = none → t.stu.throwPending = s.stu.throwPending ∧ t.dru.switch = s.dru.switch ∧
    sends (Notice.ofDrive .switch) [] s t) ∧
    ∀ r : Route, s.stu.wanted = some r → throwCompared r (s.clearAt t.rmu.rd) s t

/-! ### Door tasks -/

/-- A channel when an entry is bound to a cabin: the door task of that entry is the cabin's from then on, and nothing else
changes (R72, R74). -/
def DriveChannel.boundTo (entry : Nat) (c : Cabin) (d : DriveChannel) : DriveChannel :=
  { d with task := d.task.map fun k => if k.entry = entry then { k with cabin := some c } else k }

/-- The door task that a new one finds on its channel fails: it is not RETURNING (R78). -/
def DriveChannel.oldFails (d : DriveChannel) : Bool := d.task.any fun t => t.phase != .returning

/-- The command of a door task is not taken, and the task fails at once: the channel is in FAULT or UNKNOWN (R73,
R77). -/
def DriveChannel.refuses (d : DriveChannel) : Bool := d.state == .fault || d.state == .unknown

/-- The command of a door task finds END_B reached already: in AT_B, or BLOCKED with END_B active (R78, Table 4-3). -/
def DriveChannel.atOnce (d : DriveChannel) : Bool := d.state == .atB || d.state == .blocked && d.endB.level

/-- A door channel after the command toward END_B of a new task (R72, R74, R78, Table 4-3): a stroke is started,
reversed with its peak current kept, or taken over as it runs; with END_B reached the task returns at once; a task that
fails is gone, and the channel stays. -/
def DriveChannel.doorCommanded (t : DoorTask) (ms : Word32) (d : DriveChannel) : DriveChannel :=
  if d.refuses then { d with task := none }
  else if d.atOnce then
    { d with task := some { t with phase := .returning }, state := .toA, strokeStart := some ms, run := 0, peak := 0 }
  else
    match d.state with
    | .toB => { d with task := some t }
    | .toA => { d with task := some t, state := .toB, strokeStart := some ms, run := 0 }
    | _ => { d with task := some t, state := .toB, strokeStart := some ms, run := 0, peak := 0 }

/-- An opener task starts for an entry (R45, R72, R73, R78): what becomes of the OPENER with its notices, of the doors,
and of DOOR_OPEN_FAIL. Door results go to cabins located STATION. -/
def openerStarts (entry : Nat) (cabin : Option Cabin) (s t : State) : Prop :=
  let d := s.dru.opener
  let task : DoorTask := { entry := entry, cabin := cabin, phase := .opening, reach := s.rmu.rd }
  t.dru.opener = d.doorCommanded task s.clock.ms ∧ t.dru.closer = s.dru.closer ∧
    sends (Notice.ofDrive .opener) (d.foundThere .opener .b) s t ∧
    (∀ k,
      let r := s.cab k
      let failed := cabin = some k ∧ d.refuses = true ∨ d.oldFails = true ∧ d.task.bind DoorTask.cabin = some k
      t.cab k = if r.location ≠ .station then r
        else if cabin = some k ∧ d.atOnce = true then { r with door := .opened }
        else if failed then { r with door := .unknown }
        else r) ∧
    (d.oldFails = true ∨ d.refuses = true → (t.cause .doorOpenFail).latched = true) ∧
    (d.oldFails = false → d.refuses = false → t.cause .doorOpenFail = s.cause .doorOpenFail)

/-- A closer task starts for an entry, with retry count 0 (R45, R74, R77, R78): what becomes of the CLOSER with its
notices, of the doors, and of DOOR_CLOSE_FAIL. -/
def closerStarts (entry : Nat) (cabin : Option Cabin) (s t : State) : Prop :=
  let d := s.dru.closer
  let task : DoorTask := { entry := entry, cabin := cabin, phase := .closing, reach := s.rmu.rd }
  t.dru.closer = DriveChannel.doorCommanded task s.clock.ms { d with retry := 0 } ∧ t.dru.opener = s.dru.opener ∧
    sends (Notice.ofDrive .closer) (DriveChannel.foundThere .closer .b { d with retry := 0 }) s t ∧
    (∀ k,
      let r := s.cab k
      t.cab k = if r.location = .station ∧ cabin = some k ∧ d.atOnce = true ∧ r.door ≠ .locked then
          { r with door := .closed }
        else r) ∧
    (d.oldFails = true ∨ d.refuses = true → (t.cause .doorCloseFail).latched = true) ∧
    (d.oldFails = false → d.refuses = false → t.cause .doorCloseFail = s.cause .doorCloseFail)

/-- A door task's channel has failed (R72 to R77): the task ends as failed, with UNKNOWN written and DOOR_OPEN_FAIL for
the opener's, DOOR_CLOSE_FAIL for the closer's; in RETURNING it ends without either; a PAUSE stands. (Both ends active
in REVERSING and RETURNING is log entry 41.) -/
def taskFails (ch : Channel) (s t : State) : Prop :=
  let still := t.cabins = s.cabins ∧ t.cause .doorOpenFail = s.cause .doorOpenFail ∧
    t.cause .doorCloseFail = s.cause .doorCloseFail
  match (s.dru.get ch).task with
  | none => (t.dru.get ch).task = none ∧ still
  | some k =>
    match k.phase with
    | .returning => (t.dru.get ch).task = none ∧ still
    | .pause _ => (t.dru.get ch).task = some k ∧ still
    | .opening | .closing | .reversing =>
      (t.dru.get ch).task = none ∧
        if ch = .opener then
          (t.cause .doorOpenFail).latched = true ∧ (t.cause .doorOpenFail).last = detailOf k.cabin ∧
            t.cause .doorCloseFail = s.cause .doorCloseFail ∧
            ∀ d, t.cab d = if k.cabin = some d ∧ (s.cab d).location = .station then { s.cab d with door := .unknown }
              else s.cab d
        else
          (t.cause .doorCloseFail).latched = true ∧ (t.cause .doorCloseFail).last = detailOf k.cabin ∧
            t.cause .doorOpenFail = s.cause .doorOpenFail ∧ t.cabins = s.cabins

/-- The parts of an event at a channel that is no door's: its task field, the doors and their causes stay. -/
def doorsStay (ch : Channel) (s t : State) : Prop :=
  (t.dru.get ch).task = (s.dru.get ch).task ∧ t.cabins = s.cabins ∧
    t.cause .doorOpenFail = s.cause .doorOpenFail ∧ t.cause .doorCloseFail = s.cause .doorCloseFail

/-- A launch in flight is still in flight, RD_L and reservation with it. -/
def flightStays (s t : State) : Prop :=
  ∀ f, s.lnu.flight = some f →
    t.lnu.flight = some f ∧ t.lnu.rdL = s.lnu.rdL ∧ t.lkc.chan.reserved = s.lkc.chan.reserved

/-- What becomes of the task, the release and the launch that a channel's FAULT or BLOCKED meets: a door task fails (R72
to R77), a release in phase OPENING ends (R58), a launch in phase OPENING is given up and its reservation returned, RD_L
kept (R96); those of other channels, or in another phase, stay. -/
def channelFails (ch : Channel) (s t : State) : Prop :=
  match ch with
  | .opener | .closer => taskFails ch s t ∧ t.stu.release = s.stu.release ∧ flightStays s t
  | .switch => doorsStay ch s t ∧ t.stu.release = s.stu.release ∧ flightStays s t
  | .release =>
    doorsStay ch s t ∧ t.stu.release = s.stu.release.filter (fun r => r.completion.isSome) ∧ flightStays s t
  | .gate =>
    doorsStay ch s t ∧ t.stu.release = s.stu.release ∧ t.lnu.flight = s.lnu.flight.filter Flight.left ∧
      t.lnu.rdL = s.lnu.rdL ∧
      t.lkc.chan.reserved = if s.lnu.flight.any (fun f => !f.left) = true then false else s.lkc.chan.reserved

/-! ### Records and calls -/

/-- The own pause after an evaluation, at a fill of the receive store and a number of held texts: clear with no text or
a fill of 16 or less, set at a fill of 48 or more, and otherwise as it was (R152). -/
def pauseAfter (texts fill : Nat) (pause : Bool) : Bool :=
  if texts = 0 ∨ fill ≤ 16 then false else if 48 ≤ fill then true else pause

/-- A call record after a far-code event of its channel (Table 9-5, R159 to R161). -/
def CallRecord.onFar (ms : Word32) (k : CallCode) (r : CallRecord) : CallRecord :=
  let silent : CallRecord := { r with held := 0, holdCount := 0, output := 0 }
  let incoming := fun (why : CallReason) =>
    { r with state := .ringing, origin := some .incoming, timer := some ⟨.ring, ms⟩, last := some why }
  let connected := { silent with state := .connected, timer := none, last := some .answered }
  let cleared := fun (x : CallRecord) => { x with state := .idle, origin := none, timer := none, last := some .farClear }
  match r.state, k with
  | .idle, .seize => incoming .incoming
  | .seizing, .alert => { r with state := .ringback, timer := some ⟨.ring, ms⟩, last := some .alerted }
  | .seizing, .seize => incoming .glare
  | .seizing, .answer | .ringback, .answer => connected
  | .seizing, .clear | .ringback, .clear | .ringback, .idle | .ringing, .clear | .ringing, .idle => cleared r
  | .connected, .clear | .connected, .idle => cleared silent
  | .clearing, .idle => { r with state := .idle, origin := none, timer := none, last := some .cleared }
  | _, _ => r

/-- A call record after the far code of an applied cycle, `old` being the one applied before it (R158): an undefined
value is counted, and a defined one that is new is an event. -/
def CallRecord.onCode (ms : Word32) (old new : BitVec 3) (r : CallRecord) : CallRecord :=
  if new = old then r
  else
    match CallCode.ofField new with
    | none => { r with undefined := if r.undefined < 65535 then r.undefined + 1 else r.undefined }
    | some k => if k = r.farCode then r else CallRecord.onFar ms k { r with farCode := k }

/-- A call record after its voice sample of an applied cycle (R166). -/
def CallRecord.onVoice (v : Voice) (r : CallRecord) : CallRecord :=
  if r.state = .connected then { r with output := v, held := v, holdCount := 0 } else r

/-! ### What the reads answer

The fields of each reply in the order in which its rule lists them, coded by R202 and section 13.2. -/

/-- A kept RD and the distance since it, both absent where none is kept (R23). -/
def State.rdKept (s : State) (x : Option Word32) : List Byte :=
  opt 4 w32 x ++ opt 4 (fun x => i32 (distance s.rmu.rd x)) x

/-- The time since a kept MS_TIME. -/
def State.msSince (s : State) (x : Word32) : List Byte := u32 (s.clock.ms - x).toNat

/-- The entries of a list from a position on, behind their number. -/
def entriesFrom (start max : Nat) (l : List (List Byte)) : List Byte :=
  u8 (Nat.min max (l.length - start)) ++ ((l.drop start).take max).flatten

/-- Average and position of the tension carriage, absent below 16 samples (R33). -/
def State.carriageFields (s : State) : Option Nat × Option Nat :=
  let average := s.rmu.tension.sum / 16
  if 16 ≤ s.rmu.tension.length then (some average, some (average * s.pfs.working.tensionSpan / 4095)) else (none, none)

/-- READ_CABIN: the fields of Table 1-5, and the entries ahead of the cabin in the list of its location (R13). -/
def State.cabinReply (s : State) (c : Cabin) : List Byte :=
  let r := s.cab c
  let stamp := fun (l : List LineEntry) => opt 4 w32 ((l.find? fun e => e.cabin == c).map LineEntry.stamp)
  let ahead := fun (l : List LineEntry) => l.findIdx? fun e => e.cabin == c
  flag r.registered ++ u8 r.location.code ++ u8 r.door.code ++ u8 r.grip.code ++ u16 r.force ++ u16 r.launches ++
    flag r.due ++ flag r.retire ++ stamp s.lists.upLine ++ stamp s.lists.summit ++ stamp s.lists.downLine ++
    opt 1 u8 (match r.location with
      | .station => s.lists.station.findIdx? fun e => e.who == .cabin c
      | .storage => s.lists.storage.findIdx? fun x => x == c
      | .upLine => ahead s.lists.upLine
      | .summit => ahead s.lists.summit
      | .downLine => ahead s.lists.downLine
      | .unplaced | .withdrawn | .lost => none)

/-- Name code, change count and coded entries of each list, for READ_LIST (R14): a station entry takes 10 bytes, an
identified one with zeros for the grip fields, a line entry 5. -/
def State.listReply (s : State) : List (Nat × Word16 × List (List Byte)) :=
  let line := fun (l : List LineEntry) => l.map fun e => cabinField (some e.cabin) ++ w32 e.stamp
  [(0, s.lists.stationCount, s.lists.station.map fun e =>
      cabinField e.cabin ++ u8 (Segment.code e.segment) ++ w32 e.entryRd ++ flag e.atGate ++
        match e.who with
        | .cabin _ => [0, 0, 0]
        | .unidentified grip force => u8 grip.code ++ u16 force),
    (1, s.lists.storageCount, s.lists.storage.map fun c => cabinField (some c)),
    (2, s.lists.upLineCount, line s.lists.upLine), (3, s.lists.summitCount, line s.lists.summit),
    (4, s.lists.downLineCount, line s.lists.downLine)]

/-- READ_ROPE (R37; the code of DIRECTION is log entry 22). -/
def State.ropeReply (s : State) : List Byte :=
  let r := s.rmu
  let source := fun (x : Source) =>
    u8 (if x.kept.isSome then 0 else 1) ++ u8 x.window.length ++ u32 x.window.sum
  w32 r.rd ++ u16 r.rem ++ u8 r.direction.code ++ u16 r.mw.speed ++ flag r.mw.overrange ++ u16 r.bw.speed ++
    flag r.bw.overrange ++ source r.mw ++ source r.bw ++ i32 r.slip ++ s.rdKept r.slipStart ++
    flag (s.active .overspeed) ++ flag (s.active .overspeedHigh) ++ flag (s.active .slip) ++
    flag (s.active .tensionRange) ++ flag (s.active .tensionLimit) ++ u16 (s.overspeedLimit s.ssv.restricted) ++
    opt 2 u16 s.carriageFields.1 ++ opt 2 u16 s.carriageFields.2 ++ u8 r.tension.length ++
    s.asc.toList.flatMap (fun n => u16 n.toNat) ++ u16 r.jumps

/-- READ_TRACK (R61; that the completion RD is an optional field is log entry 20). -/
def State.trackReply (s : State) : List Byte :=
  let u := s.stu
  ([.arr, .opn, .cls, .lck, .grp, .gat, .att, .sti, .stm, .lckOk] : List StationInput).flatMap
      (fun i => flag (u.inputs.get i).level) ++
    opt 1 (fun n => u8 n) (u.latch.map fun l => l.code.toNat) ++ s.rdKept (u.latch.map Latch.rd) ++ s.rdKept u.lastArr ++
    flag (u.lastArr.all fun x => decide ((s.pfs.working.switchClear : Int) ≤ distance s.rmu.rd x)) ++
    opt 1 u8 (u.wanted.map fun r => if r = .line then 0 else 1) ++ flag u.throwPending ++
    cabinField (u.release.map Release.cabin) ++
    opt 1 u8 (u.release.map fun r => if r.completion.isSome then 1 else 0) ++ opt 4 w32 (u.release.bind Release.completion) ++
    ([.opn, .sti, .cls, .lck, .grp, .gat, .att] : List Segment).flatMap
      (fun g => u8 (s.lists.station.countP fun e => e.segment == g)) ++
    u8 s.lists.storage.length ++ flag (s.active .stationFull) ++ flag (s.active .stationStall) ++
    flag (s.active .storageFull)

/-- READ_DRIVES (R81; that the time since a pause start is an optional field is log entry 20, the code of a task's phase
log entry 22). -/
def State.drivesReply (s : State) : List Byte :=
  let d := s.dru
  let channel := fun (d : DriveChannel) =>
    u8 d.state.code ++ flag d.endA.level ++ flag d.endB.level ++ opt 4 s.msSince d.strokeStart ++ u8 d.run ++
      u16 d.latest ++ u16 d.peak ++ u8 d.retry
  let task := fun (k : Option DoorTask) =>
    cabinField (k.bind DoorTask.cabin) ++ opt 1 u8 (k.map fun k => TaskPhase.code k.phase)
  let pause := d.closer.task.bind fun k =>
    match k.phase with
    | .pause x => some x
    | _ => none
  let home := fun (d : DriveChannel) => d.state == .atA
  channel d.opener ++ task d.opener.task ++ channel d.closer ++ task d.closer.task ++
    s.rdKept (d.closer.task.map DoorTask.reach) ++ opt 4 s.msSince pause ++ channel d.switch ++ channel d.release ++
    channel d.gate ++
    flag (home d.opener && home d.closer && (home d.switch || d.switch.state == .atB) && home d.release && home d.gate)

/-- READ_LAUNCH: window, last result, RD_L, candidate, the eleven conditions of Table 5-2, the launch in flight, host
hold and hold start (R101). -/
def State.launchReply (s : State) : List Byte :=
  let u := s.lnu
  let c := s.gateEntry.bind StationEntry.cabin
  cabinField (u.window.bind GripWindow.cabin) ++ s.rdKept (u.window.map GripWindow.openRd) ++
    opt 2 u16 (u.window.map GripWindow.peak) ++ opt 2 u16 (u.lastResult.map GripOutcome.force) ++
    opt 1 u8 (u.lastResult.map fun x => x.result.code) ++ s.rdKept u.rdL ++ cabinField c ++
    flag (s.ssv.mode == .run) ++ flag (s.ssv.demand == .none || s.ssv.demand == .warn) ++
    flag (s.rmu.direction == .forward) ++ flag (decide (s.pfs.working.launchVmin ≤ s.rmu.mw.speed)) ++ flag c.isSome ++
    flag (c.any fun c => (s.cab c).door == .locked) ++ flag (c.any fun c => (s.cab c).grip == .pass) ++
    flag (u.rdL.all fun x => decide ((s.pfs.working.spacing : Int) ≤ distance s.rmu.rd x)) ++
    flag (decide (s.lkc.chan.occupancy + s.lkc.chan.reservedBytes + 5 ≤ 128)) ++ flag (s.dru.gate.state == .atA) ++
    flag u.flight.isNone ++ cabinField (u.flight.map Flight.cabin) ++ opt 4 w32 (u.flight.map Flight.launchRd) ++
    opt 4 u32 (u.flight.map Flight.spacing) ++ opt 1 u8 (u.flight.map fun f => if f.left then 1 else 0) ++
    opt 1 flag (u.flight.map Flight.stuck) ++ flag u.hostHold ++ s.rdKept (u.hold.map HoldStart.rd) ++
    opt 1 flag (u.hold.map HoldStart.used)

/-- READ_LINE_TRACK (R118; the form of the suspensions is log entry 20, the code of the last outcome log entry 22). -/
def State.lineTrackReply (s : State) : List Byte :=
  let p := s.pfs.working
  let list := fun (l : List LineEntry) (n : Word16) =>
    u8 l.length ++ u16 n.toNat ++ cabinField (l.head?.map LineEntry.cabin) ++ s.rdKept (l.head?.map LineEntry.stamp)
  let locked := s.lkc.rx.sync == .locked
  let runs := locked && s.ltu.wait.isNone
  let reason := fun (b : Bool) => opt 1 flag (if runs then none else some b)
  list s.lists.upLine s.lists.upLineCount ++ list s.lists.summit s.lists.summitCount ++
    list s.lists.downLine s.lists.downLineCount ++ flag runs ++ reason (!locked) ++ reason s.ltu.wait.isSome ++
    cabinField s.ltu.overUp ++ cabinField s.ltu.overDown ++ i32 ((p.lineLen : Int) - p.arrTol) ++
    i32 ((p.lineLen : Int) + p.arrTol) ++ flag s.ltu.censusDue ++ opt 4 s.msSince (s.ltu.wait.map CensusWait.start) ++
    opt 1 u8 (s.ltu.wait.map fun w => if w.placed then 1 else 0) ++
    opt 1 u8 (s.ltu.lastEnd.map fun e =>
      match e.outcome with
      | .received => 0
      | .expired => 1
      | .abandoned => 2) ++ opt 4 w32 (s.ltu.lastEnd.map CensusEnd.ms)

/-- READ_LINK (R138; the form of the held control word is log entry 20). -/
def State.linkReply (s : State) : List Byte :=
  let r := s.lkc.rx
  let field := fun (f : Word16 → Nat) => opt 1 u8 (r.held.map f)
  let far : Option Word16 := if s.active .linkLost = true then none else r.held
  let stop := fun (w : Word16) => if ctlStop w = 3 then 2 else (ctlStop w).toNat
  u8 r.sync.code ++ opt 1 u8 (if r.sync = .confirm then some r.confirm else none) ++
    opt 1 u8 (r.expected.map BitVec.toNat) ++ u8 r.badRun ++ u32 r.badTotal ++ u16 r.relocks ++ opt 4 w32 r.outOfLock ++
    opt 4 s.msSince r.outOfLock ++ flag (s.active .linkLost) ++
    field (fun w => (ctlNumber w).toNat) ++ field (fun w => if ctlPermit w then 1 else 0) ++
    field (fun w => (ctlStop w).toNat) ++ field (fun w => if ctlPause w then 1 else 0) ++
    field (fun w => (ctlCodeA w).toNat) ++ field (fun w => (ctlCodeB w).toNat) ++ field (fun w => (ctlMode w).toNat) ++
    flag (far.any ctlPermit) ++ u8 ((far.map stop).getD 0) ++ flag (far.any ctlPause) ++
    u8 ((far.map fun w => (ctlCodeA w).toNat).getD 0) ++ u8 ((far.map fun w => (ctlCodeB w).toNat).getD 0) ++
    opt 1 u8 (far.map fun w => (ctlMode w).toNat) ++ u16 s.lkc.txCycle.control.toNat ++
    u8 (ctlNumber s.lkc.txCycle.control).toNat ++ flag (s.active .summitStopSvc) ++ flag (s.active .summitStopEmg) ++
    flag (s.active .summitNotReady)

/-- READ_TOWERS from a position on, 16 entries of 14 bytes at most (R139). -/
def State.towersReply (s : State) (start : Nat) : List Byte :=
  let t := s.lkc.towers
  u8 t.entries.length ++ u8 start ++ u16 t.outOfRange ++ u16 t.invalidState ++ flag (s.active .ropePosition) ++
    flag (s.active .ropeDerail) ++ flag (s.active .towerSilent) ++
    entriesFrom start 16 (t.entries.map fun e => u8 e.state.code ++ u16 e.age ++ u16 e.run ++
      opt 8 (fun x => w32 x ++ i32 (distance s.rmu.rd x)) e.changeRd)

/-- READ_RECORD_CHANNEL (R154; that the length of the oldest text is an optional field is log entry 20; a record's kind
is given by its code of Table 8-1, log entry 22). -/
def State.channelReply (s : State) : List Byte :=
  let r := s.lkc.chan
  let size := fun (x : TxRecord) => 1 + x.body.length
  let host := r.queue.filter fun x => x.origin == .host
  let active : Option (Progress × TxRecord) := r.progress.bind fun p =>
    (if p.fromPriority then r.priority else r.queue.head?).map fun x => (p, x)
  let paused := !s.active .linkLost && s.lkc.rx.held.any ctlPause
  u8 r.queue.length ++ u8 (r.queue.map size).sum ++ u8 (host.map size).sum ++ u8 (if r.reserved then 5 else 0) ++
    flag (decide ((r.queue.map size).sum + (if r.reserved then 5 else 0) + 5 ≤ 128)) ++
    opt 1 u8 (r.priority.map fun x => x.kind.code) ++ opt 1 u8 (r.priority.map size) ++
    flag (s.ltu.wait.any fun w => !w.placed) ++ opt 1 u8 (active.map fun x => x.2.kind.code) ++
    opt 1 u8 (active.map fun x => if x.1.fromPriority then 0 else 1) ++ opt 1 u8 (active.map fun x => x.1.sent) ++
    opt 1 u8 (active.map fun x => x.2.body.length + 2) ++ flag paused ++ flag r.ownPause ++
    u8 ((r.assembly.map fun a => a.bytes.length).getD 0 + (r.texts.map fun x => x.length + 2).sum) ++
    opt 1 u8 (r.assembly.map fun a => a.bytes.length) ++ opt 1 flag (r.assembly.map fun a => a.damaged || a.tooLong) ++
    u8 r.texts.length ++ opt 1 u8 (r.texts.head?.map List.length) ++ u16 r.sent ++ u16 r.received ++ u16 r.discarded ++
    u16 r.dropped

/-- READ_CALLS (R168). -/
def State.callsReply (s : State) : List Byte :=
  let far : Option Word16 := if s.active .linkLost = true then none else s.lkc.rx.held
  let one := fun (r : CallRecord) (code : Word16 → BitVec 3) =>
    u8 r.state.code ++ opt 1 u8 (r.origin.map fun o => if o = .outgoing then 0 else 1) ++
      u8 (match r.state with
        | .idle => 0
        | .seizing | .ringback => 1
        | .ringing => 2
        | .connected => 3
        | .clearing => 4) ++
      u8 r.farCode.code ++ u8 ((far.map code).getD 0).toNat ++ opt 1 u8 (r.timer.map fun t => t.kind.code) ++
      opt 4 s.msSince (r.timer.map CallTimer.start) ++ flag (r.state == .ringing) ++ u8 r.holdCount ++
      opt 1 u8 (r.last.map CallReason.code) ++ u16 r.undefined
  one s.phn.a ctlCodeA ++ one s.phn.b ctlCodeB ++ flag (s.active .linkLost)

/-- Mode, demand, RESTRICTED and the levels of the stop lines, as two reads begin with them (R183, R194). -/
def State.stopReply (s : State) : List Byte :=
  let l := s.ssv.lines
  u8 s.ssv.mode.code ++ u8 s.ssv.demand.code ++ flag s.ssv.restricted ++
    u8 ((if l.permit then 1 else 0) + (if l.sstop then 2 else 0) + if l.estop then 4 else 0)

/-- READ_CAUSES of all causes or of those standing, from a position on, 16 entries of 14 bytes at most (R183). -/
def State.causesReply (s : State) (standing : Bool) (start : Nat) : List Byte :=
  let l := Cause.all.filter fun c => !standing || (s.cause c).active || (s.cause c).latched
  s.stopReply ++ u8 l.length ++ u8 start ++ entriesFrom start 16 (l.map fun c =>
    let e := s.cause c
    u8 c.number ++ u8 c.category.code ++
      u8 ((if e.active then 1 else 0) + (if e.latched then 2 else 0) + if e.first.isSome then 4 else 0) ++ u8 e.count ++
      ((e.first.map fun f => w32 f.rd ++ w32 f.ms ++ u8 f.detail.code).getD (List.replicate 9 0)) ++ u8 e.last.code)

/-- READ_TALLY: the freeze, then the eight records of Table 11-1 without a count byte (R189; log entry 20). -/
def State.tallyReply (s : State) : List Byte :=
  flag s.tal.frozen ++ s.tal.counters.toList.flatMap fun k =>
    flag k.enable ++ u8 k.source.code ++ u8 k.threshold ++ flag k.invert ++ flag k.edge ++ flag k.notify ++
      flag k.member ++ flag k.trigger ++ w32 k.value ++ flag k.overflow ++ flag k.last

/-- READ_STATUS (R194). -/
def State.statusReply (s : State) : List Byte :=
  let fill := (s.lkc.chan.assembly.map fun a => a.bytes.length).getD 0 + (s.lkc.chan.texts.map fun x => x.length + 2).sum
  s.stopReply ++ u8 s.pfs.status.code ++ flag s.pfs.commit.isSome ++ u16 s.pfs.writes ++ u8 s.lkc.rx.sync.code ++
    flag (s.active .linkLost) ++ u16 s.rmu.mw.speed ++ u16 s.rmu.bw.speed ++ w32 s.rmu.rd ++ u8 s.rmu.direction.code ++
    i32 s.rmu.slip ++ opt 2 u16 s.carriageFields.2 ++ u8 s.lists.station.length ++ u8 s.lists.storage.length ++
    u8 s.lists.upLine.length ++ u8 s.lists.summit.length ++ u8 s.lists.downLine.length ++ u8 fill ++
    u16 s.spt.badFrames ++ u16 s.spt.dropRequest ++ u16 s.spt.dropNotice

/-! ### What a microsecond brings -/

/-- A command where a test holds. -/
def due (b : Bool) (c : Instr) : List Instr := if b then [c] else []

/-- At a sample of its raw level, the filtered level of an input changes: SENSOR_FILTER samples in a row differ from it
(R39, R64). -/
def Filter.changes (n : Nat) (raw : Bool) (f : Filter) : Bool := raw != f.level && decide (n ≤ f.count + 1)

/-- A filter after a sample, its change of level left to the command that stands for it: a differing sample counts, an
equal one and the last one start the count again (R39, R64). -/
def Filter.counted (n : Nat) (raw : Bool) (f : Filter) : Filter :=
  { f with count := if raw = f.level ∨ n ≤ f.count + 1 then 0 else f.count + 1 }

/-- The passage or trailing edge that a new filtered level of a station input is; LCK_OK, and the trailing edges of the
others, are none (R40, R41). -/
def StationInput.passage : StationInput → Bool → Option Instr
  | .arr, true => some .arrPassage
  | .opn, true => some .opnPassage
  | .cls, true => some .clsPassage
  | .lck, true => some .lckPassage
  | .grp, on => some (if on then .grpPassage else .grpTrailingEdge)
  | .gat, on => some (if on then .gatPassage else .gatTrailingEdge)
  | .att, true => some .attPassage
  | .sti, true => some .stiPassage
  | .stm, true => some .stmPassage
  | .arr, false | .opn, false | .cls, false | .lck, false | .att, false | .sti, false | .stm, false | .lckOk, _ => none

/-- A station input after a sample; a change that is no passage and no trailing edge is made at once (R39, R40). -/
def StationInput.sampled (n : Nat) (i : StationInput) (raw : Bool) (f : Filter) : Filter :=
  if f.changes n raw = true ∧ i.passage raw = none then { level := raw, count := 0 } else f.counted n raw

/-- The conversion of a scan phase, AN k at phase 71 × k (R32; the instants are log entry 6). -/
def State.scanBrings (s : State) (phase : Nat) : List Instr :=
  due (phase == 0) (.tensionSample s.pins.analog[0]) ++ due (phase == 71) (.gripSample s.pins.analog[1]) ++
    due (phase == 142) (.currentSample .opener s.pins.analog[2]) ++
    due (phase == 213) (.currentSample .closer s.pins.analog[3]) ++
    due (phase == 284) (.currentSample .switch s.pins.analog[4]) ++
    due (phase == 355) (.currentSample .release s.pins.analog[5]) ++
    due (phase == 426) (.currentSample .gate s.pins.analog[6])

/-- What encoders, reader and a silent line bring at a time of the capture timebase (R19, R20, R25, R48, R126): a stall
65,536 µs after a source's kept capture time, a rising MW_P, a change of one bullwheel input or of both, a rising
CID_STB, and a bad cycle on a line without transitions 125 µs after the boundary. -/
def State.inputsBring (s : State) (now : Word32) : List Instr :=
  let stalls := fun (x : Source) => x.kept.any fun k => decide (65536 ≤ (now - k).toNat)
  let a := s.pins.bwA != s.rmu.bwRefA
  let b := s.pins.bwB != s.rmu.bwRefB
  due (stalls s.rmu.mw) .measuringWheelStall ++ due (stalls s.rmu.bw) .bullwheelStall ++
    due (s.pins.mwP && !s.rmu.mwRef) .measuringWheelPulse ++
    due (a && b) .quadratureJump ++ due (a && !b) (.bullwheelCount .bwA) ++ due (!a && b) (.bullwheelCount .bwB) ++
    due (s.pins.cidStb && !s.stu.strobe) (.readerStrobe s.pins.cid) ++
    due (s.lkc.rx.sync == .locked && s.pins.lineSilent && decide (125 ≤ (now - s.lkc.rx.boundary).toNat))
      (.badCycle (List.replicate (128 - s.lkc.rx.bits.length) ⟨false, true⟩))

/-- What the sampled inputs bring at a millisecond: the passages and edges of the station inputs in the order of R39,
then the end changes of the channels (R39, R40, R64). -/
def State.samplesBring (s : State) : List Instr :=
  let n := s.pfs.working.sensorFilter
  ([.arr, .opn, .cls, .lck, .grp, .gat, .att, .sti, .stm, .lckOk] : List StationInput).filterMap (fun i =>
      if (s.stu.inputs.get i).changes n (s.pins.station.get i) then i.passage (s.pins.station.get i) else none) ++
    ([.opener, .closer, .switch, .release, .gate] : List Channel).flatMap fun ch =>
      let d := s.dru.get ch
      let raw := s.pins.ends.get ch
      due (d.endA.changes n raw.a) (.endInputChange ch .a raw.a) ++
        due (d.endB.changes n raw.b) (.endInputChange ch .b raw.b)

/-- What the timers bring at a millisecond: stroke, retry pause, call, link loss, census and deadline timers that have
run out, and the tally sample in each hundredth (R68, R76, R115, R129, R161, R178, R187). -/
def State.timersBring (s : State) (ms : Word32) : List Instr :=
  let p := s.pfs.working
  let elapsed := fun (n : Nat) (x : Word32) => decide (n ≤ (ms - x).toNat)
  ([.opener, .closer, .switch, .release, .gate] : List Channel).flatMap (fun ch =>
      let d := s.dru.get ch
      due ((d.state == .toA || d.state == .toB) && d.strokeStart.any (elapsed (p.strokeTime.get ch))) (.strokeTimeout ch)) ++
    due (s.dru.closer.task.any fun k =>
      match k.phase with
      | .pause x => elapsed p.retryPause x
      | _ => false) .retryPauseExpiry ++
    ([.a, .b] : List CallChannel).flatMap (fun ch =>
      let ends := fun (k : TimerKind) (n : Nat) => (s.call ch).timer.any fun x => x.kind == k && elapsed n x.start
      due (ends .seize 500) (.seizeTimeExpiry ch) ++ due (ends .ring (p.ringTime * 1000)) (.ringTimeExpiry ch) ++
        due (ends .guard 100) (.clearGuardExpiry ch)) ++
    due (!s.active .linkLost && s.lkc.rx.outOfLock.any (elapsed p.linkLossMs)) .linkLossExpiry ++
    due (s.ltu.wait.any fun w => elapsed p.censusWait w.start) .censusWaitExpiry ++
    due (s.ssv.deadline.any fun d => elapsed (if d.entry then 2000 else p.hkPeriod) d.ref) .hostDeadlineMissed ++
    due (ms.toNat % 100 == 0) .tallySample

/-- What the transmitter brings, the frame on SP_TX being one microsecond further: the reset behind RESET_PART's reply,
or the next frame where one can begin (R193, R195). -/
def State.portBrings (s : State) (tx : Option TxFrame) : List Instr :=
  let ended := tx.all fun f => f.remaining == 0
  let resets := tx.any TxFrame.resets
  let ready := s.spt.replies.any fun x =>
    match x with
    | .ready _ => true
    | .held _ => false
  due (ended && resets) .hostResetEntry ++ due (ended && !resets && (ready || !s.spt.notices.isEmpty)) .frameTransmit

/-! ### What every step keeps -/

/-- SLIP is that of the standing speeds, and there is a start of slip exactly while it is beyond SLIP_LIMIT; the
condition is active only then, and once SLIP_HOLD_MM have run since the start (a start just taken has run nothing).
Before the profile has been loaded the bullwheel is at rest (R28, R29, R36). -/
def State.slipJudged (s : State) : Prop :=
  let p := s.pfs.working
  s.rmu.slip = slipAt p s.rmu.bw.speed s.rmu.mw.speed ∧
    s.rmu.slipStart.isSome = decide (p.slipLimit < s.rmu.slip.natAbs) ∧
    (s.active .slip = true → p.slipLimit < s.rmu.slip.natAbs) ∧
    (∀ x, s.rmu.slipStart = some x → s.active .slip = false →
      x = s.rmu.rd ∨ distance s.rmu.rd x < (p.slipHoldMm : Int)) ∧
    (s.loaded = false → s.rmu.bw.speed = 0)

/-- Once the profile has been loaded there is an out-of-lock start exactly while the receiver is not LOCKED. LINK_LOST is
active only while there is one, and then both call channels are IDLE (R129, R162). -/
def State.lossKept (s : State) : Prop :=
  s.lkc.rx.outOfLock.isSome = (s.loaded && s.lkc.rx.sync != .locked) ∧
    (s.active .linkLost = true →
      s.lkc.rx.outOfLock.isSome = true ∧ ∀ ch, (s.call ch).state = .idle)

/-- The kind of the call timer that a state has; none in IDLE and CONNECTED (R161). -/
def CallState.timerKind : CallState → Option TimerKind
  | .idle | .connected => none
  | .seizing => some .seize
  | .ringback | .ringing => some .ring
  | .clearing => some .guard

/-- Each call channel has the timer of its state, an origin exactly outside IDLE, a hold count of at most 4, and outside
CONNECTED a silent voice path (Table 9-3, R161, R166). -/
def State.callsKept (s : State) : Prop :=
  ∀ ch : CallChannel,
    let r := s.call ch
    r.timer.map CallTimer.kind = r.state.timerKind ∧ r.origin.isNone = (r.state == .idle) ∧ r.holdCount ≤ 4 ∧
      (r.state ≠ .connected → r.held = 0 ∧ r.output = 0 ∧ r.holdCount = 0)

/-- The receiver is within its counts: 1..3 sound cycles in CONFIRM, a bad run below 16 in LOCKED, and none elsewhere;
an expected number exactly in LOCKED; less than a cycle's bits held; HUNT before the profile has been loaded (R124 to
R127, R140). -/
def State.receiverKept (s : State) : Prop :=
  let r := s.lkc.rx
  r.badRun < 16 ∧ (r.sync ≠ .locked → r.badRun = 0) ∧
    (r.sync = .confirm → 1 ≤ r.confirm ∧ r.confirm ≤ 3) ∧ (r.sync ≠ .confirm → r.confirm = 0) ∧
    r.expected.isSome = (r.sync == .locked) ∧ r.bits.length < 128 ∧ (s.loaded = false → r.sync = .hunt)

/-- The profile stands loaded exactly in SERVICE and RUN, where the host is supervised. There HOST_SILENT is active
while the deadline is missed, and inactive under the allowance of the entry into SERVICE, before any KEEPALIVE; a later
reference is the last KEEPALIVE. Elsewhere there is no deadline, no KEEPALIVE and no HOST_SILENT (R178, R180). -/
def State.supervisionKept (s : State) : Prop :=
  s.loaded = (s.ssv.mode == .service || s.ssv.mode == .run) ∧
    (s.ssv.deadline = none →
      if s.loaded = true then s.active .hostSilent = true else s.ssv.lastKeep = none ∧ s.active .hostSilent = false) ∧
    ∀ d, s.ssv.deadline = some d → s.loaded = true ∧
      if d.entry = true then s.ssv.lastKeep = none ∧ s.active .hostSilent = false else s.ssv.lastKeep = some d.ref

/-- A host stop is active exactly while it is latched: from its request to its acknowledgement (R174). -/
def State.hostStopsKept (s : State) : Prop :=
  s.active .hostStopSvc = (s.cause .hostStopSvc).latched ∧ s.active .hostStopEmg = (s.cause .hostStopEmg).latched

/-- The bytes that records occupy in the transmit queue: one more than the body of each (R144). -/
def heldSize (l : List TxRecord) : Nat := (l.map fun x => 1 + x.body.length).sum

/-- The record channel is within its bounds: 128 bytes in the transmit queue, a reservation of 5 counted, 96 of the
host's; a reservation stands exactly with a launch in flight; and 50 bytes in assembly, of which there is one at least
unless the record is damaged (R93, R144, R149). -/
def State.channelBounded (s : State) : Prop :=
  let r := s.lkc.chan
  r.reserved = s.lnu.flight.isSome ∧ heldSize r.queue + (if r.reserved = true then 5 else 0) ≤ 128 ∧
    heldSize (r.queue.filter fun x => x.origin == .host) ≤ 96 ∧
    ∀ a, r.assembly = some a → a.bytes.length ≤ 50 ∧ (a.bytes = [] → a.damaged = true)

/-- The route that the head of the down-line list asks for: STORE for a cabin with its retire flag, and for one that is
due under AUTO_STORE; LINE for every other, and without a head (R52). -/
def State.headRoute (s : State) : Route :=
  match s.lists.downLine with
  | [] => .line
  | x :: _ =>
    if (s.cab x.cabin).retire = true ∨ ((s.cab x.cabin).due = true ∧ s.pfs.working.autoStore = 1) then .store else .line

/-- The wanted route is that of the down-line head in RUN; outside RUN there is none, and no throw is pending (R52,
R107). -/
def State.routeKept (s : State) : Prop :=
  (s.ssv.mode = .run → s.stu.wanted = some s.headRoute) ∧
    (s.ssv.mode ≠ .run → s.stu.wanted = none ∧ s.stu.throwPending = false)

/-- The conditions that every step keeps, together. -/
structure State.Kept (s : State) : Prop where
  stops       : s.stopsFollow
  unlatched   : s.holdsUnlatched
  queues      : s.queuesBounded
  station     : s.stationBounded
  store       : s.storeBounded
  rope        : s.ropeBounded
  places      : s.placed
  entries     : s.entriesApart
  overdue     : s.overdueKept
  found       : s.overdueFound
  release     : s.releaseKept
  hold        : s.holdKept
  latched     : s.activesLatched
  conditions  : s.conditionsKept
  measured    : s.measuredKept
  slip        : s.slipJudged
  loss        : s.lossKept
  calls       : s.callsKept
  receiver    : s.receiverKept
  supervision : s.supervisionKept
  hostStops   : s.hostStopsKept
  channel     : s.channelBounded
  route       : s.routeKept

/-! ### Requests by their parts -/

/-- A host request as a command brings it: its KIND, its TAG and its body; absent for every other command. -/
def requestParts : Instr → Option (Byte × Byte × List Byte)
  | .registerCabin tag body => some (0x01, tag, body)
  | .unregisterCabin tag body => some (0x02, tag, body)
  | .readCabin tag body => some (0x03, tag, body)
  | .readList tag body => some (0x04, tag, body)
  | .withdrawCabin tag body => some (0x05, tag, body)
  | .reinstateCabin tag body => some (0x06, tag, body)
  | .retireCabin tag body => some (0x07, tag, body)
  | .cabinServiced tag body => some (0x08, tag, body)
  | .readRope tag body => some (0x09, tag, body)
  | .bindEntry tag body => some (0x0A, tag, body)
  | .setSwitch tag body => some (0x0B, tag, body)
  | .releaseFromStorage tag body => some (0x0C, tag, body)
  | .readTrack tag body => some (0x0D, tag, body)
  | .driveTest tag body => some (0x0E, tag, body)
  | .readDrives tag body => some (0x0F, tag, body)
  | .holdLaunches tag body => some (0x10, tag, body)
  | .resumeLaunches tag body => some (0x11, tag, body)
  | .readLaunch tag body => some (0x12, tag, body)
  | .declareLost tag body => some (0x13, tag, body)
  | .readLineTrack tag body => some (0x14, tag, body)
  | .readLink tag body => some (0x15, tag, body)
  | .readTowers tag body => some (0x16, tag, body)
  | .sendLineText tag body => some (0x17, tag, body)
  | .sendPriorityText tag body => some (0x18, tag, body)
  | .readLineText tag body => some (0x19, tag, body)
  | .readRecordChannel tag body => some (0x1A, tag, body)
  | .placeCall tag body => some (0x1B, tag, body)
  | .answerCall tag body => some (0x1C, tag, body)
  | .endCall tag body => some (0x1D, tag, body)
  | .readCalls tag body => some (0x1E, tag, body)
  | .ackCause tag body => some (0x1F, tag, body)
  | .ackAll tag body => some (0x20, tag, body)
  | .hostStop tag body => some (0x21, tag, body)
  | .liftRestriction tag body => some (0x22, tag, body)
  | .keepalive tag body => some (0x23, tag, body)
  | .setMode tag body => some (0x24, tag, body)
  | .readCauses tag body => some (0x25, tag, body)
  | .setTally tag body => some (0x26, tag, body)
  | .writeTally tag body => some (0x27, tag, body)
  | .readTally tag body => some (0x28, tag, body)
  | .clearOverflow tag body => some (0x29, tag, body)
  | .freezeTally tag body => some (0x2A, tag, body)
  | .unfreezeTally tag body => some (0x2B, tag, body)
  | .identify tag body => some (0x2C, tag, body)
  | .readStatus tag body => some (0x2D, tag, body)
  | .resetPart tag body => some (0x2E, tag, body)
  | .readParam tag body => some (0x2F, tag, body)
  | .writeParam tag body => some (0x30, tag, body)
  | .commitProfile tag body => some (0x31, tag, body)
  | .restoreDefaults tag body => some (0x32, tag, body)
  | _ => none

/-- A complete frame as a command brings it, its KIND, TAG and body: the command of the request, or UNKNOWN_KIND, which
the port takes by its KIND like every frame (R192). -/
def takenParts : Instr → Option (Byte × Byte × List Byte)
  | .unknownKind kind tag body => some (kind, tag, body)
  | c => requestParts c

/-- The next step takes a request of a KIND with a body. -/
def State.takes (s : State) (kind : Byte) (body : List Byte) : Prop :=
  ∃ c tag rest, s.pending = c :: rest ∧ takenParts c = some (kind, tag, body)

/-! ### What one event does -/

/-- A command is one event at most: no BAD_FRAME, which may bring several frames, and no bits of LINE_RX for a second
cycle beside those that are held. -/
def State.singleEvent (s : State) : Instr → Prop
  | .badFrame _ => False
  | .syncCandidate bits | .confirmCycle bits | .goodCycle bits | .badCycle bits =>
    s.lkc.rx.bits.length + bits.length < 256
  | _ => True

/-- A change count after an event: one more, modulo 2^16, where the list has changed, and as it was where it has not
(R8). -/
def countFollows {α : Type} [DecidableEq α] (old new : List α) (before now : Word16) : Prop :=
  now = if new = old then before else before + 1

/-- The change counts of the five lists after an event (R8). -/
def countsFollow (s t : State) : Prop :=
  let x := s.lists
  let y := t.lists
  countFollows x.station y.station x.stationCount y.stationCount ∧
    countFollows x.storage y.storage x.storageCount y.storageCount ∧
    countFollows x.upLine y.upLine x.upLineCount y.upLineCount ∧
    countFollows x.summit y.summit x.summitCount y.summitCount ∧
    countFollows x.downLine y.downLine x.downLineCount y.downLineCount

/-- The head of the down-line list, with its retire flag. -/
def State.downHead (s : State) : Option (Cabin × Bool) :=
  s.lists.downLine.head?.map fun x => (x.cabin, (s.cab x.cabin).retire)

/-- The events of R52 that compute the wanted route, in a step that ends in RUN: an ARR passage, a change of the
down-line head or of its retire flag, and the entry into RUN. (AUTO_STORE is written in SERVICE alone, R197.) -/
def routeComputed (s t : State) : Prop :=
  t.ssv.mode = .run ∧
    (s.ssv.mode ≠ .run ∨ t.downHead ≠ s.downHead ∨ s.loaded = true ∧ ∃ rest, s.pending = .arrPassage :: rest)

/-- A channel drives toward an end where it did not before. -/
def strokeBegun (ch : Channel) (e : End) (s t : State) : Prop :=
  (t.dru.get ch).state = toEnd e ∧ (s.dru.get ch).state ≠ toEnd e

/-- The body of a DRIVE_TEST: the code of the channel, then that of the end (R80, R202, Table 13-1). -/
def testBody (ch : Channel) (e : End) : List Byte :=
  let code : Channel → Byte
    | .opener => 1
    | .closer => 2
    | .switch => 3
    | .release => 4
    | .gate => 5
  [code ch, if e = .a then 0 else 1]

/-- A launch has been decided at an event that ends in `t` (R94): the part is in RUN, the rope runs forward at
LAUNCH_VMIN or more, RD_L is the standing RD, the reservation is held, a launch is in flight that was not before, of
phase OPENING, with that launch RD, of a cabin whose door is LOCKED and whose grip result is PASS, and the GATE is on
the stroke toward END_B that was started there. -/
def launchDecided (s t : State) : Prop :=
  t.ssv.mode = .run ∧ t.rmu.direction = .forward ∧ t.pfs.working.launchVmin ≤ t.rmu.mw.speed ∧
    t.lnu.rdL = some t.rmu.rd ∧ t.lkc.chan.reserved = true ∧
    (∃ f, t.lnu.flight = some f ∧ s.lnu.flight ≠ some f ∧ f.launchRd = t.rmu.rd ∧ f.left = false ∧
      (t.cab f.cabin).door = .locked ∧ (t.cab f.cabin).grip = .pass) ∧
    t.dru.gate.state = .toB ∧ t.dru.gate.strokeStart = some s.clock.ms ∧ t.dru.gate.run = 0 ∧ t.dru.gate.peak = 0

end Sys2Proof.Machine
end

