-- ==== Sys2Proof/Certificates/Slice0/Obligations.lean ====
section
/-! DEFINITION. The statements for the provers: what the rules of the manual say a command does, where it completes and
what it leaves alone, and the conditions that every step keeps. -/

open Sys2Proof Sys2Proof.Machine

/-! ### The step, time and reset -/

/-- A step takes the command at the front of the queue: it is that command on the state with the queue's rest. -/
def Obligations.StepTakesFrontCommand : Prop :=
  ∀ (c : Instr) (rest : List Instr) (s : State),
    step { s with pending := c :: rest } = exec c { s with pending := rest }

/-- With no command waiting, a step out of reset is one microsecond of both clocks; in mode OFF nothing happens. Once
the profile has been loaded, MW_P's reference falls with it, the strobe is kept, and in each millisecond the station
inputs and the ends of the channels are filtered: SENSOR_FILTER differing samples in a row are a change. A change with a
command is left to it, and one of LCK_OK or a bare trailing edge is made at once. The queue then holds, in this order,
exactly the voice frames and the own cycle of a new line cycle, the scan's conversion, what encoders, reader and a
silent line bring, in a millisecond the passages and edges, the end changes, the timers that have run out and each
hundredth the tally sample, and the frame to send or the reset. That such a step is a microsecond, the order, and the
instants of scan and cycles are the model's choices (log entry 6; the silent line is log entry 21). -/
def Obligations.IdleStepIsOneMicrosecond : Prop :=
  ∀ s : State, s.pending = [] →
    (s.ssv.mode = .off → step s = .next s) ∧
    (s.ssv.mode ≠ .off → ∃ t, step s = .next t ∧
      (let n := s.pfs.working.sensorFilter
       let milli := s.loaded = true ∧ t.clock.micro = 0
       t.clock = { timebase := s.clock.timebase + 1
                   micro := (s.clock.micro + 1) % 1000
                   ms := if s.clock.micro = 999 then s.clock.ms + 1 else s.clock.ms
                   cyclePhase := (s.clock.cyclePhase + 1) % 125
                   scanPhase := (s.clock.scanPhase + 1) % 500 } ∧
       t.rmu = { s.rmu with mwRef := s.rmu.mwRef && (s.pins.mwP || !s.loaded) } ∧
       t.stu = { s.stu with
         inputs := t.stu.inputs
         strobe := if s.loaded then s.pins.cidStb else s.stu.strobe } ∧
       (∀ i : StationInput, t.stu.inputs.get i = if milli then
           i.sampled n (s.pins.station.get i) (s.stu.inputs.get i) else s.stu.inputs.get i) ∧
       (∀ ch, t.dru.get ch = if milli then { s.dru.get ch with
           endA := (s.dru.get ch).endA.counted n (s.pins.ends.get ch).a
           endB := (s.dru.get ch).endB.counted n (s.pins.ends.get ch).b } else s.dru.get ch) ∧
       t.spt = { s.spt with tx := s.spt.tx.map fun f => { f with remaining := f.remaining - 72 } } ∧
       t.pending =
         (if s.clock.cyclePhase = 0 then
            [.voicePortFrame .a s.pins.vp1, .voicePortFrame .b s.pins.vp2, .lineCycleTransmit] else []) ++
           s.scanBrings s.clock.scanPhase ++ (if s.loaded then s.inputsBring t.clock.timebase else []) ++
           (if milli then s.samplesBring ++ s.timersBring t.clock.ms else []) ++ s.portBrings t.spt.tx) ∧
      sameBut [.clock, .rope, .track, .doors, .release, .switch, .gate, .port, .pending] s t)

/-- The state after a power-on reset holds the values that the manual gives for the end of a reset: the rope at rest at
0, nothing held, no cabin placed, every cause clear, mode START with SSTOP asserted, and every counter off. -/
def Obligations.ResetHoldsTheManualsValues : Prop :=
  let s := State.reset
  (s.rmu.rd = 0 ∧ s.rmu.rem = 0 ∧ s.rmu.direction = .forward ∧ s.rmu.mw = ⟨[], none, 0, false⟩ ∧
    s.rmu.bw = ⟨[], none, 0, false⟩ ∧ s.rmu.slip = 0 ∧ s.rmu.slipStart = none ∧ s.rmu.jumps = 0 ∧ s.rmu.tension = [] ∧
    (∀ k : Fin 7, s.asc[k] = 0) ∧ s.atRest = true) ∧
  (s.lists = ⟨[], [], [], [], [], 0, 0, 0, 0, 0⟩ ∧ s.stu.latch = none ∧ s.stu.lastArr = none ∧ s.stu.release = none ∧
    s.stu.wanted = none ∧ s.stu.throwPending = false) ∧
  (∀ ch : Channel, (s.dru.get ch).state = .unknown ∧ s.pwmOut ch = 0) ∧
  (s.lnu.window = none ∧ s.lnu.lastResult = none ∧ s.lnu.rdL = none ∧ s.lnu.flight = none ∧
    s.lkc.chan.reserved = false ∧ s.lnu.hostHold = false ∧ s.lnu.hold = none) ∧
  (s.ltu.overUp = none ∧ s.ltu.overDown = none ∧ s.ltu.censusDue = true ∧ s.ltu.wait = none ∧ s.ltu.lastEnd = none) ∧
  (s.lkc.ownNext = 0 ∧ s.lkc.rx.sync = .hunt ∧ s.lkc.rx.held = none ∧ s.lkc.chan.queue = [] ∧
    s.lkc.chan.priority = none ∧ s.lkc.chan.texts = [] ∧ s.lkc.chan.ownPause = false) ∧
  (∀ ch : CallChannel, (s.call ch).state = .idle ∧ (s.call ch).origin = none ∧ (s.call ch).timer = none ∧
    (s.call ch).farCode = .idle ∧ (s.call ch).ring = false ∧ (s.call ch).held = 0 ∧ (s.call ch).holdCount = 0 ∧
    (s.call ch).output = 0 ∧ (s.call ch).last = none ∧ (s.call ch).undefined = 0) ∧
  (∀ c : Cause, s.cause c = ⟨false, false, 0, none, .absent⟩) ∧
  (s.ssv.demand = .none ∧ s.ssv.mode = .start ∧ s.ssv.lines = ⟨false, true, false⟩ ∧ s.ssv.restricted = false ∧
    s.ssv.lastKeep = none ∧ s.ssv.deadline = none) ∧
  (∀ k : CounterIx, s.counter k = ⟨false, .launch, 0, false, false, false, false, false, 0, false, false⟩) ∧
  s.tal.frozen = false ∧ s.spt.rx = .hunting ∧ s.spt.replies = [] ∧ s.spt.notices = []

/-- Each command that begins a reset holds the part in it: mode OFF, the stop lines as in mode OFF, every cause clear,
every block at its reset values; RESTRICTED is kept by a pin reset and by RESET_PART's and cleared by a power-on. A
POWER_ON with the supply up already is taken as one after a dip of it (the model's choice, log entry 5). The loss of the
supply holds the part so without supply, with the stop lines of mode OFF (deduced, log entry 30). The write count is
kept, and the stored copy is kept unless a commit is cut off: then its check fails at the next start. (What the blocks
hold before the profile load where the manual gives no value is the model's choice, log entries 4, 11 and 21, and that
the notice of the change into OFF is lost with the emptied queues is deduced, log entry 19.) -/
def Obligations.ResetEntryHoldsThePart : Prop :=
  (∀ (s : State) (c : Instr) (why : ResetCause),
     (c = .powerOn ∧ why = .powerOn ∨
       c = .resetnAsserted ∧ why = .pin ∧ s.supply = true ∧ ¬(s.ssv.mode = .off ∧ s.resetCause = .powerOn) ∨
       c = .hostResetEntry ∧ why = .hostRequest ∧
         (∃ f, s.spt.tx = some f ∧ f.resets = true ∧ f.remaining = 0)) →
     ∃ t, exec c s = .next t ∧ t.resetCause = why ∧ t.supply = true ∧ t.loaded = false ∧ t.ssv.mode = .off ∧
       t.ssv.lines = ⟨false, true, true⟩ ∧ t.ssv.demand = .none ∧ (∀ x : Cause, t.cause x = CauseEntry.clear) ∧
       t.ssv.restricted = (if c = .powerOn then false else s.ssv.restricted) ∧
       t.rmu = State.reset.rmu ∧ t.asc = State.reset.asc ∧ t.cabins = State.reset.cabins ∧
       t.lists = State.reset.lists ∧ t.stu = State.reset.stu ∧ t.dru = State.reset.dru ∧ t.lnu = State.reset.lnu ∧
       t.ltu = State.reset.ltu ∧ t.lkc = State.reset.lkc ∧ t.phn = State.reset.phn ∧ t.tal = State.reset.tal ∧
       t.spt = State.reset.spt ∧ t.pins = s.pins ∧ t.pending = s.pending ∧ t.pfs.writes = s.pfs.writes ∧
       t.pfs.commit = none ∧ (s.pfs.commit = none → t.pfs = s.pfs) ∧
       (s.pfs.commit.isSome → t.pfs.stored.checkGood = false)) ∧
  (∀ s : State, s.supply = true →
     ∃ t, exec .supplyLoss s = .next t ∧ t.supply = false ∧ t.ssv.mode = .off ∧ t.ssv.lines = ⟨false, true, true⟩ ∧
       t.loaded = false ∧ t.pfs.writes = s.pfs.writes ∧ t.pfs.commit = none ∧ (s.pfs.commit = none → t.pfs = s.pfs) ∧
       (s.pfs.commit.isSome → t.pfs.stored.checkGood = false) ∧ t.pins = s.pins ∧ t.pending = s.pending)

/-- At the end of a reset the mode is START with PERMIT withdrawn, SSTOP asserted and ESTOP as the demand says, and a
power-on with PROFILE_RESTORE held takes that reset cause. (That MODE_CHANGED for this change of mode joins the notices
at END_OF_RESET, after R195's empty queues, is the model's deduction from R180 and R195, log entry 19.) The loading of
the profile then takes the stored copy when its check is good, the defaults at a PROFILE_RESTORE start or when it is
not, with the status of each case; a PROFILE_RESTORE start commits at once. The registered cabins come up UNPLACED with
their stored launch counts, which are those of the working profile too, and the due flag recomputed. The station inputs
and the ends take their raw levels; END_A alone gives a channel AT_A, END_B alone AT_B, neither UNKNOWN and both FAULT,
which raises DRIVE_FAULT (the order of several is log entry 43). The part enters SERVICE with the one STARTED notice,
which carries reset cause, status and write count, and MODE_CHANGED directly behind it, and supervision begins. -/
def Obligations.StartLoadsTheProfileAndEntersService : Prop :=
  (∀ s : State, s.supply = true → s.ssv.mode = .off →
     ∃ t, exec .endOfReset s = .next t ∧ t.ssv.mode = .start ∧
       t.ssv.lines = ⟨false, true, s.ssv.demand == .emergency⟩ ∧
       t.resetCause =
         (if s.resetCause = .powerOn ∧ s.pins.profileRestore = true then .profileRestore else s.resetCause) ∧
       t.ssv.restricted = s.ssv.restricted ∧ t.ssv.causes = s.ssv.causes ∧ t.ssv.demand = s.ssv.demand ∧
       t.ssv.lastKeep = s.ssv.lastKeep ∧ t.ssv.deadline = s.ssv.deadline ∧ t.loaded = s.loaded ∧
       (s.spt.notices.length < 16 → t.spt.notices = s.spt.notices ++
         [⟨s.clock.ms, .modeChanged .start s.ssv.restricted t.ssv.lines⟩]) ∧
       sameBut [.power, .mode, .causes, .notices] s t) ∧
  (∀ s : State, s.ssv.mode = .start → s.loaded = false →
     ∃ (t : State) (p : Profile) (st : ProfileStatus), exec .profileLoad s = .next t ∧
       (if s.resetCause = .profileRestore then p = Profile.default ∧ st = .modified
        else if s.pfs.stored.checkGood = true then p = s.pfs.stored.contents ∧ st = .valid
        else p = Profile.default ∧ st = .invalid) ∧
       t.loaded = true ∧ t.ssv.mode = .service ∧ t.pfs.working = p.params ∧ t.pfs.counts = p.regs ∧
       t.pfs.status = st ∧ t.pfs.stored = s.pfs.stored ∧
       (t.spt.notices.length < 16 → ∃ lines ahead behind, t.spt.notices = s.spt.notices ++ ahead ++
         [⟨s.clock.ms, .started s.resetCause st t.pfs.writes⟩,
           ⟨s.clock.ms, .modeChanged .service s.ssv.restricted lines⟩] ++ behind) ∧
       sends (Notice.ofKind 0xC0) [.started s.resetCause st t.pfs.writes] s t ∧
       (if s.resetCause = .profileRestore then
          t.pfs.writes = satInc 65535 s.pfs.writes ∧ ∃ k, t.pfs.commit = some { contents := k, tag := none } ∧
            k.params = Params.default
        else t.pfs.writes = s.pfs.writes ∧ t.pfs.commit = s.pfs.commit) ∧
       (∀ c : Cabin, (t.cab c).location = .unplaced ∧ (t.cab c).registered = (p.regs[c]).isSome ∧
         (t.cab c).launches = (p.regs[c]).getD 0 ∧ (t.cab c).door = .unknown ∧ (t.cab c).grip = .none ∧
         (t.cab c).retire = false ∧ (t.cab c).force = 0 ∧ (t.cab c).due = (p.regs[c]).any fun n =>
           p.params.serviceLaunches != 0 && decide (p.params.serviceLaunches ≤ n)) ∧
       (let both := fun (ch : Channel) => (s.pins.ends.get ch).a && (s.pins.ends.get ch).b
        (∀ ch, t.dru.get ch = { s.dru.get ch with
          endA := { level := (s.pins.ends.get ch).a, count := 0 }
          endB := { level := (s.pins.ends.get ch).b, count := 0 }
          state := if both ch then .fault else if (s.pins.ends.get ch).a then .atA
            else if (s.pins.ends.get ch).b then .atB else .unknown }) ∧
        (∀ ch, both ch = true → (t.cause .driveFault).latched = true ∧
          ∃ k, both k = true ∧ (t.cause .driveFault).last = .channel k) ∧
        ((∀ ch, both ch = false) → t.cause .driveFault = s.cause .driveFault)) ∧
       (∀ i : StationInput, t.stu.inputs.get i = { level := s.pins.station.get i, count := 0 }) ∧
       t.stu = { s.stu with
         inputs := t.stu.inputs
         strobe := s.pins.cidStb
         wanted := none
         throwPending := false } ∧
       t.rmu = { s.rmu with mwRef := s.pins.mwP, bwRefA := s.pins.bwA, bwRefB := s.pins.bwB } ∧
       t.lkc.towers.entries = List.replicate p.params.towerCount ⟨.unknown, 0, 0, none⟩ ∧
       t.lkc.rx.outOfLock = some s.clock.ms ∧
       t.ssv.deadline = some { ref := s.clock.ms, entry := true } ∧ t.ssv.restricted = s.ssv.restricted ∧
       t.ssv.lastKeep = s.ssv.lastKeep ∧ t.clock = s.clock ∧ t.pins = s.pins ∧ t.phn = s.phn ∧ t.tal = s.tal ∧
       t.spt.replies = s.spt.replies ∧ t.pending = s.pending)

/-! ### Rope measurement and the analog scan (chapter 2) -/

/-- A measuring-wheel pulse moves the micrometre position by MW_STEP_UM in the direction of DIRECTION, modulo
4,294,967,296,000, in whole millimetres and a remainder below 1000. Where it changes RD the checks of the distances are
made: an overdue record stays, and without one a head whose distance is greater than LINE_LEN + ARR_TOL takes it, for
the up-line only while the link is LOCKED and no census wait is present, with OVERDUE_UP or OVERDUE_DOWN active; the
grip window closes at GRIP_WINDOW_MAX, with force, result, causes and GRIP_FAIL in the tally, and the TALLY_OVERFLOW of
each counter that wraps at it with notify on; a hold of LAUNCH_WAIT raises DOOR_NOT_LOCKED_STOP once (judged from the
hold start that stood before the pulse: the model's choice, log entry 35); a launch in phase OPENING beyond GATE_LEAVE
raises LAUNCH_STUCK once; a release waiting beyond RELEASE_WAIT raises RELEASE_STUCK and ends, its channel commanded
toward END_A; with the clearance at the new RD the SWITCH is commanded toward the wanted end by its state, and without
it, or in FAULT or in UNKNOWN toward STORE, the throw is pending; a channel found BLOCKED at the end asked sends
DRIVE_EVENT. STATION_STALL is active exactly while an entry is beyond its SEG_LIMIT. Where RD does not change, only the
rope measurement does, and what any event may bring. -/
def Obligations.PulseMovesThePositionAndMakesItsChecks : Prop :=
  ∀ s : State, s.loaded = true → s.rmu.rem < 1000 →
    ∃ t, exec .measuringWheelPulse s = .next t ∧ t.rmu.rem < 1000 ∧
      (s.rmu.direction = .forward →
        t.position = (s.position + s.pfs.working.mwStepUm) % 4294967296000) ∧
      (s.rmu.direction = .reverse →
        (t.position + s.pfs.working.mwStepUm) % 4294967296000 = s.position) ∧
      (t.rmu.rd ≠ s.rmu.rd →
        overdueChecked s t ∧
        windowChecked s t ∧ holdChecked s t ∧ flightChecked s t ∧ releaseChecked s t ∧ throwChecked s t) ∧
      (t.rmu.rd = s.rmu.rd → holdFollows false s t ∧ tallied [] s t ∧ sameBut (.rope :: Block.settled) s t) ∧
      stallFollows s t ∧
      t.lists.upLine = s.lists.upLine ∧ t.lists.downLine = s.lists.downLine ∧ t.lists.summit = s.lists.summit ∧
      t.lists.storage = s.lists.storage ∧
      t.rmu.direction = s.rmu.direction ∧ t.rmu.bw = s.rmu.bw ∧ t.rmu.jumps = s.rmu.jumps ∧
      t.rmu.bwRefA = s.rmu.bwRefA ∧ t.rmu.bwRefB = s.rmu.bwRefB ∧ t.rmu.tension = s.rmu.tension ∧
      t.stu.inputs = s.stu.inputs ∧ t.stu.latch = s.stu.latch ∧ t.stu.lastArr = s.stu.lastArr ∧
      t.lnu.hostHold = s.lnu.hostHold ∧
      sameBut ([.rope, .cabins, .lists, .track, .release, .window, .tally] ++ Block.settled) s t

/-- The rope measurement takes its conditions at the pulse: V_MW is floor(step × n × 1000 / S) over the period window
that the pulse leaves, at most 12,000, and OVERSPEED and OVERSPEED_HIGH are active exactly while V_MW is above the limit
that mode and RESTRICTED select, and above V_MAX + V_EMG_MARGIN or out of range. SLIP is that of the two speeds, and its
persistence and the condition SLIP follow it with the new RD, at a pulse that comes before the wheel has stalled. -/
def Obligations.PulseSetsSpeedAndOverspeed : Prop :=
  ∀ s : State, s.loaded = true →
    ∃ t, exec .measuringWheelPulse s = .next t ∧ t.rmu.mw.kept = some s.clock.timebase ∧
      (let w := t.rmu.mw.window
       let v := s.pfs.working.mwStepUm * w.length * 1000 / w.sum
       t.rmu.mw.speed = (if w = [] then 0 else if 12000 < v then 12000 else v) ∧
         t.rmu.mw.overrange = (w != [] && decide (12000 < v))) ∧
      (∀ k, s.rmu.mw.kept = some k → (s.clock.timebase - k).toNat < 65536 →
        t.rmu.mw.window = pushWindow 8 s.rmu.mw.window (Nat.max 1 (s.clock.timebase - k).toNat)) ∧
      (∀ k, s.rmu.mw.kept = some k → 65536 ≤ (s.clock.timebase - k).toNat → t.rmu.mw.window = []) ∧
      (s.rmu.mw.kept = none → t.rmu.mw.window = s.rmu.mw.window) ∧
      ((∀ k, s.rmu.mw.kept = some k → (s.clock.timebase - k).toNat < 65536) → slipFollows s t) ∧
      t.active .overspeed = decide
        ((if s.ssv.mode = .service then s.pfs.working.vInspect
          else if s.ssv.restricted = true then s.pfs.working.vRestrict else s.pfs.working.vMax) < t.rmu.mw.speed) ∧
      t.active .overspeedHigh =
        (decide (s.pfs.working.vMax + s.pfs.working.vEmgMargin < t.rmu.mw.speed) || t.rmu.mw.overrange)

/-- RD and R change at measuring-wheel pulses alone, and at the resets, which set both to 0. -/
def Obligations.OnlyPulsesAndResetsMoveTheRope : Prop :=
  ∀ s t : State, step s = .next t → (t.rmu.rd ≠ s.rmu.rd ∨ t.rmu.rem ≠ s.rmu.rem) →
    ∃ rest, s.pending = .measuringWheelPulse :: rest ∨
      t.rmu.rd = 0 ∧ t.rmu.rem = 0 ∧ t.ssv.mode = .off ∧
        (s.pending = .powerOn :: rest ∨ s.pending = .resetnAsserted :: rest ∨ s.pending = .hostResetEntry :: rest ∨
          s.pending = .supplyLoss :: rest)

/-- A bullwheel count has the sense of Table 2-1. In the sense of DIRECTION it is timed; against it, DIRECTION takes the
count's sense, the window is emptied, the timing opened afresh and V_BW is 0. V_BW is floor(step × n × 1000 / S) over
the window that the count leaves, at most 12,000 and out of range above it, and SLIP, its persistence and the condition
SLIP follow the two speeds: SLIP is (V_BW − V_MW) × 1000 / V_BW toward zero within −999..+999, and 0 below SLIP_VMIN;
within SLIP_LIMIT the start is discarded and SLIP inactive, beyond it the start is taken or kept and SLIP is active once
SLIP_HOLD_MM have run. RD, the measuring wheel and the tension stay, and the pair moves by one input. -/
def Obligations.BullwheelCountSetsSpeedAndSlip : Prop :=
  ∀ (s : State) (i : BullInput), s.loaded = true →
    ∃ t, exec (.bullwheelCount i) s = .next t ∧
      (let sense : Direction :=
         match i, s.rmu.bwRefA, s.rmu.bwRefB with
         | .bwA, false, false | .bwA, true, true | .bwB, true, false | .bwB, false, true => .forward
         | .bwA, false, true | .bwA, true, false | .bwB, false, false | .bwB, true, true => .reverse
       t.rmu.direction = sense ∧
         (sense ≠ s.rmu.direction →
           t.rmu.bw = { window := [], kept := some s.clock.timebase, speed := 0, overrange := false }) ∧
         (sense = s.rmu.direction → t.rmu.bw.kept = some s.clock.timebase ∧
           (s.rmu.bw.kept = none → t.rmu.bw.window = s.rmu.bw.window) ∧
           ∀ k, s.rmu.bw.kept = some k → t.rmu.bw.window =
             (if (s.clock.timebase - k).toNat < 65536
              then pushWindow 8 s.rmu.bw.window (Nat.max 1 (s.clock.timebase - k).toNat) else []))) ∧
      (let w := t.rmu.bw.window
       let v := s.pfs.working.bwStepUm * w.length * 1000 / w.sum
       t.rmu.bw.speed = (if w = [] then 0 else if 12000 < v then 12000 else v) ∧
         t.rmu.bw.overrange = (w != [] && decide (12000 < v))) ∧
      slipFollows s t ∧
      t.rmu.bwRefA = (if i = .bwA then !s.rmu.bwRefA else s.rmu.bwRefA) ∧
      t.rmu.bwRefB = (if i = .bwB then !s.rmu.bwRefB else s.rmu.bwRefB) ∧
      t.rmu.rd = s.rmu.rd ∧ t.rmu.rem = s.rmu.rem ∧ t.rmu.mw = s.rmu.mw ∧ t.rmu.jumps = s.rmu.jumps ∧
      t.rmu.tension = s.rmu.tension ∧ sameBut (.rope :: Block.settled) s t

/-- Three events whose whole effect is stated. A quadrature jump changes the reference pair, both inputs of it, and the
jump count, which rises by 1 and stops at 65,535; DIRECTION and V_BW stay. An AN1 sample changes the latest sample of
its channel and, while a grip window is open, the window's peak when it is greater. A rising edge of CID_STB changes the
latch, to the code present and the standing RD. Nothing else changes at any of them. -/
def Obligations.JumpSampleAndStrobeChangeTheirFields : Prop :=
  (∀ s : State, s.loaded = true →
     exec .quadratureJump s = .next { s with rmu := { s.rmu with
       bwRefA := !s.rmu.bwRefA, bwRefB := !s.rmu.bwRefB,
       jumps := if s.rmu.jumps < 65535 then s.rmu.jumps + 1 else s.rmu.jumps } }) ∧
  (∀ (s : State) (n : Sample), s.ssv.mode ≠ .off → s.loaded = true →
     exec (.gripSample n) s = .next { s with
       asc := s.asc.set 1 n,
       lnu := { s.lnu with window := s.lnu.window.map fun w =>
         { w with peak := if w.peak < n.toNat then n.toNat else w.peak } } }) ∧
  (∀ (s : State) (code : BitVec 7), s.loaded = true →
     exec (.readerStrobe code) s =
       .next { s with stu := { s.stu with latch := some { code := code, rd := s.rmu.rd } } })

/-- A source stalls when 65,536 µs have passed since its kept capture time: its window is emptied, its timing CLOSED and
its speed 0. SLIP, its persistence and the condition SLIP follow the speed. The other source, RD and DIRECTION stay; the
rope is AT REST after the stall of the second source. -/
def Obligations.StallEmptiesTheWindow : Prop :=
  ∀ (s : State) (k : Word32), s.loaded = true → 65536 ≤ (s.clock.timebase - k).toNat →
    (s.rmu.mw.kept = some k → ∃ t, exec .measuringWheelStall s = .next t ∧
      t.rmu.mw = { window := [], kept := none, speed := 0, overrange := false } ∧ t.rmu.bw = s.rmu.bw ∧
      t.rmu.rd = s.rmu.rd ∧ t.rmu.rem = s.rmu.rem ∧ t.rmu.direction = s.rmu.direction ∧
      t.rmu.tension = s.rmu.tension ∧ t.active .overspeed = false ∧ t.active .overspeedHigh = false ∧
      slipFollows s t ∧ (s.rmu.bw.speed = 0 → t.atRest = true) ∧ sameBut (.rope :: Block.settled) s t) ∧
    (s.rmu.bw.kept = some k → ∃ t, exec .bullwheelStall s = .next t ∧
      t.rmu.bw = { window := [], kept := none, speed := 0, overrange := false } ∧ t.rmu.mw = s.rmu.mw ∧
      t.rmu.rd = s.rmu.rd ∧ t.rmu.rem = s.rmu.rem ∧ t.rmu.direction = s.rmu.direction ∧
      t.rmu.tension = s.rmu.tension ∧ slipFollows s t ∧
      (s.rmu.mw.speed = 0 → t.atRest = true) ∧ sameBut (.rope :: Block.settled) s t)

/-- An AN0 sample replaces the latest sample of its channel and joins the tension window, out of which the oldest goes
when 16 are present. With 16 samples, the carriage position is floor(average × TENSION_SPAN / 4095), and the two tension
conditions are active exactly while it lies outside their bounds; with fewer, neither is evaluated. -/
def Obligations.TensionSampleEvaluatesTheCarriage : Prop :=
  ∀ (s : State) (n : Sample), s.ssv.mode ≠ .off → s.loaded = true →
    ∃ t, exec (.tensionSample n) s = .next t ∧ t.asc = s.asc.set 0 n ∧
      t.rmu = { s.rmu with tension :=
        (if s.rmu.tension.length < 16 then s.rmu.tension else s.rmu.tension.drop 1) ++ [n.toNat] } ∧
      (let x := t.rmu.tension.sum / 16 * s.pfs.working.tensionSpan / 4095
       if t.rmu.tension.length < 16 then
         t.active .tensionRange = s.active .tensionRange ∧ t.active .tensionLimit = s.active .tensionLimit
       else
         t.active .tensionRange = (decide (x < s.pfs.working.tensionLo) || decide (s.pfs.working.tensionHi < x)) ∧
         t.active .tensionLimit = (decide (x < s.pfs.working.tensionLoLim) || decide (s.pfs.working.tensionHiLim < x))) ∧
      sameBut ([.rope, .analog] ++ Block.settled) s t

/-! ### Station track, grip test and launch (chapters 3 and 5) -/

/-- At an OPN, CLS, LCK or GRP passage the oldest entry of the segment before the checkpoint moves into the next one,
keeps its place, takes the standing RD and loses its at-gate flag; the station list's change count rises by 1, and the
input's level is active. In RUN an OPN passage starts an opener task for the entry and a CLS passage a closer task with
that RD as its reach reference and retry count 0: a task that stood before fails unless it was RETURNING, and the
command toward END_B starts or reverses a stroke, takes over the one that runs, finds END_B reached and returns at once
with the door written, or fails with its door cause in FAULT and UNKNOWN; a BLOCKED channel at END_B sends DRIVE_EVENT;
the other channel stays. At an LCK passage of an entry whose cabin is located STATION the door state becomes LOCKED with
LCK_OK active; with LCK_OK inactive UNKNOWN stays and any other state becomes CLOSED; every other field and cabin stays.
At a GRP passage a grip window opens for the entry, with that RD and a peak of 0; the statement takes a GRP passage with
no window open before it, and the one with a window is GripWindowClosesAtTrailingEdge's. PASSAGE is counted once by
every counter that counts on it, with TALLY_OVERFLOW from one that wraps with notify on (by their numbers' order, log
entry 17). -/
def Obligations.PassageMovesTheOldestEntry : Prop :=
  ∀ (s : State) (c : Instr) (i : StationInput) (src dst : Segment) (e : StationEntry), s.loaded = true →
    (c = .opnPassage ∧ i = .opn ∧ src = .opn ∧ dst = .cls ∨ c = .clsPassage ∧ i = .cls ∧ src = .cls ∧ dst = .lck ∨
      c = .lckPassage ∧ i = .lck ∧ src = .lck ∧ dst = .grp ∨
      c = .grpPassage ∧ i = .grp ∧ src = .grp ∧ dst = .gat ∧ s.lnu.window = none) →
    s.lists.station.find? (fun x => x.segment == src) = some e →
    ∃ t, exec c s = .next t ∧
      t.lists.station = s.lists.station.map (fun x =>
        if x.id = e.id then { x with segment := dst, entryRd := s.rmu.rd, atGate := false } else x) ∧
      t.lists.stationCount = s.lists.stationCount + 1 ∧
      t.lists.storage = s.lists.storage ∧ t.lists.upLine = s.lists.upLine ∧ t.lists.summit = s.lists.summit ∧
      t.lists.downLine = s.lists.downLine ∧
      t.stu = { s.stu with
        inputs := s.stu.inputs.put i { level := true, count := 0 }
        wanted := t.stu.wanted
        throwPending := t.stu.throwPending } ∧
      t.lnu.window = (if c = .grpPassage then some { entry := e.id, cabin := e.cabin, openRd := s.rmu.rd, peak := 0 }
        else s.lnu.window) ∧ t.lnu.lastResult = s.lnu.lastResult ∧ t.lnu.hostHold = s.lnu.hostHold ∧
      (c = .lckPassage ∨ c = .grpPassage ∨ s.ssv.mode ≠ .run →
        t.dru.opener = s.dru.opener ∧ t.dru.closer = s.dru.closer) ∧
      (c = .opnPassage → s.ssv.mode = .run → openerStarts e.id e.cabin s t) ∧
      (c = .clsPassage → s.ssv.mode = .run → closerStarts e.id e.cabin s t) ∧
      (c ≠ .lckPassage → s.ssv.mode ≠ .run ∨ c = .grpPassage → t.cabins = s.cabins) ∧
      (c = .lckPassage → ∀ k, t.cab k =
        if e.who = .cabin k ∧ (s.cab k).location = .station then
          { s.cab k with door := if s.stu.inputs.lckOk.level = true then .locked
            else if (s.cab k).door = .unknown then .unknown else .closed }
        else s.cab k) ∧
      tallied [.passage] s t ∧
      sameBut ([.lists, .track, .doors, .cabins, .window, .tally] ++ Block.settled) s t

/-- A passage of OPN, CLS, LCK or GRP with no entry in the segment before it creates an unidentified entry in the
segment behind it, and a GAT passage with no SEG-GAT entry left without the at-gate flag creates one in SEG-GAT with the
flag. It is placed directly behind the last entry of that segment or of one downstream; in RUN, STATION_SEQUENCE is
raised and latched, and outside RUN it is not reported. With 128 entries in the list none is created, and the cause is
raised in every mode. In RUN an OPN or CLS passage starts the door task of the entry created, an unidentified one; with
none created it starts none. A GRP passage closes an open grip window, with its force, result and causes, writes both to
the window's cabin or unidentified entry, and opens one for the entry created (entries are told apart by numbers of the
model's own, log entry 23). PASSAGE is counted, and then GRIP_FAIL where the window closes FAIL (the order is log entry
17), with TALLY_OVERFLOW from a counter that wraps with notify on; a GAT passage with a launch in flight and the GATE
not AT_A raises GATE_UNSAFE. -/
def Obligations.PassageWithoutEntryIsSurveyed : Prop :=
  ∀ (s : State) (c : Instr) (src dst : Segment), s.loaded = true →
    (c = .opnPassage ∧ src = .opn ∧ dst = .cls ∨ c = .clsPassage ∧ src = .cls ∧ dst = .lck ∨
      c = .lckPassage ∧ src = .lck ∧ dst = .grp ∨ c = .grpPassage ∧ src = .grp ∧ dst = .gat ∨
      c = .gatPassage ∧ src = .gat ∧ dst = .gat) →
    (∀ x ∈ s.lists.station, x.segment = src → c = .gatPassage ∧ x.atGate = true) →
    ∃ t, exec c s = .next t ∧
      (let room := s.lists.station.length < 128
       let written := fun (l : List StationEntry) =>
         if c = .grpPassage then (match s.lnu.window with
           | some w => w.writtenTo s.pfs.working l
           | none => l) else l
       (room → ∃ ahead behind, s.lists.station = ahead ++ behind ∧
           t.lists.station = written (ahead ++
             [⟨s.stu.nextId, .unidentified .none 0, dst, s.rmu.rd, decide (c = .gatPassage)⟩] ++ behind) ∧
           (∀ x ∈ behind, Segment.atOrDownstream x.segment dst = false) ∧
           ∀ x, ahead.getLast? = some x → Segment.atOrDownstream x.segment dst = true) ∧
       (room → t.lists.station.length = s.lists.station.length + 1) ∧
       (room → s.ssv.mode = .run → (t.cause .stationSequence).latched = true) ∧
       (room → s.ssv.mode ≠ .run → t.cause .stationSequence = s.cause .stationSequence) ∧
       (room → t.lists.stationCount = s.lists.stationCount + 1) ∧
       (¬room → t.lists.station = written s.lists.station) ∧
       (¬room → (t.cause .stationSequence).latched = true) ∧
       (c ≠ .grpPassage → t.lnu.window = s.lnu.window ∧ t.lnu.lastResult = s.lnu.lastResult) ∧
       (c = .grpPassage →
         (room → t.lnu.window = some { entry := s.stu.nextId, cabin := none, openRd := s.rmu.rd, peak := 0 }) ∧
         (¬room → t.lnu.window = none) ∧ (s.lnu.window = none → t.lnu.lastResult = s.lnu.lastResult) ∧
         ∀ w, s.lnu.window = some w → (w.entry ≠ s.stu.nextId → gripJudged w s t) ∧
           t.lnu.lastResult = some { force := w.force s.pfs.working, result := w.result s.pfs.working }) ∧
       tallied (.passage :: (match c, s.lnu.window with
         | .grpPassage, some w => w.signals s.pfs.working
         | _, _ => [])) s t ∧
       (c = .gatPassage → (s.lnu.flight.isSome → s.dru.gate.state ≠ .atA → (t.cause .gateUnsafe).latched = true) ∧
         (s.lnu.flight = none ∨ s.dru.gate.state = .atA → t.cause .gateUnsafe = s.cause .gateUnsafe))) ∧
      (c = .grpPassage ∧ s.lnu.window = none ∨ c = .gatPassage → t.cabins = s.cabins) ∧
      (c = .opnPassage → s.ssv.mode = .run → s.lists.station.length < 128 → openerStarts s.stu.nextId none s t) ∧
      (c = .clsPassage → s.ssv.mode = .run → s.lists.station.length < 128 → closerStarts s.stu.nextId none s t) ∧
      (c = .lckPassage ∨ c = .grpPassage ∨ c = .gatPassage ∨ s.ssv.mode ≠ .run ∨ 128 ≤ s.lists.station.length →
        t.dru.opener = s.dru.opener ∧ t.dru.closer = s.dru.closer) ∧
      t.lnu.hostHold = s.lnu.hostHold ∧ t.lists.storage = s.lists.storage ∧ t.lists.upLine = s.lists.upLine ∧
      t.lists.summit = s.lists.summit ∧ t.lists.downLine = s.lists.downLine ∧
      sameBut ([.lists, .track, .doors, .cabins, .window, .tally] ++ Block.settled) s t

/-- An ARR passage whose usable code names a registered cabin of the down-line list takes that cabin: it leaves the
list, its pass starts afresh, and it enters the station list at the tail, in SEG-STI with the SWITCH AT_B and in SEG-OPN
otherwise; between its ends the SWITCH raises SWITCH_UNSAFE. A cabin that is not at the head raises ARRIVAL_ORDER. The
latch is consumed and the RD kept; with 128 entries nothing is taken and STATION_SEQUENCE is raised. A registered
UNPLACED, UP_LINE, SUMMIT or LOST cabin is taken as well, with ARRIVAL_ORDER for UP_LINE and SUMMIT and a FOUND notice
for LOST. A cabin in the station, in storage or withdrawn raises IDENTITY_CONFLICT and is ignored. Without a cabin to
take, the down-line head is taken, with READER unless the latch was stale; without a head an unidentified entry results,
with PHANTOM_ARRIVAL in RUN. PASSAGE and VALLEY_ARRIVAL are counted, and READER_MISS without a usable code (the order of
the three is log entry 17), with TALLY_OVERFLOW from a counter that wraps with notify on. -/
def Obligations.ArrivalTakesTheReadCabin : Prop :=
  (∀ (s : State) (c : Cabin) (l : Latch), s.loaded = true → s.stu.latch = some l → l.code.toNat = Cabin.number c →
    s.since l.rd ≤ (s.pfs.working.readerSpan : Int) → (s.cab c).registered = true →
    (s.cab c).location = .downLine →
    ∃ t, exec .arrPassage s = .next t ∧ t.stu.latch = none ∧ t.stu.lastArr = some s.rmu.rd ∧
      t.lists.storage = s.lists.storage ∧ t.lists.upLine = s.lists.upLine ∧ t.lists.summit = s.lists.summit ∧
      (if s.lists.station.length < 128 then
         t.lists.downLine = s.lists.downLine.filter (fun x => x.cabin != c) ∧
         t.lists.station = s.lists.station ++ [⟨s.stu.nextId, .cabin c,
           if s.dru.switch.state = .atB then .sti else .opn, s.rmu.rd, false⟩] ∧
         t.cab c = { s.cab c with location := .station, door := .unknown, grip := .none, force := 0 } ∧
         (∀ d, d ≠ c → t.cab d = s.cab d) ∧
         (s.dru.switch.state ≠ .atA → s.dru.switch.state ≠ .atB → (t.cause .switchUnsafe).latched = true) ∧
         (s.lists.downLine.head?.map LineEntry.cabin ≠ some c → (t.cause .arrivalOrder).latched = true)
       else t.lists.downLine = s.lists.downLine ∧ t.lists.station = s.lists.station ∧ t.cabins = s.cabins ∧
         (t.cause .stationSequence).latched = true) ∧
      t.stu.inputs = s.stu.inputs.put .arr { level := true, count := 0 } ∧ t.stu.release = s.stu.release ∧
      sameBut ([.lists, .track, .cabins, .tally] ++ Block.settled) s t) ∧
  (∀ s : State, s.loaded = true → ∃ t, exec .arrPassage s = .next t ∧
    (let usable := ∃ l, s.stu.latch = some l ∧ l.code ≠ 0 ∧
       distance s.rmu.rd l.rd ≤ (s.pfs.working.readerSpan : Int)
     (usable → tallied [.passage, .valleyArrival] s t) ∧
       (¬usable → tallied [.passage, .valleyArrival, .readerMiss] s t)) ∧
    (128 ≤ s.lists.station.length → t.lists.station = s.lists.station ∧ t.lists.storage = s.lists.storage ∧
      t.lists.upLine = s.lists.upLine ∧ t.lists.summit = s.lists.summit ∧ t.lists.downLine = s.lists.downLine ∧
      t.cabins = s.cabins ∧ t.stu.latch = none ∧ t.stu.lastArr = some s.rmu.rd ∧
      (t.cause .stationSequence).latched = true)) ∧
  (∀ s : State, s.loaded = true → s.placed → s.lists.station.length < 128 →
    (let stale := ∃ l, s.stu.latch = some l ∧ l.code ≠ 0 ∧ (s.pfs.working.readerSpan : Int) < distance s.rmu.rd l.rd
     let reads : Cabin → Prop := fun c => (s.cab c).registered = true ∧ ∃ l, s.stu.latch = some l ∧
       l.code.toNat = c.val + 1 ∧ distance s.rmu.rd l.rd ≤ (s.pfs.working.readerSpan : Int)
     let off : Cabin → Prop := fun c => (s.cab c).location = .station ∨ (s.cab c).location = .storage ∨
       (s.cab c).location = .withdrawn
     let entry := fun who => (⟨s.stu.nextId, who, if s.dru.switch.state = .atB then .sti else .opn, s.rmu.rd, false⟩ :
       StationEntry)
     ∃ t, exec .arrPassage s = .next t ∧ t.stu.latch = none ∧ t.stu.lastArr = some s.rmu.rd ∧
       t.lists.storage = s.lists.storage ∧
       (∀ c, reads c → ¬off c → (s.cab c).location ≠ .downLine →
         t.lists.station = s.lists.station ++ [entry (.cabin c)] ∧ t.lists.downLine = s.lists.downLine ∧
         t.lists.upLine = s.lists.upLine.filter (fun y => y.cabin != c) ∧
         t.lists.summit = s.lists.summit.filter (fun y => y.cabin != c) ∧
         t.cab c = { s.cab c with location := .station, door := .unknown, grip := .none, force := 0 } ∧
         (∀ d, d ≠ c → t.cab d = s.cab d) ∧
         ((s.cab c).location = .upLine ∨ (s.cab c).location = .summit → (t.cause .arrivalOrder).latched = true) ∧
         ((s.cab c).location = .lost → (∀ k, (s.counter k).notify = false) → s.spt.notices.length < 16 →
           ⟨s.clock.ms, .cabinEvent .found c⟩ ∈ t.spt.notices)) ∧
       ((∀ c, reads c → off c) →
         t.lists.upLine = s.lists.upLine ∧ t.lists.summit = s.lists.summit ∧
         ((∃ c, reads c) → (t.cause .identityConflict).latched = true) ∧
         (∀ h rest, s.lists.downLine = h :: rest →
           t.lists.downLine = rest ∧ t.lists.station = s.lists.station ++ [entry (.cabin h.cabin)] ∧
           t.cab h.cabin = { s.cab h.cabin with location := .station, door := .unknown, grip := .none, force := 0 } ∧
           (∀ d, d ≠ h.cabin → t.cab d = s.cab d) ∧
           (¬stale → (t.cause .reader).latched = true) ∧ (stale → t.cause .reader = s.cause .reader)) ∧
         (s.lists.downLine = [] → t.lists.downLine = [] ∧ t.cabins = s.cabins ∧
           t.lists.station = s.lists.station ++ [entry (.unidentified .none 0)] ∧
           (s.ssv.mode = .run → (t.cause .phantomArrival).latched = true) ∧
           (s.ssv.mode ≠ .run → t.cause .phantomArrival = s.cause .phantomArrival))) ∧
       (s.dru.switch.state ≠ .atA → s.dru.switch.state ≠ .atB → (t.cause .switchUnsafe).latched = true) ∧
       t.stu.release = s.stu.release ∧ sameBut ([.lists, .track, .cabins, .tally] ++ Block.settled) s t))

/-- An STI passage takes the oldest SEG-STI entry out of the station list. An identified one joins the storage list at
its tail with its retire flag cleared; for an unidentified one, and for none, the storage list gains nothing and
STATION_SEQUENCE is raised in every mode. An STM passage with a release in flight moves the storage head to the tail of
the station list in SEG-OPN, its pass afresh, and ends the release; with none in flight it raises STATION_SEQUENCE in
every mode and creates an unidentified entry there, whatever the storage list holds. With 128 entries in the list
nothing moves or is created, and the cause is raised. A release in flight ends in both cases, and the RELEASE channel is
commanded toward END_A by its state, with a DRIVE_EVENT where it is found BLOCKED there; without one the channel stays.
Each counts PASSAGE, with TALLY_OVERFLOW from a counter that wraps with notify on. -/
def Obligations.StorageRailPassages : Prop :=
  (∀ s : State, s.loaded = true →
     ∃ t, exec .stiPassage s = .next t ∧
       (match s.lists.station.find? (fun x => x.segment == .sti) with
        | some e =>
          t.lists.station = s.lists.station.filter (fun x => x.id != e.id) ∧
          t.lists.stationCount = s.lists.stationCount + 1 ∧
          (match e.who with
           | .cabin c =>
             t.lists.storage = s.lists.storage ++ [c] ∧ t.lists.storageCount = s.lists.storageCount + 1 ∧
             t.cab c = { s.cab c with location := .storage, retire := false } ∧ ∀ d, d ≠ c → t.cab d = s.cab d
           | .unidentified _ _ =>
             t.lists.storage = s.lists.storage ∧ t.cabins = s.cabins ∧ (t.cause .stationSequence).latched = true)
        | none =>
          t.lists.station = s.lists.station ∧ t.lists.storage = s.lists.storage ∧ t.cabins = s.cabins ∧
            (t.cause .stationSequence).latched = true) ∧
       t.lists.upLine = s.lists.upLine ∧ t.lists.summit = s.lists.summit ∧ t.lists.downLine = s.lists.downLine ∧
       t.stu = { s.stu with
         inputs := s.stu.inputs.put .sti { level := true, count := 0 }
         wanted := t.stu.wanted
         throwPending := t.stu.throwPending } ∧
       tallied [.passage] s t ∧
       sameBut ([.lists, .track, .cabins, .tally] ++ Block.settled) s t) ∧
  (∀ s : State, s.loaded = true → s.releaseKept →
     ∃ t, exec .stmPassage s = .next t ∧ t.stu.release = none ∧
       (let entry := fun who => (⟨s.stu.nextId, who, .opn, s.rmu.rd, false⟩ : StationEntry)
        let still := t.lists.storage = s.lists.storage ∧ t.lists.storageCount = s.lists.storageCount ∧ t.cabins = s.cabins
        match s.stu.release with
        | some r =>
          t.dru.release = s.dru.release.commanded .a s.clock.ms ∧
            sends (Notice.ofDrive .release) (s.dru.release.foundThere .release .a) s t ∧
            (if s.lists.station.length < 128 then
               t.lists.station = s.lists.station ++ [entry (.cabin r.cabin)] ∧
                 t.lists.stationCount = s.lists.stationCount + 1 ∧
                 s.lists.storage = r.cabin :: t.lists.storage ∧ t.lists.storageCount = s.lists.storageCount + 1 ∧
                 t.cab r.cabin =
                   { s.cab r.cabin with location := .station, door := .unknown, grip := .none, force := 0 } ∧
                 ∀ d, d ≠ r.cabin → t.cab d = s.cab d
             else t.lists.station = s.lists.station ∧ still ∧ (t.cause .stationSequence).latched = true)
        | none =>
          t.dru.release = s.dru.release ∧ still ∧ (t.cause .stationSequence).latched = true ∧
            (if s.lists.station.length < 128 then
               t.lists.station = s.lists.station ++ [entry (.unidentified .none 0)] ∧
                 t.lists.stationCount = s.lists.stationCount + 1
             else t.lists.station = s.lists.station)) ∧
       t.lists.upLine = s.lists.upLine ∧ t.lists.summit = s.lists.summit ∧ t.lists.downLine = s.lists.downLine ∧
       t.stu.inputs = s.stu.inputs.put .stm { level := true, count := 0 } ∧ t.stu.latch = s.stu.latch ∧
       t.stu.lastArr = s.stu.lastArr ∧ tallied [.passage] s t ∧
       sameBut ([.lists, .track, .release, .cabins, .tally] ++ Block.settled) s t)

/-- At a GAT passage the oldest SEG-GAT entry without the at-gate flag gains it, and the change count rises by 1; with a
launch in flight and the GATE not AT_A, GATE_UNSAFE is raised and latched; PASSAGE is counted, with TALLY_OVERFLOW from
a counter that wraps with notify on. The trailing edge with a launch in phase OPENING moves the entry of the launch to
SEG-ATT, puts the launch in phase LEFT and commands the GATE toward END_A by its state, with a DRIVE_EVENT where it is
found BLOCKED there. Without one the oldest SEG-GAT entry moves as a forced pass, and GATE_UNSAFE is raised with the
GATE AT_A, or with it elsewhere in RUN; with no SEG-GAT entry to move, STATION_SEQUENCE is raised and latched in RUN, and
nothing else raises it. At the trailing edge the change count rises by 1 where the list has changed, and stays where it
has not (that an entry written as it stood is no change is log entry 29). At both edges the hold start follows the candidate: the standing RD is kept for
an entry that DOOR_NOT_LOCKED or GRIP_NOT_PASSED holds anew, and none for an entry that is not held. -/
def Obligations.GateEdges : Prop :=
  (∀ (s : State) (e : StationEntry), s.loaded = true →
     s.lists.station.find? (fun x => x.segment == .gat && !x.atGate) = some e →
     ∃ t, exec .gatPassage s = .next t ∧
       t.lists.station = s.lists.station.map (fun x => if x.id = e.id then { x with atGate := true } else x) ∧
       t.lists.stationCount = s.lists.stationCount + 1 ∧
       (s.lnu.flight.isSome → s.dru.gate.state ≠ .atA → (t.cause .gateUnsafe).latched = true) ∧
       (s.lnu.flight = none ∨ s.dru.gate.state = .atA → t.cause .gateUnsafe = s.cause .gateUnsafe) ∧
       holdFollows false s t ∧
       t.lists.storage = s.lists.storage ∧ t.lists.upLine = s.lists.upLine ∧ t.lists.summit = s.lists.summit ∧
       t.lists.downLine = s.lists.downLine ∧
       t.stu = { s.stu with
         inputs := s.stu.inputs.put .gat { level := true, count := 0 }
         wanted := t.stu.wanted
         throwPending := t.stu.throwPending } ∧
       tallied [.passage] s t ∧
       sameBut ([.lists, .track, .tally] ++ Block.settled) s t) ∧
  (∀ s : State, s.loaded = true →
     ∃ t, exec .gatTrailingEdge s = .next t ∧
       (let moved := fun (id : Nat) => s.lists.station.map (fun x =>
           if x.id = id then { x with segment := .att, entryRd := s.rmu.rd, atGate := false } else x)
        (∀ f, s.lnu.flight = some f → f.left = false →
          t.lists.station = moved f.entry ∧ t.lnu.flight = some { f with left := true } ∧ t.lnu.rdL = s.lnu.rdL ∧
          t.cause .stationSequence = s.cause .stationSequence ∧ t.dru.gate = s.dru.gate.commanded .a s.clock.ms ∧
          sends (Notice.ofDrive .gate) (s.dru.gate.foundThere .gate .a) s t) ∧
        ((∀ f, s.lnu.flight = some f → f.left = true) →
          (match s.lists.station.find? (fun x => x.segment == .gat) with
           | some e => t.lists.station = moved e.id ∧ t.cause .stationSequence = s.cause .stationSequence
           | none => t.lists.station = s.lists.station ∧
             (s.ssv.mode = .run →
               (t.cause .stationSequence).latched = true ∧ (t.cause .stationSequence).last = .absent) ∧
             (s.ssv.mode ≠ .run → t.cause .stationSequence = s.cause .stationSequence)) ∧
          (s.dru.gate.state = .atA ∨ s.ssv.mode = .run → (t.cause .gateUnsafe).latched = true) ∧
          (s.dru.gate.state ≠ .atA → s.ssv.mode ≠ .run → t.cause .gateUnsafe = s.cause .gateUnsafe))) ∧
       t.lists.stationCount =
         (if t.lists.station = s.lists.station then s.lists.stationCount else s.lists.stationCount + 1) ∧
       holdFollows false s t ∧
       t.lists.storage = s.lists.storage ∧ t.lists.upLine = s.lists.upLine ∧ t.lists.summit = s.lists.summit ∧
       t.lists.downLine = s.lists.downLine ∧
       t.stu = { s.stu with
         inputs := s.stu.inputs.put .gat { level := false, count := 0 }
         wanted := t.stu.wanted
         throwPending := t.stu.throwPending } ∧
       sameBut ([.lists, .track] ++ Block.settled) s t)

/-- The GRP trailing edge closes an open grip window; so does the next GRP passage, which moves its oldest SEG-GRP entry
into SEG-GAT with the standing RD and the at-gate flag clear, and opens a new window for it. The force is 0 for a peak
up to GRIP_ZERO and (peak − GRIP_ZERO) × GRIP_SCALE / 4096 above it; the result is PASS within GRIP_MIN..GRIP_MAX and
FAIL otherwise, and FAIL at a peak of 4095. The window's cabin, when it is located STATION and its entry still stands,
takes both; an unidentified entry keeps them in its own fields; a FAIL raises GRIP_FAIL, a peak of 4095 GRIP_SENSOR. A
passage counts PASSAGE, and a FAIL GRIP_FAIL behind it (the order is log entry 17), with TALLY_OVERFLOW from a counter
that wraps with notify on. The station list's change count rises by 1 where the list has changed (that a rewritten
result counts as a change, and the same result as none, is log entry 29). The hold start of the candidate follows the
result. A trailing edge with no window open is without effect on the window, the last result, the cabins, the lists and
their change counts, the tally, the two causes and the wanted route. (The close by GRIP_WINDOW_MAX is
PulseMovesThePositionAndMakesItsChecks'.) -/
def Obligations.GripWindowClosesAtTrailingEdge : Prop :=
  (∀ (s : State) (c : Instr) (w : GripWindow), s.loaded = true → s.lnu.window = some w →
    (c = .grpTrailingEdge ∨ c = .grpPassage ∧ s.lists.station.any (fun x => x.segment == .grp)) →
    ∃ t, exec c s = .next t ∧
      gripJudged w s t ∧ holdFollows false s t ∧
      (c = .grpPassage → ∃ e, s.lists.station.find? (fun x => x.segment == .grp) = some e ∧
        t.lnu.window = some { entry := e.id, cabin := e.cabin, openRd := s.rmu.rd, peak := 0 } ∧
        t.lists.station = w.writtenTo s.pfs.working (s.lists.station.map fun x =>
          if x.id = e.id then { x with segment := .gat, entryRd := s.rmu.rd, atGate := false } else x) ∧
        t.lists.stationCount = s.lists.stationCount + 1 ∧
        tallied (.passage :: w.signals s.pfs.working) s t) ∧
      (c = .grpTrailingEdge → t.lnu.window = none ∧
        t.lists.station = w.writtenTo s.pfs.working s.lists.station ∧
        t.lists.stationCount =
          (if t.lists.station = s.lists.station then s.lists.stationCount else s.lists.stationCount + 1) ∧
        tallied (w.signals s.pfs.working) s t) ∧
      t.stu = { s.stu with
        inputs := s.stu.inputs.put .grp { level := decide (c = .grpPassage), count := 0 }
        wanted := t.stu.wanted
        throwPending := t.stu.throwPending } ∧
      t.lnu.hostHold = s.lnu.hostHold ∧ t.lists.storage = s.lists.storage ∧ t.lists.upLine = s.lists.upLine ∧
      t.lists.summit = s.lists.summit ∧ t.lists.downLine = s.lists.downLine ∧
      sameBut ([.lists, .track, .cabins, .window, .tally] ++ Block.settled) s t) ∧
  ∀ s : State, s.loaded = true → s.lnu.window = none →
    ∃ t, exec .grpTrailingEdge s = .next t ∧
      t.stu = { s.stu with inputs := s.stu.inputs.put .grp { level := false, count := 0 } } ∧
      t.cause .gripFail = s.cause .gripFail ∧ t.cause .gripSensor = s.cause .gripSensor ∧
      sends (Notice.ofKind 0xC9) [] s t ∧ holdFollows false s t ∧
      sameBut [.track, .gate, .launch, .hold, .overdue, .reserved, .causes, .notices] s t

/-- The launch decision is taken exactly when the conditions of Table 5-2 hold for an identified candidate at the gate:
then RD_L is the standing RD, the launch is in flight with the spacing value of R92, a LAUNCHED record is reserved, and
the GATE, AT_A by condition 10, drives toward END_B. With any of the eleven conditions not met nothing changes (that the
command is then without effect is the model's choice, log entry 7). -/
def Obligations.LaunchDecisionFollowsTheConditions : Prop :=
  ∀ (s : State), s.loaded = true →
    (∀ (e : StationEntry) (c : Cabin), s.lists.station.find? (fun x => x.segment == .gat) = some e → e.atGate = true →
      e.who = .cabin c → s.ssv.mode = .run → (s.ssv.demand = .none ∨ s.ssv.demand = .warn) →
      s.rmu.direction = .forward → s.pfs.working.launchVmin ≤ s.rmu.mw.speed → (s.cab c).door = .locked →
      (s.cab c).grip = .pass →
      (∀ x, s.lnu.rdL = some x → (s.pfs.working.spacing : Int) ≤ distance s.rmu.rd x) →
      s.lkc.chan.occupancy + s.lkc.chan.reservedBytes + 5 ≤ 128 → s.dru.gate.state = .atA → s.lnu.flight = none →
      exec .launchDecision s = .next { s with
        lnu := { s.lnu with rdL := some s.rmu.rd, flight := some ⟨e.id, c, s.rmu.rd,
          (match s.lnu.rdL with
            | none => 16777215
            | some x => if 16777214 < distance s.rmu.rd x then 16777214 else (distance s.rmu.rd x).toNat),
          false, false⟩ },
        lkc := { s.lkc with chan := { s.lkc.chan with reserved := true } },
        dru := { s.dru with gate := { s.dru.gate with state := .toB, strokeStart := some s.clock.ms, run := 0, peak := 0 } } }) ∧
    (s.ssv.mode ≠ .run ∨ s.rmu.direction = .reverse ∨ s.rmu.mw.speed < s.pfs.working.launchVmin ∨
        s.dru.gate.state ≠ .atA ∨ s.lnu.flight.isSome ∨ s.ssv.demand = .hold ∨ s.ssv.demand = .service ∨
        s.ssv.demand = .emergency ∨ (∀ e, s.lists.station.find? (fun x => x.segment == .gat) = some e →
          e.atGate = false ∨ ∀ c, e.who = .cabin c → (s.cab c).door ≠ .locked ∨ (s.cab c).grip ≠ .pass) ∨
        (∃ x, s.lnu.rdL = some x ∧ distance s.rmu.rd x < (s.pfs.working.spacing : Int)) ∨
        128 < s.lkc.chan.occupancy + s.lkc.chan.reservedBytes + 5 →
      exec .launchDecision s = .next s)

/-- A step out of a reset that changes RD_L, or that puts a launch in flight where none was, decides a launch: it leaves
the part in RUN, moving forward at LAUNCH_VMIN or more, with RD_L the standing RD, the reservation held, in flight a
launch that was not before, of phase OPENING, with that launch RD, of a cabin whose door is LOCKED and whose grip result
is PASS, and the GATE on a stroke toward END_B begun at that step. A step after which the GATE drives toward END_B where
it did not before is one in which a launch is decided, or, in SERVICE with no launch in flight, one that takes a
DRIVE_TEST of the GATE toward END_B. (The other conditions of Table 5-2, demand, spacing, room for the record and GATE
AT_A, are LaunchDecisionFollowsTheConditions'; the demand may have changed by the end of the step, log entry 13. A
launch in flight that moves on, ends or is given up is stated with its events. A step that takes several frames of a
BAD_FRAME command at once is left out.) -/
def Obligations.NewLaunchesAreOfReadyCabinsInRun : Prop :=
  ∀ s t : State, step s = .next t → t.ssv.mode ≠ .off → (∀ l rest, s.pending ≠ .badFrame l :: rest) →
    (t.lnu.rdL ≠ s.lnu.rdL ∨ s.lnu.flight = none ∧ t.lnu.flight ≠ none → launchDecided s t) ∧
    (strokeBegun .gate .b s t →
      launchDecided s t ∨ s.ssv.mode = .service ∧ s.lnu.flight = none ∧ s.takes 0x0E (testBody .gate .b))

/-- An ATT passage of the entry of the launch in flight completes the launch: the entry leaves the station list, the
cabin joins the up-line list at its tail with the launch RD, its launch count rises by 1 up to 65,535, its due flag is
set when SERVICE_LAUNCHES is reached, with a DUE notice where it was not set, and the LAUNCHED record joins the transmit
queue with cabin and spacing. The flight record is removed, the reservation is returned and a LAUNCHED notice sent; a
launch that stands in flight after the event is a new one, decided at it for the candidate (R98's sixth step). PASSAGE
and then LAUNCH are counted (log entry 17), with TALLY_OVERFLOW from a counter that wraps with notify on. Any other ATT
passage leaves a launch in flight: with SEG-ATT empty nothing leaves, and STATION_SEQUENCE is raised in RUN; an
unidentified entry is discarded with PHANTOM_ARRIVAL in every mode; an identified one leaves, its cabin UNPLACED and no
launch counted, with an UNTRACKED notice and, in RUN, STATION_SEQUENCE. -/
def Obligations.AttPassageCompletesTheLaunch : Prop :=
  (∀ (s : State) (e : StationEntry) (f : Flight), s.loaded = true →
    s.lists.station.find? (fun x => x.segment == .att) = some e → s.lnu.flight = some f → e.id = f.entry →
    ∃ t, exec .attPassage s = .next t ∧
      t.lists.station = s.lists.station.filter (fun x => x.id != f.entry) ∧
      t.lists.stationCount = s.lists.stationCount + 1 ∧
      t.lists.upLine = s.lists.upLine ++ [{ cabin := f.cabin, stamp := f.launchRd }] ∧
      t.lists.upLineCount = s.lists.upLineCount + 1 ∧
      (let n := if (s.cab f.cabin).launches < 65535 then (s.cab f.cabin).launches + 1 else (s.cab f.cabin).launches
       t.cab f.cabin = { s.cab f.cabin with
         location := .upLine
         launches := n
         due := (s.cab f.cabin).due ||
           (s.pfs.working.serviceLaunches != 0 && decide (s.pfs.working.serviceLaunches ≤ n)) }) ∧
      (∀ d, d ≠ f.cabin → t.cab d = s.cab d) ∧
      t.lkc.chan.queue = s.lkc.chan.queue ++ [{ kind := .launched, origin := .part, body :=
        [BitVec.ofNat 8 (f.cabin.val + 1), BitVec.ofNat 8 (f.spacing / 65536), BitVec.ofNat 8 (f.spacing / 256),
          BitVec.ofNat 8 f.spacing] }] ∧
      t.lists.storage = s.lists.storage ∧ t.lists.summit = s.lists.summit ∧ t.lists.downLine = s.lists.downLine ∧
      t.stu = { s.stu with
        inputs := s.stu.inputs.put .att { level := true, count := 0 }
        wanted := t.stu.wanted
        throwPending := t.stu.throwPending } ∧ t.lkc.chan.priority = s.lkc.chan.priority ∧
      t.lkc.chan.progress = s.lkc.chan.progress ∧ t.lkc.chan.texts = s.lkc.chan.texts ∧
      (t.lnu.flight = none ∧ t.lkc.chan.reserved = false ∧ t.lnu.rdL = s.lnu.rdL ∧ t.dru.gate = s.dru.gate ∨
        ∃ x g, t.gateEntry = some x ∧ x.who = .cabin g.cabin ∧ t.lnu.flight = some g ∧ g.entry = x.id ∧
          g.launchRd = s.rmu.rd ∧ g.left = false ∧ g.stuck = false ∧ t.lkc.chan.reserved = true ∧
          t.lnu.rdL = some s.rmu.rd ∧ s.dru.gate.state = .atA ∧ t.dru.gate.state = .toB ∧ s.ssv.mode = .run) ∧
      (t.spt.notices.length < 16 → ⟨s.clock.ms, .cabinEvent .launched f.cabin⟩ ∈ t.spt.notices ∧
        ((s.cab f.cabin).due = false → (t.cab f.cabin).due = true →
          ⟨s.clock.ms, .cabinEvent .due f.cabin⟩ ∈ t.spt.notices)) ∧
      tallied [.passage, .launch] s t ∧
      sameBut ([.lists, .track, .cabins, .channel, .tally] ++ Block.settled) s t) ∧
  (∀ s : State, s.loaded = true →
    (∀ e f, s.lists.station.find? (fun x => x.segment == .att) = some e → s.lnu.flight = some f → e.id ≠ f.entry) →
    ∃ t, exec .attPassage s = .next t ∧
      (∀ f, s.lnu.flight = some f → t.lnu.flight = some f ∧ t.lnu.rdL = s.lnu.rdL) ∧
      (let sequence := (s.ssv.mode = .run → (t.cause .stationSequence).latched = true) ∧
         (s.ssv.mode ≠ .run → t.cause .stationSequence = s.cause .stationSequence)
       match s.lists.station.find? (fun x => x.segment == .att) with
       | none => t.lists.station = s.lists.station ∧ t.cabins = s.cabins ∧ sequence
       | some e =>
         t.lists.station = s.lists.station.filter (fun x => x.id != e.id) ∧
         t.lists.stationCount = s.lists.stationCount + 1 ∧
         (match e.who with
          | .unidentified _ _ => t.cabins = s.cabins ∧ (t.cause .phantomArrival).latched = true ∧
              t.cause .stationSequence = s.cause .stationSequence
          | .cabin c => t.cab c = { s.cab c with location := .unplaced } ∧ (∀ d, d ≠ c → t.cab d = s.cab d) ∧ sequence ∧
              ((∀ k, (s.counter k).notify = false) → s.spt.notices.length < 16 →
                ⟨s.clock.ms, .cabinEvent .untracked c⟩ ∈ t.spt.notices))) ∧
      t.lists.storage = s.lists.storage ∧ t.lists.upLine = s.lists.upLine ∧ t.lists.summit = s.lists.summit ∧
      t.lists.downLine = s.lists.downLine ∧
      t.stu = { s.stu with
        inputs := s.stu.inputs.put .att { level := true, count := 0 }
        wanted := t.stu.wanted
        throwPending := t.stu.throwPending } ∧
      tallied [.passage] s t ∧ sameBut ([.lists, .track, .cabins, .tally] ++ Block.settled) s t)

/-- A cabin enters the up-line list only through an ATT passage that completes a launch of that cabin: a step after
which the list holds a cabin it did not hold before is an ATT passage whose oldest SEG-ATT entry is that of the launch
in flight, of that cabin. The change count of each of the five lists rises by 1, modulo 2^16, at every step out of a
reset that changes that list, and stays at every step that does not. (This holds of a step that is one event: left out
are a BAD_FRAME command, which may bring several frames, and bits of LINE_RX that complete a second cycle. That an event
which leaves a list as it stood is no change is log entry 29.) -/
def Obligations.UpLineGrowsOnlyByACompletedLaunch : Prop :=
  (∀ (s t : State) (c : Cabin), step s = .next t → (∃ x ∈ t.lists.upLine, x.cabin = c) →
    (∀ x ∈ s.lists.upLine, x.cabin ≠ c) →
    ∃ rest e f, s.pending = .attPassage :: rest ∧ s.loaded = true ∧
      s.lists.station.find? (fun x => x.segment == .att) = some e ∧ s.lnu.flight = some f ∧ e.id = f.entry ∧
      f.cabin = c) ∧
  ∀ s t : State, step s = .next t → t.ssv.mode ≠ .off → (∀ c rest, s.pending = c :: rest → s.singleEvent c) →
    countsFollow s t

/-- The SWITCH is commanded toward the wanted end when it neither stands nor drives there and the clearance is met: with
no ARR passage since the reset, or SWITCH_CLEAR run since the last. It takes the command by its state: from the other
end, and from UNKNOWN toward LINE, a stroke starts; one toward the other end is reversed, its peak current kept; a
BLOCKED channel starts a stroke, or comes to rest at once where that end is active, with a DRIVE_EVENT COMPLETED; in
FAULT, and in UNKNOWN toward STORE, it stays, and the throw stays pending. Without the clearance the throw stays
pending; at the wanted end or on the way to it no throw is pending; without a wanted route nothing changes. A step in
RUN that computes the wanted route, at an ARR passage, a change of the down-line head or of its retire flag, or the
entry into RUN, makes this comparison with the route computed, from a state whose cabins stand in the lists of their
locations. A step out of a reset after which the SWITCH drives toward an end where it did not before ends with the
clearance met, and either that end is that of the wanted route, which stands in RUN alone where the route is kept as R52
says, or the step takes SET_SWITCH or a DRIVE_TEST of the SWITCH toward it, in SERVICE. (The comparison at a change of
RD is PulseMovesThePositionAndMakesItsChecks'. A step that takes several frames of a BAD_FRAME command at once is left
out.) -/
def Obligations.SwitchThrowWaitsForTheClearance : Prop :=
  (∀ s : State, s.loaded = true →
    (s.stu.wanted = none → exec .switchThrow s = .next s) ∧
    ∀ (r : Route) (e : End), s.stu.wanted = some r → (r = .line ∧ e = .a ∨ r = .store ∧ e = .b) →
      (let d := s.dru.switch
       let clear := ∀ x, s.stu.lastArr = some x → (s.pfs.working.switchClear : Int) ≤ distance s.rmu.rd x
       (d.state = atEnd e ∨ d.state = toEnd e →
         exec .switchThrow s = .next { s with stu := { s.stu with throwPending := false } }) ∧
       (d.state ≠ atEnd e → d.state ≠ toEnd e →
         (clear → exec .switchThrow s = .next { s.commanded .switch e with
           stu := { s.stu with throwPending := d.state == .fault || (d.state == .unknown && e == .b) } }) ∧
         (¬clear → exec .switchThrow s = .next { s with stu := { s.stu with throwPending := true } })))) ∧
  ∀ s t : State, step s = .next t → t.ssv.mode ≠ .off → (∀ l rest, s.pending ≠ .badFrame l :: rest) →
    (s.placed → routeComputed s t →
      ∃ r, t.stu.wanted = some r ∧ throwCompared r (t.clearAt t.rmu.rd) s t) ∧
    ∀ e : End, strokeBegun .switch e s t → t.clearAt t.rmu.rd = true ∧
      ((∃ r, t.stu.wanted = some r ∧ r.wantedEnd = e ∧ (s.routeKept → t.ssv.mode = .run)) ∨
        s.ssv.mode = .service ∧
          (s.takes 0x0B [if e = .a then 0 else 1] ∨ s.takes 0x0E (testBody .switch e)))

/-! ### Drives (chapter 4) -/

/-- A change of one filtered end input of a channel. Both ends active make any state FAULT; the active end of a channel
at rest going inactive makes it FAULT, with GATE_UNSAFE for the GATE in AT_A and DRIVE_FAULT otherwise; a target end
becoming active, or an end found in UNKNOWN, brings a channel without a door task to rest there; any other change leaves
the state. (The last two leave out a step in which a launch is decided, which starts the GATE at once.) The one
DRIVE_EVENT of the channel carries COMPLETED at a target end, FOUND_END out of UNKNOWN, END_LOST or BOTH_ENDS, with its
peak current and retry count; any other change sends none. The RELEASE reaching END_B puts a release in flight into
phase WAITING with the standing RD as its completion RD; a RELEASE that becomes FAULT ends one in phase OPENING; nothing
else here changes it. A channel that becomes FAULT by a lost end or by both ends fails its door task, with UNKNOWN and
DOOR_OPEN_FAIL, or DOOR_CLOSE_FAIL, and the GATE gives up a launch in phase OPENING (both ends in REVERSING and
RETURNING is log entry 41, a channel in FAULT already log entry 14); a target end reached by a door task is
DoorTasksActAtTheirEnds', and otherwise task, doors and a launch in flight stay. -/
def Obligations.EndInputTakesTheChannelState : Prop :=
  ∀ (s : State) (ch : Channel) (e : End) (level : Bool), s.loaded = true → (s.dru.get ch).endLevel e = !level →
    ∃ t, exec (.endInputChange ch e level) s = .next t ∧
      (let d := s.dru.get ch
       let new := t.dru.get ch
       let other := d.endLevel (if e = .a then .b else .a)
       new.endLevel e = level ∧ new.endLevel (if e = .a then .b else .a) = other ∧
       (level = true → other = true → new.state = .fault ∧
         (d.state ≠ .fault → new.strokeStart = none ∧ new.run = 0 ∧ (t.cause .driveFault).latched = true)) ∧
       (level = false → d.state = atEnd e → new.state = .fault ∧ new.strokeStart = none ∧
         (if ch = .gate ∧ e = .a then (t.cause .gateUnsafe).latched = true
          else (t.cause .driveFault).latched = true)) ∧
       (level = true → other = false → d.state = toEnd e ∨ d.state = .unknown → d.task = none →
         t.lnu.flight = s.lnu.flight → new.state = atEnd e ∧ new.strokeStart = none ∧ new.run = 0) ∧
       (d.state ≠ atEnd e ∨ level = true → other = false ∨ level = false →
         ¬(level = true ∧ (d.state = toEnd e ∨ d.state = .unknown)) → t.lnu.flight = s.lnu.flight →
         new.state = d.state ∧ new.strokeStart = d.strokeStart ∧ new.run = d.run) ∧
       (let reports := fun (st : DriveState) (why : DriveReason) =>
          sends (Notice.ofDrive ch) [.driveEvent ch st why d.peak d.retry] s t
        if level = true ∧ other = true ∧ d.state ≠ .fault then reports .fault .bothEnds
        else if level = false ∧ d.state = atEnd e then reports .fault .endLost
        else if level = true ∧ other = false ∧ d.state = toEnd e then reports (atEnd e) .completed
        else if level = true ∧ other = false ∧ d.state = .unknown then reports (atEnd e) .foundEnd
        else sends (Notice.ofDrive ch) [] s t) ∧
       (level = true ∧ other = true ∧ d.state ≠ .fault ∨ level = false ∧ d.state = atEnd e → channelFails ch s t) ∧
       (level = true ∧ other = true ∧ d.state = .fault ∨
         (d.state ≠ atEnd e ∨ level = true) ∧ (other = false ∨ level = false) ∧ ¬(level = true ∧ d.state = toEnd e) →
         doorsStay ch s t ∧ flightStays s t) ∧
       (level = true → other = false → d.state = toEnd e → flightStays s t) ∧
       (∀ r, s.stu.release = some r → t.stu.release =
         if ch = .release ∧ r.completion = none ∧ d.state ≠ .fault ∧
             (level = true ∧ other = true ∨ level = false ∧ d.state = atEnd e) then none
         else if ch = .release ∧ r.completion = none ∧ e = .b ∧ level = true ∧ other = false ∧ d.state = .toB then
           some { r with completion := some s.rmu.rd }
         else some r) ∧
       (s.stu.release = none → t.stu.release = none)) ∧
      (∀ k, k ≠ ch → k ≠ .gate → t.dru.get k = s.dru.get k) ∧ t.stu.inputs = s.stu.inputs ∧
      t.stu.lastArr = s.stu.lastArr ∧ t.stu.latch = s.stu.latch ∧
      sameBut ([.cabins, .track, .doors, .release] ++ Block.settled) s t

/-- The door tasks at the ends of their strokes: reaching END_B writes OPEN, or CLOSED over all but LOCKED, to the cabin
that is located STATION, and the channel returns; to a cabin that is no longer located STATION nothing is written; the
task ends at END_A. A closer stroke that was reversed pauses at END_A while DOOR_RETRIES is not reached, and has failed
when it is. In any other phase the task stands. Each end reached sends DRIVE_EVENT with COMPLETED. (Its failures by a
lost end and by both ends are EndInputTakesTheChannelState's, by an obstruction CurrentSampleSupervisesTheStroke's, by
the timer DriveTimersExpire's.) -/
def Obligations.DoorTasksActAtTheirEnds : Prop :=
  ∀ (s : State) (ch : Channel) (k : DoorTask) (e : End), s.loaded = true → ch = .opener ∨ ch = .closer →
    (s.dru.get ch).task = some k → (s.dru.get ch).state = toEnd e → (s.dru.get ch).endA.level = false →
    (s.dru.get ch).endB.level = false →
    ∃ t, exec (.endInputChange ch e true) s = .next t ∧
      (e = .b → k.phase = (if ch = .opener then .opening else .closing) →
        (t.dru.get ch).state = .toA ∧ (t.dru.get ch).task = some { k with phase := .returning } ∧
        (t.dru.get ch).strokeStart = some s.clock.ms ∧ (t.dru.get ch).retry = (s.dru.get ch).retry ∧
        ∀ c, k.cabin = some c → (s.cab c).location = .station → t.cab c = { s.cab c with door :=
          if ch = .opener then .opened else if (s.cab c).door = .locked then .locked else .closed }) ∧
      sends (Notice.ofDrive ch) [.driveEvent ch (atEnd e) .completed (s.dru.get ch).peak (s.dru.get ch).retry] s t ∧
      (e = .a → (t.dru.get ch).state = .atA ∧ (t.dru.get ch).strokeStart = none) ∧
      (e = .a → k.phase = .returning → (t.dru.get ch).task = none ∧ t.cabins = s.cabins) ∧
      (e = .a → ch = .closer → k.phase = .reversing → t.cabins = s.cabins ∧
        (if s.dru.closer.retry < s.pfs.working.doorRetries then
           (t.dru.get ch).task = some { k with phase := .pause s.clock.ms } ∧
             t.cause .doorCloseFail = s.cause .doorCloseFail
         else (t.dru.get ch).task = none ∧ (t.cause .doorCloseFail).latched = true)) ∧
      (¬(e = .b ∧ k.phase = (if ch = .opener then .opening else .closing)) → ¬(e = .a ∧ k.phase = .returning) →
        ¬(e = .a ∧ ch = .closer ∧ k.phase = .reversing) → doorsStay ch s t ∧ (t.dru.get ch).state = atEnd e) ∧
      (∀ c, k.cabin ≠ some c ∨ (s.cab c).location ≠ .station → t.cab c = s.cab c) ∧ flightStays s t ∧
      sameBut ([.cabins, .doors] ++ Block.settled) s t

/-- A stroke that has lasted STROKE_TIME ends in FAULT with DRIVE_FAULT latched and a DRIVE_EVENT with TIMEOUT. Its task
fails: the opener's in OPENING writes UNKNOWN and raises DOOR_OPEN_FAIL, the closer's in CLOSING or REVERSING raises
DOOR_CLOSE_FAIL, one in RETURNING ends without either, a release in OPENING and a launch in OPENING are given up, and
everything of another phase stays. A closer's pause that has lasted RETRY_PAUSE, in RUN with the reach distance at most
CLOSER_REACH, ends in a closing stroke with the retry count 1 higher; otherwise the task has failed. -/
def Obligations.DriveTimersExpire : Prop :=
  (∀ (s : State) (ch : Channel) (x : Word32), s.loaded = true → (s.dru.get ch).state = .toA ∨ (s.dru.get ch).state = .toB →
     (s.dru.get ch).strokeStart = some x → s.pfs.working.strokeTime.get ch ≤ (s.clock.ms - x).toNat →
     ∃ t, exec (.strokeTimeout ch) s = .next t ∧
       (t.dru.get ch).state = .fault ∧ (t.dru.get ch).strokeStart = none ∧ (t.dru.get ch).run = 0 ∧
       (t.dru.get ch).peak = (s.dru.get ch).peak ∧ (t.cause .driveFault).latched = true ∧
       (t.cause .driveFault).last = .channel ch ∧ channelFails ch s t ∧
       sends (Notice.ofDrive ch) [.driveEvent ch .fault .timeout (s.dru.get ch).peak (s.dru.get ch).retry] s t ∧
       (∀ k, k ≠ ch → k ≠ .gate → t.dru.get k = s.dru.get k) ∧
       sameBut ([.cabins, .track, .doors, .release] ++ Block.settled) s t) ∧
  (∀ (s : State) (k : DoorTask) (x : Word32), s.loaded = true → s.dru.closer.task = some k → k.phase = .pause x →
     s.pfs.working.retryPause ≤ (s.clock.ms - x).toNat → s.dru.closer.state = .atA →
     ∃ t, exec .retryPauseExpiry s = .next t ∧
       (if s.ssv.mode = .run ∧ distance s.rmu.rd k.reach ≤ (s.pfs.working.closerReach : Int) then
          t.dru.closer = { s.dru.closer with
            state := .toB
            strokeStart := some s.clock.ms
            run := 0
            peak := 0
            retry := s.dru.closer.retry + 1
            task := some { k with phase := .closing } } ∧
          t.cause .doorCloseFail = s.cause .doorCloseFail
        else t.dru.closer = { s.dru.closer with task := none } ∧ (t.cause .doorCloseFail).latched = true) ∧
       t.dru.opener = s.dru.opener ∧ sameBut (.doors :: Block.settled) s t)

/-- A current sample of a channel becomes its latest current in mA, sample × CUR_SCALE / 4096. At rest nothing else
changes. During a stroke the peak is kept up; a sample below I_LIMIT ends the run, one at or above it lengthens it; the
sample that brings the run to I_SAMPLES stops the channel BLOCKED with DRIVE_FAULT and a DRIVE_EVENT with OBSTRUCTION:
the opener's task fails with UNKNOWN and DOOR_OPEN_FAIL, the closer's in REVERSING with DOOR_CLOSE_FAIL, one in
RETURNING ends, a release and a launch in phase OPENING are given up. The CLOSER on its way to END_B is reversed
instead, with REVERSAL as the reason, its task REVERSING, and DOOR_REVERSAL counted, with TALLY_OVERFLOW from a counter
that wraps with notify on. Without an obstruction tasks, doors, release and launch stay, and no DRIVE_EVENT is sent. -/
def Obligations.CurrentSampleSupervisesTheStroke : Prop :=
  ∀ (s : State) (ch : Channel) (n : Sample), s.loaded = true → s.ssv.mode ≠ .off →
    ∃ t, exec (.currentSample ch n) s = .next t ∧
      (let d := s.dru.get ch
       let new := t.dru.get ch
       let mA := n.toNat * s.pfs.working.curScale / 4096
       let limit := s.pfs.working.iLimit.get ch
       t.asc = s.asc.set (match ch with | .opener => 2 | .closer => 3 | .switch => 4 | .release => 5 | .gate => 6) n
         (by cases ch <;> decide) ∧
       new.latest = mA ∧
       (d.moving = false → t.lnu.flight = s.lnu.flight → new = { d with latest := mA }) ∧
       (d.moving = true → new.peak = (if d.peak < mA then mA else d.peak)) ∧
       (d.moving = true → mA < limit → new = { d with latest := mA, peak := new.peak, run := 0 }) ∧
       (d.moving = true → limit ≤ mA → d.run + 1 < s.pfs.working.iSamples →
         new = { d with latest := mA, peak := new.peak, run := d.run + 1 }) ∧
       (d.moving = true → limit ≤ mA → s.pfs.working.iSamples ≤ d.run + 1 →
         new.run = 0 ∧
         (if ch = .closer ∧ d.state = .toB then
            new.state = .toA ∧ new.strokeStart = some s.clock.ms ∧ t.cabins = s.cabins ∧
              new.task = d.task.map (fun k => { k with phase := .reversing }) ∧
              t.cause .driveFault = s.cause .driveFault ∧ t.stu.release = s.stu.release ∧ flightStays s t ∧
              tallied [.doorReversal] s t ∧
              sends (Notice.ofDrive ch) [.driveEvent ch .toA .reversal new.peak d.retry] s t
          else new.state = .blocked ∧ new.strokeStart = none ∧ (t.cause .driveFault).latched = true ∧
            (t.cause .driveFault).last = .channel ch ∧ channelFails ch s t ∧ t.tal = s.tal ∧
            sends (Notice.ofDrive ch) [.driveEvent ch .blocked .obstruction new.peak d.retry] s t)) ∧
       (d.moving = false ∨ mA < limit ∨ d.run + 1 < s.pfs.working.iSamples →
         doorsStay ch s t ∧ t.stu.release = s.stu.release ∧ flightStays s t ∧ t.tal = s.tal ∧
           sends (Notice.ofDrive ch) [] s t)) ∧
      (∀ k, k ≠ ch → k ≠ .gate → t.dru.get k = s.dru.get k) ∧ t.rmu = s.rmu ∧
      sameBut ([.analog, .cabins, .track, .doors, .release, .tally] ++ Block.settled) s t

/-! ### Line link, line tracking and line records (chapters 6 to 8) -/

/-- An own line cycle carries the sync word, the control word of the standing sources, the voice of the connected
channels, the message slots, tower number 0 and the check; its number goes on by 1. Under the far pause, before the
profile load, or with nothing to send the slots are empty. Otherwise they carry the next bytes of the record in
progress, or of the one chosen, the priority slot before the queue head, the last byte with the end flag; then the
record leaves its place and counts as sent, in the tally as RECORD_TX (with TALLY_OVERFLOW from a counter that wraps
with notify on), and the next one begins in slot 5 where slot 4 had the last byte. A census request that waits is placed
in the freed slot at this event, unless the command taken next is a host's priority text that will fill the slot (that
only such a text counts as taken together with the event is the model's choice, log entry 24). The cycle numbered 0 ages
the towers; outside LOCKED the connected channels take a bad-cycle mark. -/
def Obligations.OwnCycleCarriesTheSources : Prop :=
  ∀ s : State, s.ssv.mode ≠ .off →
    ∃ t, exec .lineCycleTransmit s = .next t ∧ t.lkc.ownNext = s.lkc.ownNext + 1 ∧
      (let c := t.lkc.txCycle
       let w := c.control
       c.sync = 0xB4E2 ∧ ctlNumber w = s.lkc.ownNext ∧ ctlPermit w = s.ssv.lines.permit ∧
       ctlStop w = (if s.ssv.demand = .emergency then 2 else if s.ssv.demand = .service then 1 else 0) ∧
       ctlPause w = s.lkc.chan.ownPause ∧ ctlCodeA w = s.phn.a.state.sentCode.field ∧
       ctlCodeB w = s.phn.b.state.sentCode.field ∧
       ctlMode w = (if s.ssv.mode = .run then 2 else if s.ssv.mode = .service then 1 else 0) ∧
       c.voiceA = (if s.phn.a.state = .connected then s.phn.a.portIn else 0) ∧
       c.voiceB = (if s.phn.b.state = .connected then s.phn.b.portIn else 0) ∧ c.tower = 0 ∧ c.check = cycleCheck c ∧
       (s.loaded = false ∨ s.applied.pause = true ∨
           s.lkc.chan.progress = none ∧ s.lkc.chan.priority = none ∧ s.lkc.chan.queue = [] →
         c.msg4 = 0 ∧ c.msg5 = 0 ∧ t.lkc.chan = { s.lkc.chan with reserved := t.lkc.chan.reserved } ∧ t.tal = s.tal) ∧
       (∀ p r, s.loaded = true → s.applied.pause = false →
         s.lkc.chan.progress = some p ∨
           s.lkc.chan.progress = none ∧ p = { fromPriority := s.lkc.chan.priority.isSome, sent := 0 } →
         (if p.fromPriority then s.lkc.chan.priority else s.lkc.chan.queue.head?) = some r →
         (let bytes := BitVec.ofNat 8 r.kind.code :: BitVec.ofNat 8 r.body.length :: r.body
          let queue := if p.fromPriority then s.lkc.chan.queue else s.lkc.chan.queue.drop 1
          let left := if p.fromPriority then none else s.lkc.chan.priority
          let textNext := ∃ tag text rest, s.pending = .sendPriorityText tag text :: rest ∧ s.spt.stopped = false ∧
            s.spt.replies.length < 4 ∧ 1 ≤ text.length ∧ text.length ≤ 15
          let asks := left = none ∧ (∃ w, s.ltu.wait = some w ∧ w.placed = false) ∧ ¬textNext
          let asked : TxRecord := { kind := .censusRequest, body := [], origin := .part }
          let gone := t.lkc.chan.queue = queue ∧
            (asks → t.lkc.chan.priority = some asked ∧
              t.ltu.wait = s.ltu.wait.map fun w => { w with placed := true }) ∧
            (¬asks → t.lkc.chan.priority = left ∧ t.ltu.wait = s.ltu.wait) ∧
            t.lkc.chan.sent = (if s.lkc.chan.sent < 65535 then s.lkc.chan.sent + 1 else s.lkc.chan.sent) ∧
            tallied [.recordTx] s t
          (p.sent + 2 < bytes.length →
            c.msg4 = slotOf (bytes.getD p.sent 0) false ∧ c.msg5 = slotOf (bytes.getD (p.sent + 1) 0) false ∧
            t.lkc.chan = { s.lkc.chan with
              progress := some { p with sent := p.sent + 2 }
              reserved := t.lkc.chan.reserved } ∧ t.tal = s.tal) ∧
          (p.sent + 2 = bytes.length →
            c.msg4 = slotOf (bytes.getD p.sent 0) false ∧ c.msg5 = slotOf (bytes.getD (p.sent + 1) 0) true ∧
            t.lkc.chan.progress = none ∧ gone) ∧
          (p.sent + 1 = bytes.length →
            c.msg4 = slotOf (bytes.getD p.sent 0) true ∧ gone ∧
            (match t.lkc.chan.priority, queue with
             | some next, _ => c.msg5 = slotOf (BitVec.ofNat 8 next.kind.code) false ∧
                 t.lkc.chan.progress = some { fromPriority := true, sent := 1 }
             | none, next :: _ => c.msg5 = slotOf (BitVec.ofNat 8 next.kind.code) false ∧
                 t.lkc.chan.progress = some { fromPriority := false, sent := 1 }
             | none, [] => c.msg5 = 0 ∧ t.lkc.chan.progress = none))))) ∧
      (s.loaded = true → s.lkc.ownNext = 0 →
        t.lkc.towers = { s.lkc.towers with entries := s.lkc.towers.entries.map fun e =>
          let age := if e.age < 65535 then e.age + 1 else e.age
          if e.state ≠ .sensorFault ∧ s.pfs.working.towerStale < age then
            { state := .sensorFault, age := age, run := 0, changeRd := some s.rmu.rd }
          else { e with age := age } }) ∧
      (s.loaded = false ∨ s.lkc.ownNext ≠ 0 → t.lkc.towers = s.lkc.towers) ∧
      (s.lkc.rx.sync = .locked → t.phn = s.phn) ∧
      (∀ ch, s.lkc.rx.sync ≠ .locked → t.call ch =
        if (s.call ch).state = .connected then
          (if (s.call ch).holdCount < 4 then
            { s.call ch with output := (s.call ch).held, holdCount := (s.call ch).holdCount + 1 }
           else { s.call ch with output := 0 })
        else s.call ch) ∧
      t.lkc.chan.assembly = s.lkc.chan.assembly ∧ t.lkc.chan.texts = s.lkc.chan.texts ∧
      t.lkc.chan.ownPause = s.lkc.chan.ownPause ∧ t.lkc.chan.received = s.lkc.chan.received ∧
      t.lkc.chan.discarded = s.lkc.chan.discarded ∧ t.lkc.chan.dropped = s.lkc.chan.dropped ∧
      sameBut ([.cycles, .channel, .phone, .towers, .line, .tally] ++ Block.settled) s t

/-- A tower whose age exceeds TOWER_STALE is found stale: SENSOR_FAULT with run 0 and the standing RD as its change RD.
TOWER_SILENT is active with it, and the other two conditions are those of the table it leaves. -/
def Obligations.StaleTowerIsSilent : Prop :=
  ∀ (s : State) (i : Fin 40) (e : TowerEntry), s.loaded = true → s.lkc.towers.entries[i.val]? = some e →
    e.state ≠ .sensorFault → s.pfs.working.towerStale < e.age →
    ∃ t, exec (.towerStale i) s = .next t ∧
      t.lkc.towers = { s.lkc.towers with
        entries := s.lkc.towers.entries.set i.val ⟨.sensorFault, e.age, 0, some s.rmu.rd⟩ } ∧
      t.active .towerSilent = true ∧
      t.active .ropePosition = t.lkc.towers.entries.any (fun x =>
        (x.state == .inboard || x.state == .outboard) && decide (s.pfs.working.towerDwell ≤ x.run)) ∧
      t.active .ropeDerail = t.lkc.towers.entries.any (fun x => x.state == .derailed && decide (2 ≤ x.run)) ∧
      sameBut (.towers :: Block.settled) s t

/-- A census request that waits takes the priority slot as soon as the slot is free, and stays waiting while it is
not. A census wait that has lasted CENSUS_WAIT ends EXPIRED with CENSUS_MISMATCH raised; it moves no cabin and leaves
the due flag as it is. (That the placement command is without effect while the slot is taken is the model's choice,
log entry 7.) -/
def Obligations.CensusRequestIsPlacedAndExpires : Prop :=
  ∀ (s : State) (w : CensusWait), s.loaded = true → s.ltu.wait = some w →
    (w.placed = false → s.lkc.chan.priority = none → exec .censusRequestPlacement s = .next { s with
      ltu := { s.ltu with wait := some { w with placed := true } },
      lkc := { s.lkc with chan := { s.lkc.chan with
        priority := some { kind := .censusRequest, body := [], origin := .part } } } }) ∧
    (w.placed = true ∨ s.lkc.chan.priority.isSome → exec .censusRequestPlacement s = .next s) ∧
    (s.pfs.working.censusWait ≤ (s.clock.ms - w.start).toNat → ∃ t, exec .censusWaitExpiry s = .next t ∧
      t.ltu.wait = none ∧ t.ltu.lastEnd = some { outcome := .expired, ms := s.clock.ms } ∧
      t.ltu.censusDue = s.ltu.censusDue ∧ (t.cause .censusMismatch).latched = true ∧
      sameBut (.line :: Block.settled) s t)

/-- The way to LOCKED, by whichever of the four commands brings the bits (the model's choice, log entry 9). In HUNT
every position of the bits held is tried in turn: the first candidate that is sound, with sync word, check and no code
violation, gives CONFIRM with a count of 1 and leaves the bits behind it; with none, the last 127 bits are kept to be
searched. In CONFIRM the cycle at the boundary counts when it is sound, and otherwise gives HUNT from the bit behind its
first. The fourth sound cycle gives LOCKED, with the expected number one above the cycle's, its control word held, one
relock more, a LINK_STATE notice with it, LINK_LOST inactive, SUMMIT_NOT_READY as its run permit says, and a due census
asked. Its call codes reach the call channels: the code applied before is that of the held word, and IDLE under LINK_LOST;
a change to a defined code that is not the effective far code moves the call, so that a summit still seizing a channel
that is IDLE rings it, with a CALL_EVENT at a change of state; then a connected channel takes the cycle's voice sample.
(That code comes before sample is the model's choice, log entry 37, and that the loss of the link leaves the effective far
code of an IDLE channel as it was is log entry 45.) The other cycles send no LINK_STATE. Nothing is counted in the tally,
with no record in assembly before it. -/
def Obligations.FourSoundCyclesLockTheReceiver : Prop :=
  ∀ (s : State) (c : Instr) (bits : List RxBit), s.loaded = true →
    c = .syncCandidate bits ∨ c = .confirmCycle bits ∨ c = .goodCycle bits ∨ c = .badCycle bits →
    (let held := s.lkc.rx.bits ++ bits
     let sound : List RxBit → Prop := fun l =>
       let x := RxCycle.ofBits l
       x.slots.sync = 0xB4E2 ∧ x.slots.check = cycleCheck x.slots ∧ x.violation = false
     let rx := fun (r : LinkRx) => Host.Outcome.next { s with lkc := { s.lkc with rx := r } }
     (s.lkc.rx.sync = .hunt →
       ((∀ i, i + 128 ≤ held.length → ¬sound (held.drop i)) →
         exec c s = rx { s.lkc.rx with bits := held.drop (held.length - 127) }) ∧
       (∀ i, i + 128 ≤ held.length → held.length < i + 256 → sound (held.drop i) →
         (∀ j, j < i → ¬sound (held.drop j)) →
         exec c s = rx { s.lkc.rx with
           sync := .confirm
           confirm := 1
           bits := held.drop (i + 128)
           boundary := s.clock.timebase })) ∧
     (s.lkc.rx.sync = .confirm → held.length < 128 → exec c s = rx { s.lkc.rx with bits := held }) ∧
     (s.lkc.rx.sync = .confirm → held.length = 128 → ∃ t, exec c s = .next t ∧
       (let x := RxCycle.ofBits held
        (¬sound held →
          t.lkc.rx = { s.lkc.rx with sync := .hunt, confirm := 0, bits := held.drop 1 } ∧
          sends (Notice.ofKind 0xC6) [] s t ∧ sameBut (.receiver :: Block.settled) s t) ∧
        (sound held → s.lkc.rx.confirm < 3 →
          t.lkc.rx = { s.lkc.rx with
            confirm := s.lkc.rx.confirm + 1
            bits := []
            boundary := s.clock.timebase } ∧
          sends (Notice.ofKind 0xC6) [] s t ∧ sameBut (.receiver :: Block.settled) s t) ∧
        (sound held → 3 ≤ s.lkc.rx.confirm →
          t.lkc.rx = { s.lkc.rx with
            sync := .locked
            confirm := 0
            expected := some (ctlNumber x.slots.control + 1)
            badRun := 0
            relocks := if s.lkc.rx.relocks < 65535 then s.lkc.rx.relocks + 1 else s.lkc.rx.relocks
            outOfLock := none
            held := some x.slots.control
            bits := []
            boundary := s.clock.timebase } ∧
          t.active .linkLost = false ∧ t.active .summitNotReady = !(ctlPermit x.slots.control) ∧
          sends (Notice.ofKind 0xC6) [.linkState .locked false t.lkc.rx.relocks] s t ∧
          (s.ltu.censusDue = true → t.ltu.censusDue = false ∧
            t.ltu.wait = some { start := s.clock.ms, placed := s.lkc.chan.priority.isNone }) ∧
          (let applied := fun (f : Word16 → BitVec 3) =>
             if s.active .linkLost = true then 0 else (s.lkc.rx.held.map f).getD 0
           let moved : CallChannel → CallRecord := fun ch =>
             match ch with
             | .a => (s.call .a).onCode s.clock.ms (applied ctlCodeA) (ctlCodeA x.slots.control)
             | .b => (s.call .b).onCode s.clock.ms (applied ctlCodeB) (ctlCodeB x.slots.control)
           ∀ ch, t.call ch = (moved ch).onVoice (match ch with | .a => x.slots.voiceA | .b => x.slots.voiceB) ∧
             sends (Notice.ofCall ch)
               (if (moved ch).state = (s.call ch).state then []
                else (moved ch).last.toList.map (.callEvent ch (moved ch).state (moved ch).origin ·)) s t) ∧
          (s.lkc.chan.assembly = none → t.tal = s.tal) ∧
          sameBut ([.receiver, .cabins, .lists, .line, .channel, .towers, .phone, .tally] ++ Block.settled) s t))))

/-- A cycle taken in LOCKED at the boundary, by whichever command brings its last bits (the model's choice, log entry
9), is good when it is sound and carries the expected number: then its control word is held, the far-end causes follow
it, its tower word reaches the tower table (an undefined position state is counted and leaves the table; a number out of
range is counted so whatever the state is: the model's choice, log entry 44), and without a message byte no cabin moves.
Its message bytes join the record being assembled while the store has room, and the own pause is evaluated at each of
them, and again where the record ends. A record that ends is discarded when damaged, and with LINE_RECORD_BAD when it is
too long or spells none of ARRIVED, DEPARTED, CENSUS and TEXT; otherwise it is received, and counted as RECORD_RX, with
TALLY_OVERFLOW from a counter that wraps with notify on. ARRIVED takes an UP_LINE, UNPLACED or LOST cabin to the summit
list's tail, DEPARTED such a one or a SUMMIT one to the down-line list's, with the standing RD as stamp, and FOUND for a
LOST one; SUMMIT_ORDER and EARLY are raised by their checks, and any other cabin or number is a conflict. CENSUS brings
the listed cabins to the summit list, with FOUND too, and its unlisted ones to the down-line list, and ends a census
wait; TEXT joins the held texts, with one LINE_TEXT_READY of its length and their number. A byte that finds the store
full or the record 50 bytes long is dropped. -/
def Obligations.GoodCycleIsApplied : Prop :=
  ∀ (s : State) (c : Instr) (bits : List RxBit) (x : RxCycle), s.loaded = true →
    c = .goodCycle bits ∨ c = .badCycle bits ∨ c = .syncCandidate bits ∨ c = .confirmCycle bits →
    (s.lkc.rx.bits ++ bits).length = 128 → x = RxCycle.ofBits (s.lkc.rx.bits ++ bits) →
    s.lkc.rx.sync = .locked → x.slots.sync = 0xB4E2 → x.slots.check = cycleCheck x.slots → x.violation = false →
    s.lkc.rx.expected = some (ctlNumber x.slots.control) →
    ∃ t, exec c s = .next t ∧
      t.lkc.rx = { s.lkc.rx with
        expected := some (ctlNumber x.slots.control + 1)
        badRun := 0
        held := some x.slots.control
        bits := []
        boundary := s.clock.timebase } ∧
      (s.active .linkLost = false →
        t.active .summitStopEmg = (ctlStop x.slots.control == 2 || ctlStop x.slots.control == 3) ∧
        t.active .summitStopSvc = (ctlStop x.slots.control == 1) ∧
        t.active .summitNotReady = !(ctlPermit x.slots.control)) ∧
      (let n := (x.slots.tower.extractLsb' 10 6).toNat
       (n = 0 → t.lkc.towers = s.lkc.towers) ∧
       (s.lkc.towers.entries.length < n → t.lkc.towers = { s.lkc.towers with
         outOfRange := if s.lkc.towers.outOfRange < 65535 then s.lkc.towers.outOfRange + 1
           else s.lkc.towers.outOfRange }) ∧
       (∀ e st, 1 ≤ n → s.lkc.towers.entries[n - 1]? = some e → towerState x.slots.tower = some st →
         (let report : TowerEntry :=
            if e.state = st then { e with age := 0, run := if e.run < 65535 then e.run + 1 else e.run }
            else ⟨st, 0, 1, some s.rmu.rd⟩
          t.lkc.towers = { s.lkc.towers with entries := s.lkc.towers.entries.set (n - 1) report })) ∧
       (1 ≤ n → n ≤ s.lkc.towers.entries.length → towerState x.slots.tower = none →
         t.lkc.towers = { s.lkc.towers with
           invalidState := if s.lkc.towers.invalidState < 65535 then s.lkc.towers.invalidState + 1
             else s.lkc.towers.invalidState })) ∧
      (slotPresent x.slots.msg4 = false → slotPresent x.slots.msg5 = false →
        sameBut ([.receiver, .towers, .phone] ++ Block.settled) s t) ∧
      sameBut ([.receiver, .cabins, .lists, .line, .channel, .towers, .phone, .tally] ++ Block.settled) s t ∧
      (let w4 := x.slots.msg4
       let w5 := x.slots.msg5
       let r := s.lkc.chan
       let new := (if slotPresent w4 then [slotByte w4] else []) ++ (if slotPresent w5 then [slotByte w5] else [])
       let ends := if slotPresent w5 then slotEnd w5 else slotPresent w4 && slotEnd w4
       let a := r.assembly.getD { bytes := [], damaged := false, tooLong := false }
       let whole := a.bytes ++ new
       let one := new ≠ [] ∧ ¬(slotPresent w4 = true ∧ slotEnd w4 = true ∧ slotPresent w5 = true)
       let room := one ∧ r.fill + new.length ≤ 64 ∧ whole.length ≤ 50
       let named : Byte → Cabin → Prop := fun n k => n.toNat = k.val + 1 ∧ (s.cab k).registered = true
       let spells : Prop := (∃ n, whole = [0x21, 1, n] ∨ whole = [0x22, 1, n]) ∨
         (∃ n k l, whole = 0x32 :: n :: k :: l ∧ n.toNat = l.length + 1 ∧ k.toNat = l.length ∧ l.length ≤ 24) ∨
         ∃ n l, whole = 0x41 :: n :: l ∧ n.toNat = l.length ∧ 1 ≤ l.length ∧ l.length ≤ 48
       let inc := fun (n : Nat) => if n < 65535 then n + 1 else n
       let still := t.cabins = s.cabins ∧ t.lists.station = s.lists.station ∧ t.lists.storage = s.lists.storage ∧
         t.lists.upLine = s.lists.upLine ∧ t.lists.summit = s.lists.summit ∧ t.lists.downLine = s.lists.downLine
       let kept := t.lkc.chan.texts = r.texts ∧ t.lkc.chan.received = r.received
       let taken := room ∧ ends = true ∧ a.damaged = false ∧ a.tooLong = false
       let found := fun (l : List Cabin) =>
         sends (Notice.ofKind 0xC4) (l.map fun k => .cabinEvent .found k) s t
       let lost := fun (k : Cabin) => (s.cab k).location == .lost
       let appended := if room then new.length else 0
       let pause := (List.range appended).foldl
         (fun p i => pauseAfter r.texts.length (r.fill + i + 1) p) r.ownPause
       let moved : Cabin → Location → Prop := fun k l => t.cab k = { s.cab k with location := l } ∧
         (∀ d, d ≠ k → t.cab d = s.cab d) ∧ t.lists.station = s.lists.station ∧ t.lists.storage = s.lists.storage ∧
         t.lists.upLine = (if (s.cab k).location = .upLine then s.lists.upLine.filter (fun y => y.cabin != k)
           else s.lists.upLine)
       (new = [] ∨ (room ∧ ends = false) ∨ (room ∧ ¬(taken ∧ spells)) → t.tal = s.tal ∧
         sends (Notice.ofKind 0xC7) [] s t) ∧
       (new = [] ∨ room ∨ one ∧ new.length = 1 → t.lkc.chan.ownPause =
         if ends = true then pauseAfter t.lkc.chan.texts.length t.lkc.chan.fill pause else pause) ∧
       (room → ends = false → t.lkc.chan.assembly = some { a with bytes := whole } ∧ still ∧ kept ∧
         t.lkc.chan.discarded = r.discarded ∧ t.lkc.chan.dropped = r.dropped) ∧
       (room → ends = true → a.damaged = true ∨ a.tooLong = true ∨ ¬spells →
         t.lkc.chan.assembly = none ∧ still ∧ kept ∧ t.lkc.chan.discarded = inc r.discarded ∧
         (a.damaged = false → (t.cause .lineRecordBad).latched = true) ∧
         (a.damaged = true → t.cause .lineRecordBad = s.cause .lineRecordBad)) ∧
       (taken → spells → t.lkc.chan.assembly = none ∧ t.lkc.chan.received = inc r.received ∧
         t.lkc.chan.discarded = r.discarded ∧ t.lkc.chan.dropped = r.dropped ∧ tallied [.recordRx] s t ∧
         ((∀ n l, whole ≠ 0x41 :: n :: l) → t.lkc.chan.texts = r.texts ∧ sends (Notice.ofKind 0xC7) [] s t)) ∧
       (∀ n k, taken → whole = [0x21, 1, n] → named n k →
         (s.cab k).location = .upLine ∨ (s.cab k).location = .unplaced ∨ (s.cab k).location = .lost →
         moved k .summit ∧ t.lists.summit = s.lists.summit ++ [{ cabin := k, stamp := s.rmu.rd }] ∧
         t.lists.downLine = s.lists.downLine ∧ found ([k].filter lost) ∧
         ((s.cab k).location = .upLine → s.lists.upLine.head?.map LineEntry.cabin ≠ some k →
           (t.cause .summitOrder).latched = true) ∧
         ∀ y, (s.cab k).location = .upLine → s.lists.upLine.find? (fun y => y.cabin == k) = some y →
           distance s.rmu.rd y.stamp < (s.pfs.working.lineLen : Int) - s.pfs.working.arrTol →
           (t.cause .early).latched = true) ∧
       (∀ n k, taken → whole = [0x22, 1, n] → named n k →
         (s.cab k).location = .summit ∨ (s.cab k).location = .upLine ∨ (s.cab k).location = .unplaced ∨
           (s.cab k).location = .lost →
         moved k .downLine ∧ t.lists.downLine = s.lists.downLine ++ [{ cabin := k, stamp := s.rmu.rd }] ∧
         found ([k].filter lost) ∧
         t.lists.summit = (if (s.cab k).location = .summit then s.lists.summit.filter (fun y => y.cabin != k)
           else s.lists.summit) ∧
         ((s.cab k).location = .upLine → (t.cause .summitOrder).latched = true)) ∧
       (∀ n, taken → whole = [0x21, 1, n] ∨ whole = [0x22, 1, n] →
         (∀ k, named n k → (s.cab k).location = .station ∨ (s.cab k).location = .storage ∨
           (s.cab k).location = .withdrawn ∨ (s.cab k).location = .downLine ∨
           whole = [0x21, 1, n] ∧ (s.cab k).location = .summit) →
         still ∧ (t.cause .lineRecordConflict).latched = true) ∧
       (∀ n k l, taken → s.placed → whole = 0x32 :: n :: k :: l → n.toNat = l.length + 1 → k.toNat = l.length →
         l.length ≤ 24 →
         (let listed := fun (d : Cabin) => l.any fun b => b.toNat == d.val + 1
          let comes := fun (d : Cabin) => (s.cab d).registered && ((s.cab d).location == .upLine ||
            (s.cab d).location == .unplaced || (s.cab d).location == .lost)
          let entry := fun (d : Cabin) => ({ cabin := d, stamp := s.rmu.rd } : LineEntry)
          t.lists.upLine = s.lists.upLine.filter (fun y => !listed y.cabin) ∧
          t.lists.summit = s.lists.summit.filter (fun y => listed y.cabin) ++
            (((l.filterMap fun b => cabinOf b.toNat).filter comes).eraseDups.map entry) ∧
          t.lists.downLine = s.lists.downLine ++
            ((s.lists.summit.filter fun y => !listed y.cabin).map fun y => entry y.cabin) ∧
          t.lists.station = s.lists.station ∧ t.lists.storage = s.lists.storage ∧
          found (((l.filterMap fun b => cabinOf b.toNat).filter fun d => comes d && lost d).eraseDups) ∧
          (∀ d, t.cab d = { s.cab d with location :=
            if (listed d && comes d) then .summit
            else if (s.cab d).location = .summit ∧ (listed d = false) then .downLine else (s.cab d).location }) ∧
          ((∃ y ∈ s.lists.summit, listed y.cabin = false) → (t.cause .censusMismatch).latched = true) ∧
          t.ltu.wait = none ∧ t.ltu.censusDue = s.ltu.censusDue ∧
          t.ltu.lastEnd = (if s.ltu.wait.isSome then some { outcome := .received, ms := s.clock.ms }
            else s.ltu.lastEnd))) ∧
       (∀ n l, taken → whole = 0x41 :: n :: l → n.toNat = l.length → 1 ≤ l.length → l.length ≤ 48 →
         t.lkc.chan.texts = r.texts ++ [l] ∧ still ∧
         sends (Notice.ofKind 0xC7) [.lineTextReady l.length (r.texts.length + 1)] s t) ∧
       (one → new.length = 1 → 64 ≤ r.fill → still ∧ kept ∧ t.tal = s.tal ∧ t.lkc.chan.dropped = inc r.dropped ∧
         (a.damaged = false → (t.cause .lineOverrun).latched = true) ∧
         (a.damaged = true → t.cause .lineOverrun = s.cause .lineOverrun) ∧
         t.lkc.chan.assembly = (if ends then none else some { a with damaged := true })) ∧
       (one → new.length = 1 → r.fill < 64 → 50 ≤ a.bytes.length → still ∧ kept ∧ t.tal = s.tal ∧
         t.lkc.chan.dropped = (if a.damaged then inc r.dropped else r.dropped) ∧
         t.cause .lineOverrun = s.cause .lineOverrun ∧
         t.lkc.chan.assembly = (if ends then none else some { a with tooLong := true })))

/-- Any other cycle taken in LOCKED at the boundary is bad, whichever command brings its last bits (the model's choice,
log entry 9): none of its slots is applied, the expected number goes on, the bad run and the total rise by 1, BAD_CYCLE
is counted in the tally, with TALLY_OVERFLOW from a counter that wraps with notify on, and each connected call channel
takes a bad-cycle mark. The sixteenth in a row gives HUNT from the bit behind its first, with the out-of-lock start at
this moment, a LINK_STATE notice, and the record being assembled discarded, after which the own pause is evaluated. Bits
that complete no cycle are held. -/
def Obligations.BadCycleIsCountedAndUnlocks : Prop :=
  ∀ (s : State) (c : Instr) (bits : List RxBit) (x : RxCycle), s.loaded = true →
    c = .goodCycle bits ∨ c = .badCycle bits ∨ c = .syncCandidate bits ∨ c = .confirmCycle bits →
    s.lkc.rx.sync = .locked → x = RxCycle.ofBits (s.lkc.rx.bits ++ bits) →
    ((s.lkc.rx.bits ++ bits).length < 128 → exec c s = .next { s with lkc := { s.lkc with
      rx := { s.lkc.rx with bits := s.lkc.rx.bits ++ bits } } }) ∧
    ((s.lkc.rx.bits ++ bits).length = 128 →
      ¬(x.slots.sync = 0xB4E2 ∧ x.slots.check = cycleCheck x.slots ∧ x.violation = false ∧
        s.lkc.rx.expected = some (ctlNumber x.slots.control)) →
      ∃ t, exec c s = .next t ∧
        t.lkc.rx.badTotal = (if s.lkc.rx.badTotal < 4294967295 then s.lkc.rx.badTotal + 1 else s.lkc.rx.badTotal) ∧
        t.lkc.rx.held = s.lkc.rx.held ∧ tallied [.badCycle] s t ∧
        (s.lkc.rx.badRun + 1 < 16 → t.lkc.rx = { s.lkc.rx with
          expected := s.lkc.rx.expected.map (· + 1)
          badRun := s.lkc.rx.badRun + 1
          badTotal := t.lkc.rx.badTotal
          bits := []
          boundary := s.clock.timebase } ∧
          sends (Notice.ofKind 0xC6) [] s t ∧ sameBut ([.receiver, .phone, .tally] ++ Block.settled) s t) ∧
        (16 ≤ s.lkc.rx.badRun + 1 → t.lkc.rx = { s.lkc.rx with
          sync := .hunt
          expected := none
          badRun := 0
          badTotal := t.lkc.rx.badTotal
          outOfLock := some s.clock.ms
          bits := (s.lkc.rx.bits ++ bits).drop 1 } ∧ t.lkc.chan.assembly = none ∧ t.active .summitNotReady = false ∧
          sends (Notice.ofKind 0xC6) [.linkState .hunt (s.active .linkLost) s.lkc.rx.relocks] s t ∧
          t.lkc.chan.ownPause = (if s.lkc.chan.assembly = none then s.lkc.chan.ownPause
            else pauseAfter s.lkc.chan.texts.length t.lkc.chan.fill s.lkc.chan.ownPause) ∧
          t.lkc.chan.texts = s.lkc.chan.texts ∧ t.lkc.chan.queue = s.lkc.chan.queue ∧
          sameBut ([.receiver, .channel, .phone, .tally] ++ Block.settled) s t) ∧
        (∀ ch, t.call ch =
          if (s.call ch).state = .connected then
            (if (s.call ch).holdCount < 4 then
              { s.call ch with output := (s.call ch).held, holdCount := (s.call ch).holdCount + 1 }
             else { s.call ch with output := 0 })
          else s.call ch))

/-- When LINK_LOSS_MS have passed since the out-of-lock start, LINK_LOST becomes active and latched, with a LINK_STATE
notice: both calls are in IDLE, with far code IDLE and a CALL_EVENT where they were not there already, an IDLE channel
is unchanged (in its far code too: the model's choice, log entry 45), the census is due and a census wait abandoned, the
summit's causes are inactive, and the lines give SSTOP without PERMIT. -/
def Obligations.LinkLossStopsTheRope : Prop :=
  ∀ (s : State) (x : Word32), s.loaded = true → s.stopsFollow → s.lkc.rx.outOfLock = some x →
    s.active .linkLost = false → s.pfs.working.linkLossMs ≤ (s.clock.ms - x).toNat →
    ∃ t, exec .linkLossExpiry s = .next t ∧
      t.active .linkLost = true ∧ (t.cause .linkLost).latched = true ∧ t.active .summitStopEmg = false ∧
      t.active .summitStopSvc = false ∧ t.active .summitNotReady = (s.lkc.rx.sync == .locked) ∧
      t.ssv.lines.sstop = true ∧ t.ssv.lines.permit = false ∧
      (t.ssv.demand = .service ∨ t.ssv.demand = .emergency) ∧
      (∀ ch, (t.call ch).state = .idle ∧ ((s.call ch).state = .idle → t.call ch = s.call ch) ∧
        ((s.call ch).state ≠ .idle → (t.call ch).farCode = .idle ∧ (t.call ch).last = some .linkLost ∧
          (t.call ch).timer = none ∧ (t.call ch).origin = none)) ∧
      sends (Notice.ofKind 0xC6) [.linkState s.lkc.rx.sync true s.lkc.rx.relocks] s t ∧
      (∀ ch, sends (Notice.ofCall ch)
        (if (s.call ch).state = .idle then [] else [.callEvent ch .idle none .linkLost]) s t) ∧
      t.ltu.censusDue = true ∧ t.ltu.wait = none ∧
      (s.ltu.wait.isSome → t.ltu.lastEnd = some { outcome := .abandoned, ms := s.clock.ms }) ∧
      sameBut ([.phone, .line] ++ Block.settled) s t

/-! ### Line telephone (chapter 9) -/

/-- The events of a call beside the host's requests. A good cycle in LOCKED with LINK_LOST inactive brings each channel
its far code and its voice sample: an undefined code is counted, an unchanged code and one equal to the effective far
code are no event, and any other becomes the effective far code and moves the call by its state as Table 9-5 says, with
a CALL_EVENT notice at a change of state; a connected channel then takes the sample (that code comes before sample is
the model's choice, log entry 37). SEIZE gives CLEARING with reason NO_RESPONSE, RING gives CLEARING with NO_ANSWER,
each with a GUARD timer; GUARD gives RINGING where the far code is SEIZE and IDLE otherwise, each with its CALL_EVENT; a
voice frame takes the port's sample and presents the output sample. The other channel stays. -/
def Obligations.FarCodesTimersAndVoiceFrames : Prop :=
  (∀ (s : State) (c : Instr) (bits : List RxBit) (x : RxCycle), s.loaded = true →
    c = .goodCycle bits ∨ c = .badCycle bits ∨ c = .syncCandidate bits ∨ c = .confirmCycle bits →
    (s.lkc.rx.bits ++ bits).length = 128 → x = RxCycle.ofBits (s.lkc.rx.bits ++ bits) →
    s.lkc.rx.sync = .locked → x.slots.sync = 0xB4E2 → x.slots.check = cycleCheck x.slots → x.violation = false →
    s.lkc.rx.expected = some (ctlNumber x.slots.control) → s.active .linkLost = false →
    ∃ t, exec c s = .next t ∧
      (let held := fun (f : Word16 → BitVec 3) => (s.lkc.rx.held.map f).getD 0
       let moved : CallChannel → CallRecord := fun ch =>
         match ch with
         | .a => (s.call .a).onCode s.clock.ms (held ctlCodeA) (ctlCodeA x.slots.control)
         | .b => (s.call .b).onCode s.clock.ms (held ctlCodeB) (ctlCodeB x.slots.control)
       ∀ ch, t.call ch = (moved ch).onVoice (match ch with | .a => x.slots.voiceA | .b => x.slots.voiceB) ∧
         ((moved ch).state ≠ (s.call ch).state → s.spt.notices.length ≤ 8 → ∃ why, (moved ch).last = some why ∧
           ⟨s.clock.ms, .callEvent ch (moved ch).state (moved ch).origin why⟩ ∈ t.spt.notices))) ∧
  ∀ (s : State) (ch : CallChannel) (k : TimerKind) (x : Word32) (v : Voice), s.loaded = true →
    (∃ t, exec (.voicePortFrame ch v) s = .next t ∧
      t.call ch = { s.call ch with portIn := v, portOut := (s.call ch).output } ∧
      (∀ o, o ≠ ch → t.call o = s.call o) ∧ sameBut [.phone] s t) ∧
    ((s.call ch).timer = some { kind := k, start := x } → (s.call ch).state ≠ .connected →
      (match k with
        | .seize => 500
        | .ring => s.pfs.working.ringTime * 1000
        | .guard => 100) ≤ (s.clock.ms - x).toNat →
      ∃ t, exec (match k with
          | .seize => .seizeTimeExpiry ch
          | .ring => .ringTimeExpiry ch
          | .guard => .clearGuardExpiry ch) s = .next t ∧
        t.call ch = (match k with
          | .seize => { s.call ch with
              state := .clearing
              timer := some { kind := .guard, start := s.clock.ms }
              last := some .noResponse }
          | .ring => { s.call ch with
              state := .clearing
              timer := some { kind := .guard, start := s.clock.ms }
              last := some .noAnswer }
          | .guard =>
            if (s.call ch).farCode = .seize then { s.call ch with
              state := .ringing
              origin := some .incoming
              timer := some { kind := .ring, start := s.clock.ms }
              last := some .incoming }
            else { s.call ch with
              state := .idle
              origin := none
              timer := none
              last := some .cleared }) ∧
        sends (Notice.ofCall ch)
          [.callEvent ch (t.call ch).state (t.call ch).origin (match k with
            | .seize => .noResponse
            | .ring => .noAnswer
            | .guard => if (s.call ch).farCode = .seize then .incoming else .cleared)] s t ∧
        (∀ o, o ≠ ch → t.call o = s.call o) ∧ sameBut [.phone, .notices] s t)

/-- PLACE_CALL from IDLE with the link up gives SEIZING, origin OUTGOING, with a SEIZE timer; ANSWER_CALL in RINGING
gives CONNECTED with the voice path silent; END_CALL gives CLEARING from a state on the way or connected, and changes
nothing in IDLE and CLEARING. Each is answered OK, a change of state with its CALL_EVENT; the other channel stays. A
channel other than A or B is BAD_VALUE; PLACE_CALL is refused REFUSED with LINK_LOST active and BUSY outside IDLE,
ANSWER_CALL WRONG_STATE outside RINGING. -/
def Obligations.CallRequestsMoveTheCall : Prop :=
  ∀ (s : State) (tag : Byte) (ch : CallChannel), s.serving →
    (let body : List Byte := [match ch with | .a => 0 | .b => 1]
     ((s.call ch).state = .idle → s.active .linkLost = false →
       ∃ t, exec (.placeCall tag body) s = .next t ∧
         t.call ch = { s.call ch with
           state := .seizing
           origin := some .outgoing
           timer := some { kind := .seize, start := s.clock.ms }
           last := some .placed } ∧
         sends (Notice.ofCall ch) [.callEvent ch .seizing (some .outgoing) .placed] s t ∧
         t.spt.replies = s.spt.replies ++ [replyIs 0x1B tag .ok []] ∧
         (∀ o, o ≠ ch → t.call o = s.call o) ∧ sameBut [.phone, .rx, .replies, .notices] s t) ∧
     ((s.call ch).state = .ringing →
       ∃ t, exec (.answerCall tag body) s = .next t ∧
         t.call ch = { s.call ch with
           state := .connected
           timer := none
           last := some .answered
           held := 0
           holdCount := 0
           output := 0 } ∧
         sends (Notice.ofCall ch) [.callEvent ch .connected (s.call ch).origin .answered] s t ∧
         t.spt.replies = s.spt.replies ++ [replyIs 0x1C tag .ok []] ∧
         (∀ o, o ≠ ch → t.call o = s.call o) ∧ sameBut [.phone, .rx, .replies, .notices] s t) ∧
     ((s.call ch).state ≠ .idle → (s.call ch).state ≠ .clearing →
       ∃ t, exec (.endCall tag body) s = .next t ∧ (t.call ch).state = .clearing ∧
         (t.call ch).timer = some { kind := .guard, start := s.clock.ms } ∧ (t.call ch).last = some .localClear ∧
         (t.call ch).origin = (s.call ch).origin ∧ (t.call ch).farCode = (s.call ch).farCode ∧
         sends (Notice.ofCall ch) [.callEvent ch .clearing (s.call ch).origin .localClear] s t ∧
         t.spt.replies = s.spt.replies ++ [replyIs 0x1D tag .ok []] ∧
         (∀ o, o ≠ ch → t.call o = s.call o) ∧ sameBut [.phone, .rx, .replies, .notices] s t) ∧
     ((s.call ch).state = .idle ∨ (s.call ch).state = .clearing →
       exec (.endCall tag body) s = .next (s.answered (replyIs 0x1D tag .ok []))) ∧
     (s.active .linkLost = true →
       exec (.placeCall tag body) s = .next (s.answered (replyIs 0x1B tag .refused []))) ∧
     (s.active .linkLost = false → (s.call ch).state ≠ .idle →
       exec (.placeCall tag body) s = .next (s.answered (replyIs 0x1B tag .busy []))) ∧
     ((s.call ch).state ≠ .ringing →
       exec (.answerCall tag body) s = .next (s.answered (replyIs 0x1C tag .wrongState []))) ∧
     (∀ n : Byte, 2 ≤ n.toNat →
       exec (.placeCall tag [n]) s = .next (s.answered (replyIs 0x1B tag .badValue [])) ∧
       exec (.answerCall tag [n]) s = .next (s.answered (replyIs 0x1C tag .badValue [])) ∧
       exec (.endCall tag [n]) s = .next (s.answered (replyIs 0x1D tag .badValue []))))

/-! ### Stops, modes and restricted running (chapter 10) -/

/-- Acknowledgement. A standing cause that is inactive or a host stop, and not an EMERGENCY cause with the rope moving,
is cleared by ACK_CAUSE with its count and stamps kept; an active one is refused STILL_ACTIVE, an EMERGENCY one on a
moving rope REFUSED, and a clear one changes nothing; a number outside 1..46 is BAD_VALUE. ACK_ALL clears every cause
that could be, and answers how many, and how many stand after it. Where LINK_LOST or TOWER_SILENT is cleared RESTRICTED
is set; where it was clear, OVERSPEED follows the new limit and MODE_CHANGED is sent (that it follows the demand is log
entry 16). HOST_STOP makes its cause active and latched, as one occurrence, and is BAD_VALUE for another category. Every
other entry of the table stands. What is said of each entry, of the second count and of the notice takes a state in
which the conditions stand evaluated (EveryStepKeepsTheInvariants). -/
def Obligations.AcknowledgementsAndHostStops : Prop :=
  ∀ (s : State) (tag : Byte), s.serving → s.stopsFollow →
    (let settled := s.conditionsKept ∧ s.overdueKept ∧ s.overdueFound
     let host : Cause → Bool := fun c => c == .hostStopSvc || c == .hostStopEmg
     let stands : Cause → Bool := fun c => (s.cause c).active || (s.cause c).latched
     let barred : Cause → Bool := fun c => !host c && s.active c
     let moving : Cause → Bool := fun c => c.category == .emergency && (s.rmu.mw.speed != 0 || s.rmu.bw.speed != 0)
     let clears : Cause → Bool := fun c => stands c && !barred c && !moving c
     let left : (Cause → Bool) → State → Prop := fun cleared t =>
       t.ssv.restricted = (s.ssv.restricted || cleared .linkLost || cleared .towerSilent) ∧
         (settled → ∀ x, t.cause x =
           (let e := if cleared x then { s.cause x with active := false, latched := false } else s.cause x
            if x = .overspeed ∧ s.ssv.restricted = false ∧ t.ssv.restricted = true then
              e.found .overspeed (decide (s.overspeedLimit true < s.rmu.mw.speed)) s.rmu.rd s.clock.ms
            else e)) ∧
         (settled → s.ssv.restricted = false → t.ssv.restricted = true → t.spt.notices.length < 16 →
           ⟨s.clock.ms, .modeChanged s.ssv.mode true t.ssv.lines⟩ ∈ t.spt.notices) ∧
         t.stopsFollow ∧ t.ssv.mode = s.ssv.mode ∧ t.ssv.lastKeep = s.ssv.lastKeep ∧ t.ssv.deadline = s.ssv.deadline ∧
         sameBut ([.mode, .rx, .replies] ++ Block.settled) s t
     (∀ n : Byte, n.toNat = 0 ∨ 46 < n.toNat →
       exec (.ackCause tag [n]) s = .next (s.answered (replyIs 0x1F tag .badValue []))) ∧
     (∀ c n, Cause.ofNumber (BitVec.toNat n) = some c →
       (barred c = true → exec (.ackCause tag [n]) s = .next (s.answered (replyIs 0x1F tag .stillActive []))) ∧
       (barred c = false → stands c = false →
         exec (.ackCause tag [n]) s = .next (s.answered (replyIs 0x1F tag .ok []))) ∧
       (barred c = false → stands c = true → moving c = true →
         exec (.ackCause tag [n]) s = .next (s.answered (replyIs 0x1F tag .refused []))) ∧
       (clears c = true → ∃ t, exec (.ackCause tag [n]) s = .next t ∧ left (fun x => x == c) t ∧
         t.spt.replies = s.spt.replies ++ [replyIs 0x1F tag .ok []])) ∧
     (∃ t m, exec (.ackAll tag []) s = .next t ∧ left clears t ∧
       t.spt.replies = s.spt.replies ++ [replyIs 0x20 tag .ok [BitVec.ofNat 8 (Cause.all.countP clears), m]] ∧
       (settled → m = BitVec.ofNat 8 (Cause.all.countP fun c => (t.cause c).active || (t.cause c).latched))) ∧
     (∀ n : Byte, n ≠ 3 → n ≠ 4 → exec (.hostStop tag [n]) s = .next (s.answered (replyIs 0x21 tag .badValue []))) ∧
     (∀ c n, (c = .hostStopSvc ∧ n = 3 ∨ c = .hostStopEmg ∧ n = 4) →
       (s.active c = true → exec (.hostStop tag [n]) s = .next (s.answered (replyIs 0x21 tag .ok []))) ∧
       (s.active c = false → ∃ t, exec (.hostStop tag [n]) s = .next t ∧
         t.cause c = (s.cause c).reported c .absent s.rmu.rd s.clock.ms ∧
         (settled → ∀ x, x ≠ c → t.cause x = s.cause x) ∧ t.stopsFollow ∧
         t.spt.replies = s.spt.replies ++ [replyIs 0x21 tag .ok []] ∧
         sameBut ([.rx, .replies] ++ Block.settled) s t)))

/-- The reports of causes, over every step out of a reset. An occurrence raises the count by 1 up to 255 and, but for a
HOLD cause, latches; a clear entry takes its first stamps, RD, MS_TIME and detail, and one that stands keeps them;
without an occurrence nothing new is active or latched, and only an acknowledgement clears a latched field. Where no
notice was dropped and none taken by the transmitter, the notices formed by the step stand behind those that waited,
with its MS_TIME: a CAUSE_RAISED for each occurrence of each cause with the count it reached, its RD and, at the last,
the entry's last detail, and DEMAND_CHANGED from the old demand to the new, with the levels of the stop lines. (The RD
is the standing one; at a pulse, that before or behind it. A step that takes several frames of a BAD_FRAME command at
once, or the request that an UNKNOWN_KIND command may carry, is left out.) -/
def Obligations.CauseReportsAreRecorded : Prop :=
  ∀ s t : State, step s = .next t → t.ssv.mode ≠ .off → s.activesLatched → s.holdsUnlatched →
    (∀ l rest, s.pending ≠ .badFrame l :: rest) → (∀ k tag body rest, s.pending ≠ .unknownKind k tag body :: rest) →
    (∀ (c : Cause) (acked : Bool),
      (acked = true ↔ ∃ tag body rest, s.pending = .ackCause tag body :: rest ∨ s.pending = .ackAll tag body :: rest) →
      entryFollows acked c s t) ∧
    ((∀ rest, s.pending ≠ .frameTransmit :: rest) → t.spt.notices.length < 16 → noticesFollow s t)

/-- RESTRICTED is cleared by a power-on and by LIFT_RESTRICTION alone, by the latter only with the rope AT REST and no
SERVICE or EMERGENCY cause latched, and it is set by an acknowledgement alone. (A step that takes frames out of a
BAD_FRAME command, or an UNKNOWN_KIND command, which may carry any request, is left out.) -/
def Obligations.RestrictedChangesByAckLiftAndPowerOn : Prop :=
  ∀ s t : State, step s = .next t → (∀ l rest, s.pending ≠ .badFrame l :: rest) →
    (∀ k tag body rest, s.pending ≠ .unknownKind k tag body :: rest) → t.ssv.restricted ≠ s.ssv.restricted →
    (s.ssv.restricted = true → (∃ rest, s.pending = .powerOn :: rest) ∨
      (∃ tag body rest, s.pending = .liftRestriction tag body :: rest) ∧ s.atRest = true ∧
        ∀ c : Cause, c.category = .service ∨ c.category = .emergency → (s.cause c).latched = false) ∧
    (s.ssv.restricted = false → ∃ tag body rest,
      s.pending = .ackCause tag body :: rest ∨ s.pending = .ackAll tag body :: rest)

/-- Host supervision: a KEEPALIVE in SERVICE or RUN keeps its time, moves the deadline to HK_PERIOD after it, and is
early, with HOST_SILENT active, exactly when HK_WINDOW is on and less than half of HK_PERIOD has passed since the last
one. A missed deadline removes the deadline; it makes HOST_SILENT active and latched with one occurrence more, where an
early KEEPALIVE has not left it active, and then the cause's entry stays as it is; the rope is stopped in both cases.
(That the reply codes early as 0 and in time as 1 is the model's choice, log entry 22.) -/
def Obligations.HostIsSupervised : Prop :=
  ∀ (s : State) (tag : Byte),
    (s.serving → s.ssv.mode = .service ∨ s.ssv.mode = .run → ∃ t, exec (.keepalive tag []) s = .next t ∧
      (let early := s.pfs.working.hkWindow == 1 && s.ssv.lastKeep.any (fun x =>
         decide ((s.clock.ms - x).toNat < s.pfs.working.hkPeriod / 2))
       t.active .hostSilent = early ∧
       (early = true → s.active .hostSilent = false → (t.cause .hostSilent).latched = true) ∧
       (early = false → (t.cause .hostSilent).latched = (s.cause .hostSilent).latched) ∧
       t.spt.replies = s.spt.replies ++ [replyIs 0x23 tag .ok [if early then 0 else 1]]) ∧
      t.ssv.lastKeep = some s.clock.ms ∧ t.ssv.deadline = some { ref := s.clock.ms, entry := false } ∧
      t.ssv.mode = s.ssv.mode ∧ t.ssv.restricted = s.ssv.restricted ∧
      sameBut ([.mode, .rx, .replies] ++ Block.settled) s t) ∧
    (∀ d, s.loaded = true → s.stopsFollow → s.ssv.deadline = some d →
      (if d.entry then 2000 else s.pfs.working.hkPeriod) ≤ (s.clock.ms - d.ref).toNat →
      ∃ t, exec .hostDeadlineMissed s = .next t ∧ t.active .hostSilent = true ∧
        t.cause .hostSilent = (let e := s.cause .hostSilent
          if e.active = true then e else e.reported .hostSilent .absent s.rmu.rd s.clock.ms) ∧
        t.ssv.deadline = none ∧ t.ssv.lastKeep = s.ssv.lastKeep ∧
        t.ssv.lines.permit = false ∧ t.ssv.lines.sstop = true ∧ t.ssv.mode = s.ssv.mode ∧
        t.ssv.restricted = s.ssv.restricted ∧ sameBut (.mode :: Block.settled) s t)

/-- SET_MODE and LIFT_RESTRICTION, with each of their refusals; each change sends MODE_CHANGED. RUN is entered from
SERVICE with no commit in flight, the profile VALID, no EMERGENCY cause latched and the drives home, and refused
WRONG_STATE otherwise; SERVICE from RUN with the rope AT REST, and refused REFUSED otherwise. OVERSPEED follows the new
limit, the lines the new mode; the wanted route is computed or discarded, and at the entry of RUN the SWITCH is
commanded toward it where the clearance is met, the throw being pending otherwise. RESTRICTED is lifted with the rope AT
REST and no SERVICE or EMERGENCY cause latched. -/
def Obligations.ModeAndRestrictionFollowTheirChecks : Prop :=
  ∀ (s : State) (tag : Byte), s.serving → s.stopsFollow →
    (s.ssv.mode = .service → s.pfs.commit = none →
      (let ready := s.pfs.status = .valid ∧ (∀ c : Cause, c.category = .emergency → (s.cause c).latched = false) ∧
         s.dru.opener.state = .atA ∧ s.dru.closer.state = .atA ∧ s.dru.release.state = .atA ∧
         s.dru.gate.state = .atA ∧ (s.dru.switch.state = .atA ∨ s.dru.switch.state = .atB)
       (¬ready → exec (.setMode tag [2]) s = .next (s.answered (replyIs 0x24 tag .wrongState []))) ∧
       (ready → ∃ t, exec (.setMode tag [2]) s = .next t ∧ t.ssv.mode = .run ∧ (∃ r, t.stu.wanted = some r ∧
           t.stu.throwPending = s.throwStays r (s.clearAt s.rmu.rd) ∧
           (s.switchedTo r = true ∨ s.clearAt s.rmu.rd = false → t.dru.switch = s.dru.switch) ∧
           (s.switchedTo r = false → s.clearAt s.rmu.rd = true →
             t.dru.switch = s.dru.switch.commanded r.wantedEnd s.clock.ms)) ∧
         t.active .overspeed = decide ((if s.ssv.restricted = true then s.pfs.working.vRestrict
           else s.pfs.working.vMax) < s.rmu.mw.speed) ∧
         t.stu.wanted = some (match s.lists.downLine with
           | [] => .line
           | x :: _ => if (s.cab x.cabin).retire = true ∨ (s.cab x.cabin).due = true ∧ s.pfs.working.autoStore = 1
             then .store else .line) ∧
         (s.spt.notices.length ≤ 13 →
           ∃ lines, ⟨s.clock.ms, .modeChanged .run s.ssv.restricted lines⟩ ∈ t.spt.notices) ∧
         t.stopsFollow ∧ t.ssv.restricted = s.ssv.restricted ∧ t.ssv.lastKeep = s.ssv.lastKeep ∧
         t.ssv.deadline = s.ssv.deadline ∧ t.spt.replies = s.spt.replies ++ [replyIs 0x24 tag .ok []] ∧
         sameBut ([.mode, .rx, .replies] ++ Block.settled) s t))) ∧
    (s.ssv.mode = .run → s.atRest = false →
      exec (.setMode tag [1]) s = .next (s.answered (replyIs 0x24 tag .refused []))) ∧
    (s.ssv.mode = .run → s.atRest = true → ∃ t, exec (.setMode tag [1]) s = .next t ∧ t.ssv.mode = .service ∧
      t.stu.wanted = none ∧ t.stu.throwPending = false ∧
      t.active .overspeed = decide (s.pfs.working.vInspect < s.rmu.mw.speed) ∧
      (s.spt.notices.length ≤ 13 →
        ∃ lines, ⟨s.clock.ms, .modeChanged .service s.ssv.restricted lines⟩ ∈ t.spt.notices) ∧
      t.stopsFollow ∧ t.ssv.restricted = s.ssv.restricted ∧
      t.ssv.lastKeep = s.ssv.lastKeep ∧ t.ssv.deadline = s.ssv.deadline ∧
      t.spt.replies = s.spt.replies ++ [replyIs 0x24 tag .ok []] ∧
      sameBut ([.mode, .rx, .replies] ++ Block.settled) s t) ∧
    (∀ n : Byte, n ≠ 1 → n ≠ 2 → exec (.setMode tag [n]) s = .next (s.answered (replyIs 0x24 tag .badValue []))) ∧
    (∀ n : Byte, s.ssv.mode = .start → n = 1 ∨ n = 2 →
      exec (.setMode tag [n]) s = .next (s.answered (replyIs 0x24 tag .wrongMode []))) ∧
    (s.ssv.mode = .service → s.pfs.commit.isSome →
      exec (.setMode tag [2]) s = .next (s.answered (replyIs 0x24 tag .busy []))) ∧
    (s.ssv.mode = .service ∨ s.ssv.mode = .run →
      exec (.setMode tag [if s.ssv.mode = .run then 2 else 1]) s = .next (s.answered (replyIs 0x24 tag .ok []))) ∧
    (s.ssv.restricted = false →
      exec (.liftRestriction tag []) s = .next (s.answered (replyIs 0x22 tag .ok []))) ∧
    (s.ssv.restricted = true → (s.atRest = false ∨
        ∃ c : Cause, (c.category = .service ∨ c.category = .emergency) ∧ (s.cause c).latched = true) →
      exec (.liftRestriction tag []) s = .next (s.answered (replyIs 0x22 tag .refused []))) ∧
    (s.ssv.restricted = true → s.atRest = true →
      (∀ c : Cause, c.category = .service ∨ c.category = .emergency → (s.cause c).latched = false) →
      ∃ t, exec (.liftRestriction tag []) s = .next t ∧ t.ssv.restricted = false ∧ t.ssv.mode = s.ssv.mode ∧
        t.active .overspeed = decide ((if s.ssv.mode = .service then s.pfs.working.vInspect
          else s.pfs.working.vMax) < s.rmu.mw.speed) ∧
        (s.spt.notices.length ≤ 13 → ∃ lines, ⟨s.clock.ms, .modeChanged s.ssv.mode false lines⟩ ∈ t.spt.notices) ∧
        t.ssv.lastKeep = s.ssv.lastKeep ∧ t.ssv.deadline = s.ssv.deadline ∧ t.stopsFollow ∧
        t.spt.replies = s.spt.replies ++ [replyIs 0x22 tag .ok []] ∧
        sameBut ([.mode, .rx, .replies] ++ Block.settled) s t)

/-! ### Tally counters (chapter 11) -/

/-- The tally sample: an enabled counter on a level source adds the sampled value with threshold 0, and otherwise 1 when
the comparison holds and, with edge on, did not hold at the last sample; the last comparison is kept even while frozen.
The value counts modulo 2^32 with the overflow flag, and with notify on a wrap sends TALLY_OVERFLOW. An overflow of a
counter with freeze trigger on sets the freeze, and nothing else in the sample does; the sample never ends a freeze. (A
member counter is taken where the sample changes no freeze. That the command takes a sample whatever MS_TIME is, is the
model's choice, log entry 7.) -/
def Obligations.TallySampleAddsItsLevels : Prop :=
  ∀ (s : State) (k : CounterIx), s.loaded = true →
    ∃ t, exec .tallySample s = .next t ∧ sameBut [.tally, .notices] s t ∧
      (let r := s.counter k
       let level : Option Nat := match r.source with
         | .stationOccupancy => some s.lists.station.length
         | .gateQueue => some (s.lists.station.countP fun e => e.segment == .gat)
         | .rxStoreFill => some s.lkc.chan.fill
         | .uplineCount => some s.lists.upLine.length
         | .slipAbs => some s.rmu.slip.natAbs
         | .speedDm => some (s.rmu.mw.speed / 100)
         | _ => none
       (r.enable = false ∨ level = none → t.counter k = r ∧ sends (Notice.ofCounter k) [] s t) ∧
       (∀ v, r.enable = true → level = some v → r.member = false ∨ t.tal.frozen = s.tal.frozen →
         (let holds : Bool := if r.invert then decide (v < r.threshold) else decide (r.threshold ≤ v)
          let gain := if r.member = true ∧ s.tal.frozen = true then 0
            else if r.threshold = 0 then v else if holds = true ∧ (r.edge = true → r.last = false) then 1 else 0
          let wraps := 4294967296 ≤ r.value.toNat + gain
          t.counter k = { r with
            value := r.value + BitVec.ofNat 32 gain
            overflow := r.overflow || decide wraps
            last := r.threshold != 0 && holds } ∧
          (r.trigger = true → wraps → t.tal.frozen = true) ∧
          (¬(r.notify = true ∧ wraps) → sends (Notice.ofCounter k) [] s t) ∧
          (r.notify = true → wraps → ∃ frozen : Bool,
            (s.tal.frozen = true ∨ r.trigger = true → frozen = true) ∧ (frozen = true → t.tal.frozen = true) ∧
            sends (Notice.ofCounter k) [.tallyOverflow k r.source (t.counter k).value frozen] s t)))) ∧
      (s.tal.frozen = true → t.tal.frozen = true) ∧
      (s.tal.frozen = false → t.tal.frozen = true → ∃ j, (s.counter j).enable = true ∧ (s.counter j).trigger = true ∧
        (s.levelOf (s.counter j).source).isSome ∧ (t.counter j).overflow = true)

/-- The tally requests: SET_TALLY takes the configuration, sets the last comparison false and keeps value and overflow
flag. Its fields are enable, source, threshold, invert, edge, notify, freeze member and freeze trigger: a source is
coded 0 to 14 in the order of Table 13-1, each flag 00h or 01h, and a threshold is any byte; another source or flag is
BAD_VALUE, with no change. WRITE_TALLY takes the value alone; CLEAR_OVERFLOW clears the flag. All three are BAD_VALUE, with
no change, for a counter outside 1..8. FREEZE_TALLY and UNFREEZE_TALLY set the freeze state, UNFREEZE_TALLY with STILL_ACTIVE and no change while a counter with freeze
trigger on has its flag set. -/
def Obligations.TallyRequestsSetCounters : Prop :=
  ∀ (s : State) (tag : Byte) (k : CounterIx), s.serving →
    (let number : Byte := BitVec.ofNat 8 (k.val + 1)
     let r := s.counter k
     let put := fun (kind : Byte) (x : Counter) =>
       { s.answered (replyIs kind tag .ok []) with tal := { s.tal with counters := s.tal.counters.set k x } }
     let sources : List TallySource :=
       [.launch, .valleyArrival, .doorReversal, .gripFail, .badCycle, .recordRx, .recordTx, .readerMiss, .passage,
         .stationOccupancy, .gateQueue, .rxStoreFill, .uplineCount, .slipAbs, .speedDm]
     let on := fun (x : Byte) => decide (x.toNat = 1)
     (∀ en src thr inv edge ntf mem trg : Byte, exec (.setTally tag [number, en, src, thr, inv, edge, ntf, mem, trg]) s =
       .next (match sources[src.toNat]? with
         | some source =>
           if en.toNat ≤ 1 ∧ inv.toNat ≤ 1 ∧ edge.toNat ≤ 1 ∧ ntf.toNat ≤ 1 ∧ mem.toNat ≤ 1 ∧ trg.toNat ≤ 1 then
             put 0x26
               ⟨on en, source, thr.toNat, on inv, on edge, on ntf, on mem, on trg, r.value, r.overflow, false⟩
           else s.answered (replyIs 0x26 tag .badValue [])
         | none => s.answered (replyIs 0x26 tag .badValue []))) ∧
     (∀ a b c d : Byte, exec (.writeTally tag [number, a, b, c, d]) s =
       .next (put 0x27 { r with value := a ++ b ++ c ++ d })) ∧
     exec (.clearOverflow tag [number]) s = .next (put 0x29 { r with overflow := false }) ∧
     (∀ n : Byte, n.toNat = 0 ∨ 8 < n.toNat →
       (∀ fields : List Byte, fields.length = 8 →
         exec (.setTally tag (n :: fields)) s = .next (s.answered (replyIs 0x26 tag .badValue []))) ∧
       (∀ a b c d : Byte,
         exec (.writeTally tag [n, a, b, c, d]) s = .next (s.answered (replyIs 0x27 tag .badValue []))) ∧
       exec (.clearOverflow tag [n]) s = .next (s.answered (replyIs 0x29 tag .badValue []))) ∧
     exec (.freezeTally tag []) s =
       .next { s.answered (replyIs 0x2A tag .ok []) with tal := { s.tal with frozen := true } } ∧
     (∀ j : CounterIx, (s.counter j).trigger = true → (s.counter j).overflow = true →
       exec (.unfreezeTally tag []) s = .next (s.answered (replyIs 0x2B tag .stillActive []))) ∧
     ((∀ j : CounterIx, (s.counter j).trigger = true → (s.counter j).overflow = false) →
       exec (.unfreezeTally tag []) s =
         .next { s.answered (replyIs 0x2B tag .ok []) with tal := { s.tal with frozen := false } }))

/-- A counter that is disabled, or a freeze group member under a freeze, keeps its value: a step out of a reset that
changes it is a WRITE_TALLY. (A step that takes frames out of a BAD_FRAME command, or an UNKNOWN_KIND command, which
may carry any request, is left out.) -/
def Obligations.HeldCountersStand : Prop :=
  ∀ (s t : State) (k : CounterIx), step s = .next t → t.ssv.mode ≠ .off →
    (∀ l rest, s.pending ≠ .badFrame l :: rest) →
    (∀ n tag body rest, s.pending ≠ .unknownKind n tag body :: rest) →
    (s.counter k).enable = false ∨ (s.counter k).member = true ∧ s.tal.frozen = true →
    (t.counter k).value ≠ (s.counter k).value → ∃ tag body rest, s.pending = .writeTally tag body :: rest

/-! ### The station port (chapter 12) -/

/-- The requests that are not served, whichever they are. A receiver stopped by RESET_PART, or held in reset, takes
none. With 4 entries in the reply queue a request is counted as dropped; otherwise a length that Table 13-3 does not
allow is answered BAD_LENGTH, and before the profile load every request but IDENTIFY is answered BUSY. A KIND outside
the table is answered with kind 80h and the KIND. Nothing else changes. -/
def Obligations.UnservedRequestsChangeNothing : Prop :=
  ∀ (s : State) (c : Instr) (kind tag : Byte) (body : List Byte),
    (requestParts c = some (kind, tag, body) ∨
      c = .unknownKind kind tag body ∧ (kind.toNat = 0 ∨ 0x32 < kind.toNat)) →
    (s.ssv.mode = .off ∨ s.spt.stopped = true → exec c s = .next s) ∧
    (s.ssv.mode ≠ .off → s.spt.stopped = false →
      (4 ≤ s.spt.replies.length → exec c s = .next { s with spt := { s.spt with
        rx := .hunting
        dropRequest := if s.spt.dropRequest < 65535 then s.spt.dropRequest + 1 else s.spt.dropRequest } }) ∧
      (s.spt.replies.length < 4 →
        (c = .unknownKind kind tag body →
          exec c s = .next (s.answered (.ready ⟨0x80, tag, .unknownKind, [kind], false⟩))) ∧
        (requestParts c = some (kind, tag, body) →
          (∀ n, tableLength kind = some n → body.length ≠ n →
            exec c s = .next (s.answered (replyIs kind tag .badLength []))) ∧
          ((∀ n, tableLength kind = some n → body.length = n) → s.loaded = false → kind ≠ 0x2C →
            exec c s = .next (s.answered (replyIs kind tag .busy []))))))

/-- The sixteen reads are answered in every mode and change nothing but the queue of replies; IDENTIFY is answered
before the profile has been loaded too. With operands in their range they are answered OK with the data stated, field by
field, in the order of their rules: READ_CABIN the record and list position, READ_LIST name, length, start, change
count, number and entries, and so the others; otherwise BAD_VALUE, or NOT_FOUND for a start beyond the end. (The model's
choices in the layouts: that a revision number is one byte, READ_TALLY has no count byte, a parameter's range is its
lower and then its upper bound, and that the suspensions, the held control word, the length of the oldest text, the
completion RD of a release and the time since a pause start are optional fields, log entry 20; the codes that no table
gives, log entry 22; the stored value of the copy before it while a commit is in flight, log entry 46.) -/
def Obligations.ReadsAnswerAndChangeNothing : Prop :=
  ∀ (s : State) (tag : Byte),
    (let answers := fun (c : Instr) (kind : Byte) (st : Status) (d : List Byte) =>
       exec c s = .next (s.answered (replyIs kind tag st d))
     (s.ssv.mode ≠ .off → s.spt.stopped = false → s.spt.replies.length < 4 →
       answers (.identify tag []) 0x2C .ok (([0x04, 0x10, 0x01,
         match s.resetCause with
           | .powerOn => 0
           | .pin => 1
           | .hostRequest => 2
           | .profileRestore => 3] : List Byte) ++ u32 s.clock.ms.toNat)) ∧
     (s.serving →
      (∀ (c : Cabin), answers (.readCabin tag [BitVec.ofNat 8 (c.val + 1)]) 0x03 .ok (s.cabinReply c)) ∧
      (∀ n : Byte, n.toNat = 0 ∨ 96 < n.toNat → answers (.readCabin tag [n]) 0x03 .badValue []) ∧
      (∀ (k : Nat) (count : Word16) (l : List (List Byte)) (start max : Byte), (k, count, l) ∈ s.listReply →
        let read := Instr.readList tag [BitVec.ofNat 8 k, start, max]
        (max.toNat = 0 ∨ 24 < max.toNat → answers read 0x04 .badValue []) ∧
        (1 ≤ max.toNat → max.toNat ≤ 24 → l.length < start.toNat → answers read 0x04 .notFound []) ∧
        (1 ≤ max.toNat → max.toNat ≤ 24 → start.toNat ≤ l.length → answers read 0x04 .ok
          (u8 k ++ u8 l.length ++ [start] ++ u16 count.toNat ++ entriesFrom start.toNat max.toNat l))) ∧
      (∀ n start max : Byte, 4 < n.toNat → answers (.readList tag [n, start, max]) 0x04 .badValue []) ∧
      answers (.readRope tag []) 0x09 .ok s.ropeReply ∧ answers (.readTrack tag []) 0x0D .ok s.trackReply ∧
      answers (.readDrives tag []) 0x0F .ok s.drivesReply ∧ answers (.readLaunch tag []) 0x12 .ok s.launchReply ∧
      answers (.readLineTrack tag []) 0x14 .ok s.lineTrackReply ∧ answers (.readLink tag []) 0x15 .ok s.linkReply ∧
      (∀ start : Byte,
        (start.toNat ≤ s.lkc.towers.entries.length → answers (.readTowers tag [start]) 0x16 .ok (s.towersReply start.toNat)) ∧
        (s.lkc.towers.entries.length < start.toNat → answers (.readTowers tag [start]) 0x16 .notFound [])) ∧
      answers (.readRecordChannel tag []) 0x1A .ok s.channelReply ∧ answers (.readCalls tag []) 0x1E .ok s.callsReply ∧
      (∀ (standing : Bool) (start : Byte),
        let n := if standing then Cause.all.countP fun c => (s.cause c).active || (s.cause c).latched else 46
        let read := Instr.readCauses tag [if standing then 1 else 0, start]
        (start.toNat ≤ n → answers read 0x25 .ok (s.causesReply standing start.toNat)) ∧
        (n < start.toNat → answers read 0x25 .notFound [])) ∧
      (∀ n start : Byte, 1 < n.toNat → answers (.readCauses tag [n, start]) 0x25 .badValue []) ∧
      answers (.readTally tag []) 0x28 .ok s.tallyReply ∧
      answers (.readStatus tag []) 0x2D .ok s.statusReply ∧
      (∀ q i : Byte, Param.ofNumber q.toNat i.toNat = none → answers (.readParam tag [q, i]) 0x2F .badValue []) ∧
      (∀ (q i : Byte) (x : Param), Param.ofNumber q.toNat i.toNat = some x →
        answers (.readParam tag [q, i]) 0x2F .ok
          (u32 (s.pfs.working.get x) ++ u32 (s.pfs.stored.contents.params.get x) ++ u32 x.lo ++
            u32 (x.hi s.pfs.working) ++ u32 (Params.default.get x) ++
            ([match s.pfs.status with
              | .valid => 0
              | .modified => 1
              | .invalid => 2] : List Byte)))))

/-- A frame begins when SP_TX is free: the oldest ready reply, passing over a held place, and without one the oldest
notice, which carries the notice-lost flag and clears it; the frame leaves its queue. -/
def Obligations.RepliesGoBeforeNotices : Prop :=
  ∀ s : State, s.ssv.mode ≠ .off → (∀ f, s.spt.tx = some f → f.remaining = 0 ∧ f.resets = false) →
    (let sent := fun (bytes : List Byte) (resets : Bool) =>
       (some ⟨bytes, resets, bytes.length * 6250⟩ : Option TxFrame)
     (∀ held r rest, s.spt.replies = held ++ ReplyEntry.ready r :: rest → (∀ x ∈ held, ∃ tag, x = .held tag) →
       exec .frameTransmit s = .next { s with spt := { s.spt with
         replies := held ++ rest
         tx := sent (frameBytes r.kind r.tag (BitVec.ofNat 8 r.status.code :: r.data)) r.resets } }) ∧
     ((∀ x ∈ s.spt.replies, ∃ tag, x = .held tag) → ∀ q rest, s.spt.notices = q :: rest →
       exec .frameTransmit s = .next { s with spt := { s.spt with
         notices := rest
         lost := false
         tx := sent (frameBytes q.notice.kind 0
           (u32 q.ms.toNat ++ [if s.spt.lost then 1 else 0] ++ q.notice.data)) false } }) ∧
     ((∀ x ∈ s.spt.replies, ∃ tag, x = .held tag) → s.spt.notices = [] → exec .frameTransmit s = .next s))

/-- Bad frames. A gap or a break abandons a frame that is being assembled and counts it, and changes nothing while
hunting. Received bytes without a start byte change nothing; behind a start byte, a LEN outside 2..250 or a wrong
check is counted and the hunt goes on, and bytes that are not yet a whole frame are kept. (That BAD_FRAME brings the
characters themselves is the model's choice, log entry 10.) -/
def Obligations.BadFramesAreCounted : Prop :=
  ∀ s : State, s.ssv.mode ≠ .off → s.spt.stopped = false →
    (let counted := { s with spt := { s.spt with
       rx := .hunting
       badFrames := if s.spt.badFrames < 65535 then s.spt.badFrames + 1 else s.spt.badFrames } }
     (∀ c, c = .frameGapTimeout ∨ c = .breakReceived →
       (s.spt.rx = .hunting → exec c s = .next s) ∧
       (∀ l, s.spt.rx = .assembling l → exec c s = .next counted)) ∧
     (s.spt.rx = .hunting →
       (∀ chars : List Byte, 0xD5 ∉ chars → exec (.badFrame chars) s = .next s) ∧
       (∀ (len : Byte) (l : List Byte), len ≠ 0xD5 → 0xD5 ∉ l →
         (len.toNat < 2 ∨ 250 < len.toNat ∨ len.toNat + 2 ≤ l.length ∧
           (l.drop len.toNat).take 2 ≠ wordBytes (crc16 (len :: l.take len.toNat))) →
         exec (.badFrame (0xD5 :: len :: l)) s = .next counted) ∧
       (∀ (len : Byte) (l : List Byte), 2 ≤ len.toNat → len.toNat ≤ 250 → l.length < len.toNat + 2 →
         exec (.badFrame (0xD5 :: len :: l)) s =
           .next { s with spt := { s.spt with rx := .assembling (len :: l) } })))

/-- A whole frame with a correct check is taken as its request, wherever it is cut: whatever of it the receiver already
holds, the rest of its characters leave what the request of its KIND, TAG and body leaves. (That characters come by the
command BAD_FRAME is the model's choice, log entry 10.) -/
def Obligations.FramesAreTakenAsTheirRequests : Prop :=
  ∀ (s : State) (c : Instr) (kind tag : Byte) (body chars : List Byte), body.length ≤ 248 →
    (requestParts c = some (kind, tag, body) ∨
      c = .unknownKind kind tag body ∧ (kind.toNat = 0 ∨ 0x32 < kind.toNat)) →
    s.spt.rx.bytes ++ chars = frameBytes kind tag body → exec (.badFrame chars) s = exec c s

/-! ### The profile store and RESET_PART (chapter 12) -/

/-- A commit. COMMIT_PROFILE in SERVICE, with the cross-checks of R198 met and a write count below 20,000, raises the
write count, fixes the working parameters, registrations and launch counts, and holds a place in the reply queue. It is
refused, with no change, by the first of its checks that fails: WRONG_MODE outside SERVICE, BUSY during a commit,
INCONSISTENT with the parameter on the right of the first relation that fails, WORN at a write count of 20,000. (That the
reply names the parameter by one byte, its number of Table 13-4, is the model's choice, log entry 49.) At the completion the place is filled with OK, and the stored copy replaced and the status VALID, or with WORN and the status
MODIFIED. REGISTER_CABIN leaves the launch counts of the working profile, and UNREGISTER_CABIN takes that of its number
out. (That the launch counts of the working profile are those of a commit from its completion with an equal read-back
on, and what the two requests make of them, is the model's choice, log entry 48. That the stored copy stands unchanged
from the acceptance to the completion, and is replaced only there, is the model's choice, log entry 46: by R198 the
write begins at the acceptance.) -/
def Obligations.CommitFixesAndStoresTheProfile : Prop :=
  ∀ (s : State) (tag : Byte),
    (s.serving → s.ssv.mode ≠ .service →
      exec (.commitProfile tag []) s = .next (s.answered (replyIs 0x31 tag .wrongMode []))) ∧
    (s.serving → s.ssv.mode = .service → s.pfs.commit.isSome →
      exec (.commitProfile tag []) s = .next (s.answered (replyIs 0x31 tag .busy []))) ∧
    (s.serving → s.ssv.mode = .service → s.pfs.commit = none →
      (let p := s.pfs.working
       let relations : List (Bool × Byte) :=
         [(decide (p.gripMin < p.gripMax), 34), (decide (p.tensionLoLim < p.tensionLo), 12),
           (decide (p.tensionLo < p.tensionHi), 13), (decide (p.tensionHi < p.tensionHiLim), 14),
           (decide (p.tensionHiLim ≤ p.tensionSpan), 10), (decide (p.vInspect ≤ p.vRestrict), 9),
           (decide (p.vRestrict ≤ p.vMax), 6), (decide (p.switchClear ≤ p.spacing), 36)]
       let failing := (relations.find? fun x => !x.1).map Prod.snd
       let fixed : Profile :=
         { params := p, regs := s.cabins.map fun r => if r.registered then some r.launches else none }
       (failing = none → s.pfs.writes < 20000 → exec (.commitProfile tag []) s =
         .next { s.answered (.held tag) with pfs := { s.pfs with
           writes := s.pfs.writes + 1
           commit := some { contents := fixed, tag := some tag } } }) ∧
       (failing = none → 20000 ≤ s.pfs.writes →
         exec (.commitProfile tag []) s = .next (s.answered (replyIs 0x31 tag .worn []))) ∧
       (∀ n, failing = some n →
         exec (.commitProfile tag []) s = .next (s.answered (replyIs 0x31 tag .inconsistent [n]))))) ∧
    (s.serving → s.ssv.mode = .service → s.pfs.commit = none → ∀ (c : Cabin) (a b : Byte),
      (let n : Byte := BitVec.ofNat 8 (c.val + 1)
       let aside := (s.cab c).location = .unplaced ∨ (s.cab c).location = .withdrawn
       ((s.cab c).registered = false ∨ aside →
         ∃ t, exec (.registerCabin tag [n, a, b]) s = .next t ∧ t.pfs = { s.pfs with status := .modified }) ∧
       ((s.cab c).registered = true → aside → ∃ t, exec (.unregisterCabin tag [n]) s = .next t ∧
         t.pfs = { s.pfs with status := .modified, counts := s.pfs.counts.set c none }))) ∧
    (∀ k ahead behind, s.pfs.commit = some { contents := k, tag := some tag } →
      s.spt.replies = ahead ++ ReplyEntry.held tag :: behind → ReplyEntry.held tag ∉ ahead →
      exec (.commitCompletion true) s = .next { s with
        pfs := { s.pfs with stored := .good k, counts := k.regs, status := .valid, commit := none },
        spt := { s.spt with replies := ahead ++ replyIs 0x31 tag .ok [] :: behind } } ∧
      ∃ t, exec (.commitCompletion false) s = .next t ∧
        t.pfs = { s.pfs with stored := t.pfs.stored, status := .modified, commit := none } ∧
        t.spt.replies = ahead ++ replyIs 0x31 tag .worn [] :: behind ∧
        sameBut [.profile, .replies, .free] s t) ∧
    (∀ k, s.pfs.commit = some { contents := k, tag := none } → exec (.commitCompletion true) s =
      .next { s with pfs := { s.pfs with stored := .good k, counts := k.regs, status := .valid, commit := none } })

/-- An accepted WRITE_PARAM replaces one working value, answers with it and makes the status MODIFIED; a value outside
its range, a commit in flight or a mode other than SERVICE refuses it with no change. At the write the blocks evaluate
again what their rules say: the rope by the table of R35 (all conditions of speed and carriage at each of its
parameters, where the table names some: the others are as they were), the overdue checks with the bounds that then
stand, a record standing, the tower table and its conditions by R137, and the conditions of the station list and the
storage rail. RESTORE_DEFAULTS gives every parameter its default, keeps registrations and launch counts, and evaluates
all of them, the rope's as if each were written in turn. Neither changes RD, DIRECTION, the period windows or the stored
copy. -/
def Obligations.WorkingProfileTakesItsValues : Prop :=
  ∀ (s : State) (tag : Byte), s.serving →
    (∀ (q i a b c d : Byte) (x : Param), Param.ofNumber q.toNat i.toNat = some x →
      (let body := [q, i, a, b, c, d]
       let v := be32 a b c d
       (s.ssv.mode ≠ .service → exec (.writeParam tag body) s = .next (s.answered (replyIs 0x30 tag .wrongMode []))) ∧
       (s.ssv.mode = .service → s.pfs.commit.isSome →
         exec (.writeParam tag body) s = .next (s.answered (replyIs 0x30 tag .busy []))) ∧
       (s.ssv.mode = .service → s.pfs.commit = none → v < x.lo ∨ x.hi s.pfs.working < v →
         exec (.writeParam tag body) s = .next (s.answered (replyIs 0x30 tag .badValue []))) ∧
       (s.ssv.mode = .service → s.pfs.commit = none → x.lo ≤ v → v ≤ x.hi s.pfs.working →
         ∃ t, exec (.writeParam tag body) s = .next t ∧ t.pfs.working.get x = v ∧
           (∀ y, y ≠ x → t.pfs.working.get y = s.pfs.working.get y) ∧
           t.pfs = { s.pfs with working := t.pfs.working, status := .modified } ∧
           t.spt.replies = s.spt.replies ++ [replyIs 0x30 tag .ok [a, b, c, d]] ∧
           t.position = s.position ∧ t.rmu.direction = s.rmu.direction ∧
           t.rmu.mw.window = s.rmu.mw.window ∧ t.rmu.bw.window = s.rmu.bw.window ∧
           t.rmu.tension = s.rmu.tension ∧
           ropeFollows x s t ∧ towersFollow x s t ∧ overdueChecked s t ∧ t.trackJudged ∧
           sameBut ([.rope, .towers, .profile, .rx, .replies] ++ Block.settled) s t))) ∧
    (∀ q i a b c d : Byte, Param.ofNumber q.toNat i.toNat = none →
      exec (.writeParam tag [q, i, a, b, c, d]) s = .next (s.answered (replyIs 0x30 tag .badValue []))) ∧
    (s.ssv.mode ≠ .service → exec (.restoreDefaults tag []) s = .next (s.answered (replyIs 0x32 tag .wrongMode []))) ∧
    (s.ssv.mode = .service → s.pfs.commit.isSome →
      exec (.restoreDefaults tag []) s = .next (s.answered (replyIs 0x32 tag .busy []))) ∧
    (s.ssv.mode = .service → s.pfs.commit = none →
      ∃ t, exec (.restoreDefaults tag []) s = .next t ∧ (∀ y, t.pfs.working.get y = Params.default.get y) ∧
        t.pfs = { s.pfs with working := Params.default, status := .modified } ∧
        t.spt.replies = s.spt.replies ++ [replyIs 0x32 tag .ok []] ∧ t.position = s.position ∧
        t.rmu.direction = s.rmu.direction ∧ t.rmu.mw.window = s.rmu.mw.window ∧
        t.rmu.bw.window = s.rmu.bw.window ∧ t.rmu.tension = s.rmu.tension ∧
        (let n := Params.default.towerCount
         let l := s.lkc.towers.entries
         t.lkc.towers = { s.lkc.towers with
           entries := List.map (TowerEntry.staleAt Params.default.towerStale s.rmu.rd)
             (l.take n ++ List.replicate (n - l.length) ⟨.unknown, 0, 0, none⟩) }) ∧
        t.lkc.towers.entries.length = Params.default.towerCount ∧
        ropeRestoredFrom s t ∧ t.towersJudged ∧ overdueChecked s t ∧ t.trackJudged ∧
        sameBut ([.rope, .towers, .profile, .rx, .replies] ++ Block.settled) s t)

/-- RESET_PART is refused BUSY during a commit. Accepted, its OK joins the replies and the receiver stops: from then on
characters, gaps, breaks and requests change nothing. -/
def Obligations.ResetPartStopsTheReceiver : Prop :=
  ∀ (s : State) (tag : Byte), s.serving →
    (s.pfs.commit.isSome → exec (.resetPart tag []) s = .next (s.answered (replyIs 0x2E tag .busy []))) ∧
    (s.pfs.commit = none → ∃ t, exec (.resetPart tag []) s = .next t ∧
      t = { s with spt := { s.spt with
        rx := .hunting
        stopped := true
        replies := s.spt.replies ++ [.ready ⟨0xAE, tag, .ok, [], true⟩] } } ∧
      ∀ c, (∃ l, c = .badFrame l) ∨ c = .frameGapTimeout ∨ c = .breakReceived ∨ (requestParts c).isSome →
        exec c t = .next t)

/-! ### Requests on cabins, track and launches (chapters 1, 3, 4, 5 and 8) -/

/-- Registration in SERVICE without a commit in flight, refused WRONG_MODE in the other modes and BUSY during a commit. A
number outside 1..96 is BAD_VALUE for the two requests and for CABIN_SERVICED, in every mode and before any other check.
REGISTER_CABIN registers a number as it stands with the count, the due flag recomputed; UNREGISTER_CABIN gives one that
is UNPLACED or WITHDRAWN the unregistered record; both make the status MODIFIED (the launch counts of the working
profile, as last loaded or committed, are CommitFixesAndStoresTheProfile's), and a registered cabin located elsewhere
refuses both WRONG_STATE. CABIN_SERVICED sets the count of a cabin in STORAGE or WITHDRAWN to 0 and clears its due flag
in every mode, and is refused WRONG_STATE elsewhere and NOT_FOUND for an unregistered cabin. -/
def Obligations.RegistrationAndServiceCounts : Prop :=
  ∀ (s : State) (tag : Byte) (c : Cabin) (a b : Byte), s.serving →
    (let n : Byte := BitVec.ofNat 8 (c.val + 1)
     let count := a.toNat * 256 + b.toNat
     let r := s.cab c
     let p := s.pfs.working
     let aside := r.location = .unplaced ∨ r.location = .withdrawn
     (s.ssv.mode ≠ .service →
       exec (.registerCabin tag [n, a, b]) s = .next (s.answered (replyIs 0x01 tag .wrongMode [])) ∧
       exec (.unregisterCabin tag [n]) s = .next (s.answered (replyIs 0x02 tag .wrongMode []))) ∧
     (s.ssv.mode = .service → s.pfs.commit.isSome →
       exec (.registerCabin tag [n, a, b]) s = .next (s.answered (replyIs 0x01 tag .busy [])) ∧
       exec (.unregisterCabin tag [n]) s = .next (s.answered (replyIs 0x02 tag .busy []))) ∧
     (s.ssv.mode = .service → s.pfs.commit = none →
       (r.registered = false ∨ aside → ∃ counts, exec (.registerCabin tag [n, a, b]) s =
         .next { s.answered (replyIs 0x01 tag .ok []) with
           pfs := { s.pfs with status := .modified, counts := counts },
           cabins := s.cabins.set c { r with
             registered := true
             launches := count
             due := p.serviceLaunches != 0 && decide (p.serviceLaunches ≤ count) } }) ∧
       (r.registered = true → ¬aside →
         exec (.registerCabin tag [n, a, b]) s = .next (s.answered (replyIs 0x01 tag .wrongState [])) ∧
         exec (.unregisterCabin tag [n]) s = .next (s.answered (replyIs 0x02 tag .wrongState []))) ∧
       (r.registered = false →
         exec (.unregisterCabin tag [n]) s = .next (s.answered (replyIs 0x02 tag .notFound []))) ∧
       (r.registered = true → aside → ∃ counts, exec (.unregisterCabin tag [n]) s =
         .next { s.answered (replyIs 0x02 tag .ok []) with
           pfs := { s.pfs with status := .modified, counts := counts },
           cabins := s.cabins.set c ⟨false, .unplaced, .unknown, .none, 0, 0, false, false⟩ })) ∧
     (r.registered = true → r.location = .storage ∨ r.location = .withdrawn →
       exec (.cabinServiced tag [n]) s =
         .next { s.answered (replyIs 0x08 tag .ok []) with
           cabins := s.cabins.set c { r with launches := 0, due := false } }) ∧
     (r.registered = true → r.location ≠ .storage → r.location ≠ .withdrawn →
       exec (.cabinServiced tag [n]) s = .next (s.answered (replyIs 0x08 tag .wrongState []))) ∧
     (r.registered = false →
       exec (.cabinServiced tag [n]) s = .next (s.answered (replyIs 0x08 tag .notFound []))) ∧
     (∀ m : Byte, m.toNat = 0 ∨ 96 < m.toNat →
       exec (.registerCabin tag [m, a, b]) s = .next (s.answered (replyIs 0x01 tag .badValue [])) ∧
       exec (.unregisterCabin tag [m]) s = .next (s.answered (replyIs 0x02 tag .badValue [])) ∧
       exec (.cabinServiced tag [m]) s = .next (s.answered (replyIs 0x08 tag .badValue []))))

/-- Requests that move a cabin by hand. WITHDRAW_CABIN takes a listed cabin with no launch or release of it under way
out of its list, REINSTATE_CABIN in SERVICE puts an UNPLACED or WITHDRAWN one at the storage tail, DECLARE_LOST takes
one off the line (where either takes the head of a line list, its overdue record is discarded with the cause's
condition, and the new head is judged at once; where it does not, a record stays), RETIRE_CABIN writes its flag, and
BIND_ENTRY gives an unidentified entry the identity of an UNPLACED or LOST one, with the entry's grip result, and FOUND
for a LOST one; a grip window and the door tasks of the entry are the cabin's from then on, and the door channels stay
otherwise. No other cabin changes, and no other list entry. Each is refused by the first of its checks that fails, with
no change: BAD_VALUE for a number outside 1..96 and a flag above 1, WRONG_MODE for REINSTATE_CABIN outside SERVICE,
NOT_FOUND for an unregistered cabin and a position beyond the list, and WRONG_STATE for a cabin not where it may be: for
WITHDRAW_CABIN also that of the launch in flight and the storage head under a release, for BIND_ENTRY also an identified
entry. -/
def Obligations.CabinsAreMovedByHand : Prop :=
  (∀ (s : State) (tag : Byte) (c : Cabin), s.serving → (s.cab c).registered = true →
    (let n : Byte := BitVec.ofNat 8 (c.val + 1)
     let r := s.cab c
     let kept : State → Prop := fun t => ∀ d, d ≠ c → t.cab d = s.cab d
     let left : State → Prop := fun t =>
       t.lists.station = (if r.location = .station then s.lists.station.filter (fun x => x.who != .cabin c)
         else s.lists.station) ∧
       t.lists.storage = (if r.location = .storage then s.lists.storage.filter (fun x => x != c)
         else s.lists.storage) ∧
       t.lists.upLine = (if r.location = .upLine then s.lists.upLine.filter (fun x => x.cabin != c)
         else s.lists.upLine) ∧
       t.lists.summit = (if r.location = .summit then s.lists.summit.filter (fun x => x.cabin != c)
         else s.lists.summit) ∧
       t.lists.downLine = (if r.location = .downLine then s.lists.downLine.filter (fun x => x.cabin != c)
         else s.lists.downLine)
     let head := fun (l : List LineEntry) => l.head?.map LineEntry.cabin
     let judged : State → Prop := fun t =>
       (if head t.lists.upLine = head s.lists.upLine then s.ltu.overUp.isSome → t.ltu.overUp = s.ltu.overUp
        else (s.upChecked → t.ltu.overUp = s.lateHead t.lists.upLine) ∧ (¬s.upChecked → t.ltu.overUp = none) ∧
          (s.active .overdueUp = s.ltu.overUp.isSome → t.active .overdueUp = t.ltu.overUp.isSome)) ∧
       (if head t.lists.downLine = head s.lists.downLine then s.ltu.overDown.isSome → t.ltu.overDown = s.ltu.overDown
        else t.ltu.overDown = s.lateHead t.lists.downLine ∧
          (s.active .overdueDown = s.ltu.overDown.isSome → t.active .overdueDown = t.ltu.overDown.isSome))
     (r.location ≠ .unplaced → r.location ≠ .withdrawn → r.location ≠ .lost →
       (∀ f, s.lnu.flight = some f → f.cabin ≠ c) → s.stu.release = none ∨ s.lists.storage.head? ≠ some c →
       ∃ t, exec (.withdrawCabin tag [n]) s = .next t ∧ left t ∧ kept t ∧ judged t ∧
         t.cab c = { r with location := .withdrawn, door := .unknown, grip := .none, force := 0 } ∧
         t.spt.replies = s.spt.replies ++ [replyIs 0x05 tag .ok []] ∧
         sameBut ([.cabins, .lists, .rx, .replies] ++ Block.settled) s t) ∧
     (s.ssv.mode = .service → r.location = .unplaced ∨ r.location = .withdrawn →
       ∃ t, exec (.reinstateCabin tag [n]) s = .next t ∧ kept t ∧ t.lists.storage = s.lists.storage ++ [c] ∧
         t.lists.storageCount = s.lists.storageCount + 1 ∧ t.lists.station = s.lists.station ∧
         t.lists.upLine = s.lists.upLine ∧ t.lists.summit = s.lists.summit ∧ t.lists.downLine = s.lists.downLine ∧
         t.cab c = { r with location := .storage, door := .unknown, grip := .none, force := 0, retire := false } ∧
         t.spt.replies = s.spt.replies ++ [replyIs 0x06 tag .ok []] ∧
         sameBut ([.cabins, .lists, .rx, .replies] ++ Block.settled) s t) ∧
     (∀ on : Bool, ∃ t, exec (.retireCabin tag [n, if on then 1 else 0]) s = .next t ∧ kept t ∧
       t.cab c = { r with retire := on } ∧ t.spt.replies = s.spt.replies ++ [replyIs 0x07 tag .ok []] ∧
       sameBut ([.cabins, .rx, .replies] ++ Block.settled) s t) ∧
     (r.location = .upLine ∨ r.location = .summit ∨ r.location = .downLine →
       ∃ t, exec (.declareLost tag [n]) s = .next t ∧ left t ∧ kept t ∧ judged t ∧
         t.cab c = { r with location := .lost } ∧
         t.spt.replies = s.spt.replies ++ [replyIs 0x13 tag .ok []] ∧
         sameBut ([.cabins, .lists, .rx, .replies] ++ Block.settled) s t) ∧
     (∀ (position : Byte) (e : StationEntry) (grip : GripResult) (force : Nat),
       s.lists.station[position.toNat]? = some e → e.who = .unidentified grip force →
       r.location = .unplaced ∨ r.location = .lost →
       ∃ t, exec (.bindEntry tag [position, n]) s = .next t ∧ kept t ∧
         t.lists.station = s.lists.station.map (fun x => if x.id = e.id then { x with who := .cabin c } else x) ∧
         t.lists.stationCount = s.lists.stationCount + 1 ∧ t.lists.storage = s.lists.storage ∧
         t.lists.upLine = s.lists.upLine ∧ t.lists.summit = s.lists.summit ∧ t.lists.downLine = s.lists.downLine ∧
         t.cab c = { r with location := .station, door := .unknown, grip := grip, force := force } ∧
         t.lnu.window = s.lnu.window.map (fun w => if w.entry = e.id then { w with cabin := some c } else w) ∧
         t.lnu.hostHold = s.lnu.hostHold ∧ t.lnu.lastResult = s.lnu.lastResult ∧
         t.dru.opener = s.dru.opener.boundTo e.id c ∧ t.dru.closer = s.dru.closer.boundTo e.id c ∧
         sends (Notice.ofKind 0xC4) (if r.location = .lost then [.cabinEvent .found c] else []) s t ∧
         t.spt.replies = s.spt.replies ++ [replyIs 0x0A tag .ok []] ∧
         sameBut ([.cabins, .lists, .doors, .window, .rx, .replies] ++ Block.settled) s t))) ∧
  ∀ (s : State) (tag : Byte), s.serving →
    (let refuses := fun (c : Instr) (kind : Byte) (st : Status) => exec c s = .next (s.answered (replyIs kind tag st []))
     let number := fun (c : Cabin) => (BitVec.ofNat 8 (c.val + 1) : Byte)
     (∀ n x : Byte, n.toNat = 0 ∨ 96 < n.toNat →
       refuses (.withdrawCabin tag [n]) 0x05 .badValue ∧ refuses (.reinstateCabin tag [n]) 0x06 .badValue ∧
         refuses (.retireCabin tag [n, x]) 0x07 .badValue ∧ refuses (.bindEntry tag [x, n]) 0x0A .badValue ∧
         refuses (.declareLost tag [n]) 0x13 .badValue) ∧
     (∀ (c : Cabin) (x : Byte), 1 < x.toNat → refuses (.retireCabin tag [number c, x]) 0x07 .badValue) ∧
     (∀ c : Cabin, s.ssv.mode ≠ .service → refuses (.reinstateCabin tag [number c]) 0x06 .wrongMode) ∧
     (∀ (c : Cabin) (x : Byte), (s.cab c).registered = false →
       refuses (.withdrawCabin tag [number c]) 0x05 .notFound ∧
         (s.ssv.mode = .service → refuses (.reinstateCabin tag [number c]) 0x06 .notFound) ∧
         (x.toNat ≤ 1 → refuses (.retireCabin tag [number c, x]) 0x07 .notFound) ∧
         refuses (.bindEntry tag [x, number c]) 0x0A .notFound ∧ refuses (.declareLost tag [number c]) 0x13 .notFound) ∧
     (∀ c : Cabin, (s.cab c).registered = true →
       (let l := (s.cab c).location
        (l = .unplaced ∨ l = .withdrawn ∨ l = .lost ∨ (∃ f, s.lnu.flight = some f ∧ f.cabin = c) ∨
            s.stu.release.isSome ∧ s.lists.storage.head? = some c →
          refuses (.withdrawCabin tag [number c]) 0x05 .wrongState) ∧
        (s.ssv.mode = .service → l ≠ .unplaced → l ≠ .withdrawn →
          refuses (.reinstateCabin tag [number c]) 0x06 .wrongState) ∧
        (l ≠ .upLine → l ≠ .summit → l ≠ .downLine → refuses (.declareLost tag [number c]) 0x13 .wrongState) ∧
        ∀ position : Byte,
          (s.lists.station[position.toNat]? = none → refuses (.bindEntry tag [position, number c]) 0x0A .notFound) ∧
          ∀ e, s.lists.station[position.toNat]? = some e →
            (∃ d, e.who = .cabin d) ∨ l ≠ .unplaced ∧ l ≠ .lost →
            refuses (.bindEntry tag [position, number c]) 0x0A .wrongState)))

/-- Requests that start a stroke, each with its checks met. SET_SWITCH and DRIVE_TEST command the channel toward the end
asked, by its state: at that end or on the way to it nothing changes; from the other end, and from UNKNOWN toward END_A
(homing), a stroke starts; one on the way to the other end is reversed, its peak current kept; a BLOCKED channel starts
a stroke, or comes to rest at once where that end is active, with a DRIVE_EVENT COMPLETED; and from FAULT DRIVE_TEST
toward END_A does what it does from BLOCKED. RELEASE_FROM_STORAGE, with the RELEASE channel AT_A and no entry in
SEG-OPN, starts a release and its stroke. Each is refused by the first of its checks that fails, with no change.
SET_SWITCH: BAD_VALUE, WRONG_MODE outside SERVICE, WRONG_STATE in FAULT and from UNKNOWN toward STORE, BUSY without the
clearance. DRIVE_TEST: BAD_VALUE, WRONG_MODE, WRONG_STATE toward END_B from UNKNOWN and FAULT and toward END_A from
FAULT with both ends active, BUSY with a door task, a release or a launch on its channel, or for the SWITCH without the
clearance. RELEASE_FROM_STORAGE: WRONG_MODE in START, NOT_FOUND with the list empty, BUSY with a release in flight,
WRONG_STATE with the channel not AT_A, and REFUSED with an entry in SEG-OPN. -/
def Obligations.StationRequestsStartStrokes : Prop :=
  ∀ (s : State) (tag : Byte), s.serving →
    (let clear := ∀ x, s.stu.lastArr = some x → (s.pfs.working.switchClear : Int) ≤ distance s.rmu.rd x
     let stopped := fun (ch : Channel) =>
       { s with dru := s.dru.put ch { s.dru.get ch with state := .blocked } }
     (∀ e : End, s.ssv.mode = .service → s.dru.switch.state ≠ .fault →
       ¬(s.dru.switch.state = .unknown ∧ e = .b) → clear →
       exec (.setSwitch tag [if e = .a then 0 else 1]) s =
         .next ((s.commanded .switch e).answered (replyIs 0x0B tag .ok []))) ∧
     (∀ (ch : Channel) (e : End), s.ssv.mode = .service → (ch = .switch → clear) →
       (ch = .opener ∨ ch = .closer → (s.dru.get ch).task = none) → (ch = .release → s.stu.release = none) →
       (ch = .gate → s.lnu.flight = none) →
       (let code : Byte := match ch with | .opener => 1 | .closer => 2 | .switch => 3 | .release => 4 | .gate => 5
        let d := s.dru.get ch
        (d.state ≠ .fault → ¬(d.state = .unknown ∧ e = .b) →
          exec (.driveTest tag [code, if e = .a then 0 else 1]) s =
            .next ((s.commanded ch e).answered (replyIs 0x0E tag .ok []))) ∧
        (d.state = .fault → e = .a → ¬(d.endA.level = true ∧ d.endB.level = true) →
          exec (.driveTest tag [code, 0]) s =
            .next (((stopped ch).commanded ch .a).answered (replyIs 0x0E tag .ok []))))) ∧
     (∀ (c : Cabin) (rest : List Cabin), s.ssv.mode = .service ∨ s.ssv.mode = .run → s.lists.storage = c :: rest →
       s.stu.release = none → s.dru.release.state = .atA → (∀ x ∈ s.lists.station, x.segment ≠ .opn) →
       exec (.releaseFromStorage tag []) s =
         .next { s.answered (replyIs 0x0C tag .ok []) with
           stu := { s.stu with release := some { cabin := c, completion := none } },
           dru := { s.dru with release := { s.dru.release with
             state := .toB, strokeStart := some s.clock.ms, run := 0, peak := 0 } } }) ∧
     (let refuses := fun (c : Instr) (kind : Byte) (st : Status) => exec c s = .next (s.answered (replyIs kind tag st []))
      (∀ n : Byte, 1 < n.toNat → refuses (.setSwitch tag [n]) 0x0B .badValue) ∧
      (∀ n : Byte, n = 0 ∨ n = 1 →
        (let bars := s.dru.switch.state = .fault ∨ s.dru.switch.state = .unknown ∧ n = 1
         (s.ssv.mode ≠ .service → refuses (.setSwitch tag [n]) 0x0B .wrongMode) ∧
         (s.ssv.mode = .service → bars → refuses (.setSwitch tag [n]) 0x0B .wrongState) ∧
         (s.ssv.mode = .service → ¬bars → ¬clear → refuses (.setSwitch tag [n]) 0x0B .busy))) ∧
      (∀ k e : Byte, k.toNat = 0 ∨ 5 < k.toNat ∨ 1 < e.toNat → refuses (.driveTest tag [k, e]) 0x0E .badValue) ∧
      (∀ (ch : Channel) (e : End),
        (let body : List Byte := [match ch with | .opener => 1 | .closer => 2 | .switch => 3 | .release => 4 | .gate => 5,
           if e = .a then 0 else 1]
         let d := s.dru.get ch
         let bars := e = .b ∧ (d.state = .unknown ∨ d.state = .fault) ∨
           e = .a ∧ d.state = .fault ∧ d.endA.level = true ∧ d.endB.level = true
         let used := (ch = .opener ∨ ch = .closer) ∧ d.task.isSome ∨ ch = .release ∧ s.stu.release.isSome ∨
           ch = .gate ∧ s.lnu.flight.isSome ∨ ch = .switch ∧ ¬clear
         (s.ssv.mode ≠ .service → refuses (.driveTest tag body) 0x0E .wrongMode) ∧
         (s.ssv.mode = .service → bars → refuses (.driveTest tag body) 0x0E .wrongState) ∧
         (s.ssv.mode = .service → ¬bars → used → refuses (.driveTest tag body) 0x0E .busy))) ∧
      (let refused := refuses (.releaseFromStorage tag []) 0x0C
       (s.ssv.mode = .start → refused .wrongMode) ∧
       (s.ssv.mode ≠ .start → s.lists.storage = [] → refused .notFound) ∧
       (s.ssv.mode ≠ .start → s.lists.storage ≠ [] →
         (s.stu.release.isSome → refused .busy) ∧
         (s.stu.release = none → s.dru.release.state ≠ .atA → refused .wrongState) ∧
         (s.stu.release = none → s.dru.release.state = .atA → (∃ x ∈ s.lists.station, x.segment = .opn) →
           refused .refused)))))

/-- HOLD_LAUNCHES sets the host hold flag and RESUME_LAUNCHES clears it, in every mode and with reply OK whether or
not the flag changes. While it is set HOST_HOLD is active, the effective demand is at least HOLD and no launch is
decided: from a state in which that holds every step leads to one in which it does, or clears the flag, and a step that
leaves the flag set decides no launch (a BAD_FRAME, whose characters may carry several requests, may clear the flag and
set it again, and is left out there). A launch in flight is not affected. Every reset clears it. -/
def Obligations.HostHoldHoldsLaunches : Prop :=
  (∀ s t : State, s.stopsFollow → (s.lnu.hostHold = true → s.active .hostHold = true) → step s = .next t →
    t.lnu.hostHold = true →
    t.active .hostHold = true ∧ (t.ssv.demand = .hold ∨ t.ssv.demand = .service ∨ t.ssv.demand = .emergency) ∧
    (s.lnu.hostHold = true → (∀ chars rest, s.pending ≠ .badFrame chars :: rest) →
      t.lnu.rdL = s.lnu.rdL ∧ (s.lnu.flight = none → t.lnu.flight = none))) ∧
  ∀ (s : State) (tag : Byte), s.serving → s.stopsFollow →
    (∃ t, exec (.holdLaunches tag []) s = .next t ∧ t.lnu.hostHold = true ∧ t.active .hostHold = true ∧
      (t.ssv.demand = .hold ∨ t.ssv.demand = .service ∨ t.ssv.demand = .emergency) ∧
      t.lnu.rdL = s.lnu.rdL ∧ t.lnu.flight = s.lnu.flight ∧ t.lnu.window = s.lnu.window ∧
      t.lnu.lastResult = s.lnu.lastResult ∧ t.spt.replies = s.spt.replies ++ [replyIs 0x10 tag .ok []] ∧
      exec .launchDecision t = .next t ∧
      sameBut ([.window, .rx, .replies] ++ Block.settled) s t) ∧
    (∃ t, exec (.resumeLaunches tag []) s = .next t ∧ t.lnu.hostHold = false ∧ t.active .hostHold = false ∧
      (s.lnu.flight.isSome → t.lnu.flight = s.lnu.flight ∧ t.lnu.rdL = s.lnu.rdL) ∧
      t.lnu.window = s.lnu.window ∧ t.lnu.lastResult = s.lnu.lastResult ∧
      t.spt.replies = s.spt.replies ++ [replyIs 0x11 tag .ok []] ∧
      sameBut ([.window, .rx, .replies] ++ Block.settled) s t) ∧
    (∀ c t, c = .powerOn ∨ c = .resetnAsserted ∨ c = .hostResetEntry ∨ c = .supplyLoss → exec c s = .next t →
      t.ssv.mode = .off → t.lnu.hostHold = false)

/-- The line texts; one of another length is BAD_VALUE. SEND_LINE_TEXT joins a text of 1 to 48 bytes to the transmit
queue when host occupancy and queue occupancy leave room, and is refused FULL otherwise; SEND_PRIORITY_TEXT places one
of 1 to 15 bytes in a free priority slot, and is refused BUSY otherwise; READ_LINE_TEXT frees the oldest held text,
evaluates the own pause, and is refused NOT_FOUND with none held. (That the data of READ_LINE_TEXT is the text without a
length byte and then the number still held is the model's choice, log entry 20.) -/
def Obligations.TextsAreQueuedAndRead : Prop :=
  ∀ (s : State) (tag : Byte) (text : List Byte), s.serving → text ≠ [] →
    (let r := s.lkc.chan
     let host := ((r.queue.filter fun x => x.origin == .host).map fun x => 1 + x.body.length).sum
     let all := (r.queue.map fun x => 1 + x.body.length).sum + (if r.reserved then 5 else 0)
     let room := host + (1 + text.length) ≤ 96 ∧ all + (1 + text.length) ≤ 128
     (text.length ≤ 48 → room → ∃ t, exec (.sendLineText tag text) s = .next t ∧
       t.lkc.chan = { r with
         queue := r.queue ++ [{ kind := .text, body := text, origin := .host }]
         reserved := t.lkc.chan.reserved } ∧
       t.spt.replies = s.spt.replies ++ [replyIs 0x17 tag .ok []] ∧
       sameBut ([.channel, .rx, .replies] ++ Block.settled) s t) ∧
     (text.length ≤ 48 → ¬room →
       exec (.sendLineText tag text) s = .next (s.answered (replyIs 0x17 tag .full []))) ∧
     (∀ x : List Byte, x = [] ∨ 48 < x.length →
       exec (.sendLineText tag x) s = .next (s.answered (replyIs 0x17 tag .badValue []))) ∧
     (∀ x : List Byte, x = [] ∨ 15 < x.length →
       exec (.sendPriorityText tag x) s = .next (s.answered (replyIs 0x18 tag .badValue []))) ∧
     (text.length ≤ 15 → r.priority = none → exec (.sendPriorityText tag text) s =
       .next { s.answered (replyIs 0x18 tag .ok []) with lkc := { s.lkc with chan := { r with
         priority := some { kind := .text, body := text, origin := .host } } } }) ∧
     (text.length ≤ 15 → r.priority.isSome →
       exec (.sendPriorityText tag text) s = .next (s.answered (replyIs 0x18 tag .busy []))) ∧
     (r.texts = [] → exec (.readLineText tag []) s = .next (s.answered (replyIs 0x19 tag .notFound []))) ∧
     (∀ rest, r.texts = text :: rest → exec (.readLineText tag []) s =
       (let fill := (match r.assembly with
          | some a => a.bytes.length
          | none => 0) + (rest.map fun x => x.length + 2).sum
        .next { s.answered (replyIs 0x19 tag .ok (text ++ [BitVec.ofNat 8 rest.length])) with
          lkc := { s.lkc with chan := { r with
            texts := rest
            ownPause := pauseAfter rest.length fill r.ownPause } } })))

/-! ### Codings and invariants -/

/-- What is coded is read back: the seven fields of a control word, the byte and flags of a message slot, the eight
slots of a line cycle from its 128 bits with whatever follows them, and the KIND, TAG and body of a frame of the station
port with whatever follows it. -/
def Obligations.CodingsAreReadBack : Prop :=
  (∀ (n : BitVec 4) (permit : Bool) (stop : BitVec 2) (pause : Bool) (a b : BitVec 3) (m : BitVec 2),
    let w := controlWord n permit stop pause a b m
    ctlNumber w = n ∧ ctlPermit w = permit ∧ ctlStop w = stop ∧ ctlPause w = pause ∧ ctlCodeA w = a ∧
      ctlCodeB w = b ∧ ctlMode w = m) ∧
  (∀ (x : Byte) (last : Bool), slotPresent (slotOf x last) = true ∧ slotEnd (slotOf x last) = last ∧
    slotByte (slotOf x last) = x) ∧
  (∀ (c : LineCycle) (rest : List RxBit), (LineCycle.bits c).length = 128 ∧
    RxCycle.ofBits (LineCycle.bits c ++ rest) = { slots := c, violation := false }) ∧
  ∀ (kind tag : Byte) (body rest : List Byte), body.length ≤ 248 →
    (frameBytes kind tag body).head? = some 0xD5 ∧ (frameBytes kind tag body).length = body.length + 6 ∧
      parseFrame ((frameBytes kind tag body).drop 1 ++ rest) = .frame kind tag body rest

/-- Every step keeps the conditions that State.Kept names. The demand is the highest standing category, the stop lines
follow mode and demand, no HOLD cause is latched, the port's queues, station list, receive store and rope measurement
are within the bounds of R193, R7, R149 and R22 to R33, and each cabin stands once in the list of its location and in no
other (with station entries told apart by numbers of the model's own, log entry 23). An overdue record is that of the
head of its list with its cause active, and a head beyond the bound has its record, for the up-line while its check
runs. Under a release the storage head is its cabin; a hold start stands exactly while a door or grip hold is active.
Active exactly while their conditions hold are STATION_FULL, STATION_STALL, STORAGE_FULL, the five HOLD causes (with
their last details), OVERSPEED, OVERSPEED_HIGH, the two tension conditions, the three of the towers and the three of the
far end's control word; no event cause is ever seen active, and all but HOLD causes only latched. SLIP is active only
beyond SLIP_LIMIT, where there is a start, and from SLIP_HOLD_MM on; LINK_LOST only out of LOCKED, where there is an
out-of-lock start, with both calls IDLE; HOST_SILENT while the deadline is missed, and not before a KEEPALIVE under the
entry allowance; the two host stops exactly while latched. Each call has the timer of its state and is silent outside
CONNECTED. The transmit queue holds at most 128 bytes with a reservation, which stands exactly with a launch in flight,
and 96 of the host's; the record in assembly 50; the bad run is below 16, the sound cycles in CONFIRM 1 to 3, an
expected number stands exactly in LOCKED, and less than a cycle's bits are held (the model's, log entry 9). The profile
is loaded exactly in SERVICE and RUN. In RUN the wanted route is that of the down-line head; outside there is none. -/
def Obligations.EveryStepKeepsTheInvariants : Prop := ∀ s t : State, step s = .next t → s.Kept → t.Kept

/-- The conditions that every step keeps hold right after a reset. -/
def Obligations.ResetMeetsTheInvariants : Prop := State.reset.Kept
end

