-- ==== Sys2Proof/Laws/State.lean ====
section
/-! SUPPORT. What each update of one field of the state leaves in every field: one lemma per field and update. -/

-- One lemma after the other: side by side, their proofs need more memory in the joined text than the check has.
set_option Elab.async false

namespace Sys2Proof.Machine

/-! ### putCause -/

@[simp] theorem putCause_pins (c : Cause) (e : CauseEntry) (s : State) : (putCause c e s).pins = s.pins := rfl
@[simp] theorem putCause_clock (c : Cause) (e : CauseEntry) (s : State) : (putCause c e s).clock = s.clock := rfl
@[simp] theorem putCause_supply (c : Cause) (e : CauseEntry) (s : State) : (putCause c e s).supply = s.supply := rfl
@[simp] theorem putCause_resetCause (c : Cause) (e : CauseEntry) (s : State) :
    (putCause c e s).resetCause = s.resetCause := rfl
@[simp] theorem putCause_loaded (c : Cause) (e : CauseEntry) (s : State) : (putCause c e s).loaded = s.loaded := rfl
@[simp] theorem putCause_rmu (c : Cause) (e : CauseEntry) (s : State) : (putCause c e s).rmu = s.rmu := rfl
@[simp] theorem putCause_asc (c : Cause) (e : CauseEntry) (s : State) : (putCause c e s).asc = s.asc := rfl
@[simp] theorem putCause_cabins (c : Cause) (e : CauseEntry) (s : State) : (putCause c e s).cabins = s.cabins := rfl
@[simp] theorem putCause_lists (c : Cause) (e : CauseEntry) (s : State) : (putCause c e s).lists = s.lists := rfl
@[simp] theorem putCause_stu (c : Cause) (e : CauseEntry) (s : State) : (putCause c e s).stu = s.stu := rfl
@[simp] theorem putCause_dru (c : Cause) (e : CauseEntry) (s : State) : (putCause c e s).dru = s.dru := rfl
@[simp] theorem putCause_lnu (c : Cause) (e : CauseEntry) (s : State) : (putCause c e s).lnu = s.lnu := rfl
@[simp] theorem putCause_ltu (c : Cause) (e : CauseEntry) (s : State) : (putCause c e s).ltu = s.ltu := rfl
@[simp] theorem putCause_lkc (c : Cause) (e : CauseEntry) (s : State) : (putCause c e s).lkc = s.lkc := rfl
@[simp] theorem putCause_phn (c : Cause) (e : CauseEntry) (s : State) : (putCause c e s).phn = s.phn := rfl
@[simp] theorem putCause_ssv (c : Cause) (e : CauseEntry) (s : State) :
    (putCause c e s).ssv = { s.ssv with causes := s.ssv.causes.set c.ix.val e c.ix.isLt } := rfl
@[simp] theorem putCause_tal (c : Cause) (e : CauseEntry) (s : State) : (putCause c e s).tal = s.tal := rfl
@[simp] theorem putCause_spt (c : Cause) (e : CauseEntry) (s : State) : (putCause c e s).spt = s.spt := rfl
@[simp] theorem putCause_pfs (c : Cause) (e : CauseEntry) (s : State) : (putCause c e s).pfs = s.pfs := rfl
@[simp] theorem putCause_free (c : Cause) (e : CauseEntry) (s : State) : (putCause c e s).free = s.free := rfl
@[simp] theorem putCause_pending (c : Cause) (e : CauseEntry) (s : State) :
    (putCause c e s).pending = s.pending := rfl

/-! ### driveLines -/

@[simp] theorem driveLines_pins (s : State) : (driveLines s).pins = s.pins := rfl
@[simp] theorem driveLines_clock (s : State) : (driveLines s).clock = s.clock := rfl
@[simp] theorem driveLines_supply (s : State) : (driveLines s).supply = s.supply := rfl
@[simp] theorem driveLines_resetCause (s : State) : (driveLines s).resetCause = s.resetCause := rfl
@[simp] theorem driveLines_loaded (s : State) : (driveLines s).loaded = s.loaded := rfl
@[simp] theorem driveLines_rmu (s : State) : (driveLines s).rmu = s.rmu := rfl
@[simp] theorem driveLines_asc (s : State) : (driveLines s).asc = s.asc := rfl
@[simp] theorem driveLines_cabins (s : State) : (driveLines s).cabins = s.cabins := rfl
@[simp] theorem driveLines_lists (s : State) : (driveLines s).lists = s.lists := rfl
@[simp] theorem driveLines_stu (s : State) : (driveLines s).stu = s.stu := rfl
@[simp] theorem driveLines_dru (s : State) : (driveLines s).dru = s.dru := rfl
@[simp] theorem driveLines_lnu (s : State) : (driveLines s).lnu = s.lnu := rfl
@[simp] theorem driveLines_ltu (s : State) : (driveLines s).ltu = s.ltu := rfl
@[simp] theorem driveLines_lkc (s : State) : (driveLines s).lkc = s.lkc := rfl
@[simp] theorem driveLines_phn (s : State) : (driveLines s).phn = s.phn := rfl
@[simp] theorem driveLines_ssv (s : State) :
    (driveLines s).ssv = { s.ssv with lines := linesOf s.ssv.mode s.ssv.demand } := rfl
@[simp] theorem driveLines_tal (s : State) : (driveLines s).tal = s.tal := rfl
@[simp] theorem driveLines_spt (s : State) : (driveLines s).spt = s.spt := rfl
@[simp] theorem driveLines_pfs (s : State) : (driveLines s).pfs = s.pfs := rfl
@[simp] theorem driveLines_free (s : State) : (driveLines s).free = s.free := rfl
@[simp] theorem driveLines_pending (s : State) : (driveLines s).pending = s.pending := rfl

/-! ### putCounter -/

@[simp] theorem putCounter_pins (k : CounterIx) (r : Counter) (s : State) : (putCounter k r s).pins = s.pins := rfl
@[simp] theorem putCounter_clock (k : CounterIx) (r : Counter) (s : State) : (putCounter k r s).clock = s.clock := rfl
@[simp] theorem putCounter_supply (k : CounterIx) (r : Counter) (s : State) :
    (putCounter k r s).supply = s.supply := rfl
@[simp] theorem putCounter_resetCause (k : CounterIx) (r : Counter) (s : State) :
    (putCounter k r s).resetCause = s.resetCause := rfl
@[simp] theorem putCounter_loaded (k : CounterIx) (r : Counter) (s : State) :
    (putCounter k r s).loaded = s.loaded := rfl
@[simp] theorem putCounter_rmu (k : CounterIx) (r : Counter) (s : State) : (putCounter k r s).rmu = s.rmu := rfl
@[simp] theorem putCounter_asc (k : CounterIx) (r : Counter) (s : State) : (putCounter k r s).asc = s.asc := rfl
@[simp] theorem putCounter_cabins (k : CounterIx) (r : Counter) (s : State) :
    (putCounter k r s).cabins = s.cabins := rfl
@[simp] theorem putCounter_lists (k : CounterIx) (r : Counter) (s : State) : (putCounter k r s).lists = s.lists := rfl
@[simp] theorem putCounter_stu (k : CounterIx) (r : Counter) (s : State) : (putCounter k r s).stu = s.stu := rfl
@[simp] theorem putCounter_dru (k : CounterIx) (r : Counter) (s : State) : (putCounter k r s).dru = s.dru := rfl
@[simp] theorem putCounter_lnu (k : CounterIx) (r : Counter) (s : State) : (putCounter k r s).lnu = s.lnu := rfl
@[simp] theorem putCounter_ltu (k : CounterIx) (r : Counter) (s : State) : (putCounter k r s).ltu = s.ltu := rfl
@[simp] theorem putCounter_lkc (k : CounterIx) (r : Counter) (s : State) : (putCounter k r s).lkc = s.lkc := rfl
@[simp] theorem putCounter_phn (k : CounterIx) (r : Counter) (s : State) : (putCounter k r s).phn = s.phn := rfl
@[simp] theorem putCounter_ssv (k : CounterIx) (r : Counter) (s : State) : (putCounter k r s).ssv = s.ssv := rfl
@[simp] theorem putCounter_tal (k : CounterIx) (r : Counter) (s : State) :
    (putCounter k r s).tal = { s.tal with counters := s.tal.counters.set k.val r k.isLt } := rfl
@[simp] theorem putCounter_spt (k : CounterIx) (r : Counter) (s : State) : (putCounter k r s).spt = s.spt := rfl
@[simp] theorem putCounter_pfs (k : CounterIx) (r : Counter) (s : State) : (putCounter k r s).pfs = s.pfs := rfl
@[simp] theorem putCounter_free (k : CounterIx) (r : Counter) (s : State) : (putCounter k r s).free = s.free := rfl
@[simp] theorem putCounter_pending (k : CounterIx) (r : Counter) (s : State) :
    (putCounter k r s).pending = s.pending := rfl

/-! ### putCab -/

@[simp] theorem putCab_pins (c : Cabin) (r : CabinRecord) (s : State) : (putCab c r s).pins = s.pins := rfl
@[simp] theorem putCab_clock (c : Cabin) (r : CabinRecord) (s : State) : (putCab c r s).clock = s.clock := rfl
@[simp] theorem putCab_supply (c : Cabin) (r : CabinRecord) (s : State) : (putCab c r s).supply = s.supply := rfl
@[simp] theorem putCab_resetCause (c : Cabin) (r : CabinRecord) (s : State) :
    (putCab c r s).resetCause = s.resetCause := rfl
@[simp] theorem putCab_loaded (c : Cabin) (r : CabinRecord) (s : State) : (putCab c r s).loaded = s.loaded := rfl
@[simp] theorem putCab_rmu (c : Cabin) (r : CabinRecord) (s : State) : (putCab c r s).rmu = s.rmu := rfl
@[simp] theorem putCab_asc (c : Cabin) (r : CabinRecord) (s : State) : (putCab c r s).asc = s.asc := rfl
@[simp] theorem putCab_cabins (c : Cabin) (r : CabinRecord) (s : State) :
    (putCab c r s).cabins = s.cabins.set c.val r c.isLt := rfl
@[simp] theorem putCab_lists (c : Cabin) (r : CabinRecord) (s : State) : (putCab c r s).lists = s.lists := rfl
@[simp] theorem putCab_stu (c : Cabin) (r : CabinRecord) (s : State) : (putCab c r s).stu = s.stu := rfl
@[simp] theorem putCab_dru (c : Cabin) (r : CabinRecord) (s : State) : (putCab c r s).dru = s.dru := rfl
@[simp] theorem putCab_lnu (c : Cabin) (r : CabinRecord) (s : State) : (putCab c r s).lnu = s.lnu := rfl
@[simp] theorem putCab_ltu (c : Cabin) (r : CabinRecord) (s : State) : (putCab c r s).ltu = s.ltu := rfl
@[simp] theorem putCab_lkc (c : Cabin) (r : CabinRecord) (s : State) : (putCab c r s).lkc = s.lkc := rfl
@[simp] theorem putCab_phn (c : Cabin) (r : CabinRecord) (s : State) : (putCab c r s).phn = s.phn := rfl
@[simp] theorem putCab_ssv (c : Cabin) (r : CabinRecord) (s : State) : (putCab c r s).ssv = s.ssv := rfl
@[simp] theorem putCab_tal (c : Cabin) (r : CabinRecord) (s : State) : (putCab c r s).tal = s.tal := rfl
@[simp] theorem putCab_spt (c : Cabin) (r : CabinRecord) (s : State) : (putCab c r s).spt = s.spt := rfl
@[simp] theorem putCab_pfs (c : Cabin) (r : CabinRecord) (s : State) : (putCab c r s).pfs = s.pfs := rfl
@[simp] theorem putCab_free (c : Cabin) (r : CabinRecord) (s : State) : (putCab c r s).free = s.free := rfl
@[simp] theorem putCab_pending (c : Cabin) (r : CabinRecord) (s : State) : (putCab c r s).pending = s.pending := rfl

/-! ### putStation -/

@[simp] theorem putStation_pins (l : List StationEntry) (s : State) : (putStation l s).pins = s.pins := rfl
@[simp] theorem putStation_clock (l : List StationEntry) (s : State) : (putStation l s).clock = s.clock := rfl
@[simp] theorem putStation_supply (l : List StationEntry) (s : State) : (putStation l s).supply = s.supply := rfl
@[simp] theorem putStation_resetCause (l : List StationEntry) (s : State) :
    (putStation l s).resetCause = s.resetCause := rfl
@[simp] theorem putStation_loaded (l : List StationEntry) (s : State) : (putStation l s).loaded = s.loaded := rfl
@[simp] theorem putStation_rmu (l : List StationEntry) (s : State) : (putStation l s).rmu = s.rmu := rfl
@[simp] theorem putStation_asc (l : List StationEntry) (s : State) : (putStation l s).asc = s.asc := rfl
@[simp] theorem putStation_cabins (l : List StationEntry) (s : State) : (putStation l s).cabins = s.cabins := rfl
@[simp] theorem putStation_lists (l : List StationEntry) (s : State) :
    (putStation l s).lists = { s.lists with station := l } := rfl
@[simp] theorem putStation_stu (l : List StationEntry) (s : State) : (putStation l s).stu = s.stu := rfl
@[simp] theorem putStation_dru (l : List StationEntry) (s : State) : (putStation l s).dru = s.dru := rfl
@[simp] theorem putStation_lnu (l : List StationEntry) (s : State) : (putStation l s).lnu = s.lnu := rfl
@[simp] theorem putStation_ltu (l : List StationEntry) (s : State) : (putStation l s).ltu = s.ltu := rfl
@[simp] theorem putStation_lkc (l : List StationEntry) (s : State) : (putStation l s).lkc = s.lkc := rfl
@[simp] theorem putStation_phn (l : List StationEntry) (s : State) : (putStation l s).phn = s.phn := rfl
@[simp] theorem putStation_ssv (l : List StationEntry) (s : State) : (putStation l s).ssv = s.ssv := rfl
@[simp] theorem putStation_tal (l : List StationEntry) (s : State) : (putStation l s).tal = s.tal := rfl
@[simp] theorem putStation_spt (l : List StationEntry) (s : State) : (putStation l s).spt = s.spt := rfl
@[simp] theorem putStation_pfs (l : List StationEntry) (s : State) : (putStation l s).pfs = s.pfs := rfl
@[simp] theorem putStation_free (l : List StationEntry) (s : State) : (putStation l s).free = s.free := rfl
@[simp] theorem putStation_pending (l : List StationEntry) (s : State) : (putStation l s).pending = s.pending := rfl

/-! ### putStorage -/

@[simp] theorem putStorage_pins (l : List Cabin) (s : State) : (putStorage l s).pins = s.pins := rfl
@[simp] theorem putStorage_clock (l : List Cabin) (s : State) : (putStorage l s).clock = s.clock := rfl
@[simp] theorem putStorage_supply (l : List Cabin) (s : State) : (putStorage l s).supply = s.supply := rfl
@[simp] theorem putStorage_resetCause (l : List Cabin) (s : State) : (putStorage l s).resetCause = s.resetCause := rfl
@[simp] theorem putStorage_loaded (l : List Cabin) (s : State) : (putStorage l s).loaded = s.loaded := rfl
@[simp] theorem putStorage_rmu (l : List Cabin) (s : State) : (putStorage l s).rmu = s.rmu := rfl
@[simp] theorem putStorage_asc (l : List Cabin) (s : State) : (putStorage l s).asc = s.asc := rfl
@[simp] theorem putStorage_cabins (l : List Cabin) (s : State) : (putStorage l s).cabins = s.cabins := rfl
@[simp] theorem putStorage_lists (l : List Cabin) (s : State) :
    (putStorage l s).lists = { s.lists with storage := l } := rfl
@[simp] theorem putStorage_stu (l : List Cabin) (s : State) : (putStorage l s).stu = s.stu := rfl
@[simp] theorem putStorage_dru (l : List Cabin) (s : State) : (putStorage l s).dru = s.dru := rfl
@[simp] theorem putStorage_lnu (l : List Cabin) (s : State) : (putStorage l s).lnu = s.lnu := rfl
@[simp] theorem putStorage_ltu (l : List Cabin) (s : State) : (putStorage l s).ltu = s.ltu := rfl
@[simp] theorem putStorage_lkc (l : List Cabin) (s : State) : (putStorage l s).lkc = s.lkc := rfl
@[simp] theorem putStorage_phn (l : List Cabin) (s : State) : (putStorage l s).phn = s.phn := rfl
@[simp] theorem putStorage_ssv (l : List Cabin) (s : State) : (putStorage l s).ssv = s.ssv := rfl
@[simp] theorem putStorage_tal (l : List Cabin) (s : State) : (putStorage l s).tal = s.tal := rfl
@[simp] theorem putStorage_spt (l : List Cabin) (s : State) : (putStorage l s).spt = s.spt := rfl
@[simp] theorem putStorage_pfs (l : List Cabin) (s : State) : (putStorage l s).pfs = s.pfs := rfl
@[simp] theorem putStorage_free (l : List Cabin) (s : State) : (putStorage l s).free = s.free := rfl
@[simp] theorem putStorage_pending (l : List Cabin) (s : State) : (putStorage l s).pending = s.pending := rfl

/-! ### putUpLine -/

@[simp] theorem putUpLine_pins (l : List LineEntry) (s : State) : (putUpLine l s).pins = s.pins := rfl
@[simp] theorem putUpLine_clock (l : List LineEntry) (s : State) : (putUpLine l s).clock = s.clock := rfl
@[simp] theorem putUpLine_supply (l : List LineEntry) (s : State) : (putUpLine l s).supply = s.supply := rfl
@[simp] theorem putUpLine_resetCause (l : List LineEntry) (s : State) :
    (putUpLine l s).resetCause = s.resetCause := rfl
@[simp] theorem putUpLine_loaded (l : List LineEntry) (s : State) : (putUpLine l s).loaded = s.loaded := rfl
@[simp] theorem putUpLine_rmu (l : List LineEntry) (s : State) : (putUpLine l s).rmu = s.rmu := rfl
@[simp] theorem putUpLine_asc (l : List LineEntry) (s : State) : (putUpLine l s).asc = s.asc := rfl
@[simp] theorem putUpLine_cabins (l : List LineEntry) (s : State) : (putUpLine l s).cabins = s.cabins := rfl
@[simp] theorem putUpLine_lists (l : List LineEntry) (s : State) :
    (putUpLine l s).lists = { s.lists with upLine := l } := rfl
@[simp] theorem putUpLine_stu (l : List LineEntry) (s : State) : (putUpLine l s).stu = s.stu := rfl
@[simp] theorem putUpLine_dru (l : List LineEntry) (s : State) : (putUpLine l s).dru = s.dru := rfl
@[simp] theorem putUpLine_lnu (l : List LineEntry) (s : State) : (putUpLine l s).lnu = s.lnu := rfl
@[simp] theorem putUpLine_ltu (l : List LineEntry) (s : State) : (putUpLine l s).ltu = s.ltu := rfl
@[simp] theorem putUpLine_lkc (l : List LineEntry) (s : State) : (putUpLine l s).lkc = s.lkc := rfl
@[simp] theorem putUpLine_phn (l : List LineEntry) (s : State) : (putUpLine l s).phn = s.phn := rfl
@[simp] theorem putUpLine_ssv (l : List LineEntry) (s : State) : (putUpLine l s).ssv = s.ssv := rfl
@[simp] theorem putUpLine_tal (l : List LineEntry) (s : State) : (putUpLine l s).tal = s.tal := rfl
@[simp] theorem putUpLine_spt (l : List LineEntry) (s : State) : (putUpLine l s).spt = s.spt := rfl
@[simp] theorem putUpLine_pfs (l : List LineEntry) (s : State) : (putUpLine l s).pfs = s.pfs := rfl
@[simp] theorem putUpLine_free (l : List LineEntry) (s : State) : (putUpLine l s).free = s.free := rfl
@[simp] theorem putUpLine_pending (l : List LineEntry) (s : State) : (putUpLine l s).pending = s.pending := rfl

/-! ### putSummit -/

@[simp] theorem putSummit_pins (l : List LineEntry) (s : State) : (putSummit l s).pins = s.pins := rfl
@[simp] theorem putSummit_clock (l : List LineEntry) (s : State) : (putSummit l s).clock = s.clock := rfl
@[simp] theorem putSummit_supply (l : List LineEntry) (s : State) : (putSummit l s).supply = s.supply := rfl
@[simp] theorem putSummit_resetCause (l : List LineEntry) (s : State) :
    (putSummit l s).resetCause = s.resetCause := rfl
@[simp] theorem putSummit_loaded (l : List LineEntry) (s : State) : (putSummit l s).loaded = s.loaded := rfl
@[simp] theorem putSummit_rmu (l : List LineEntry) (s : State) : (putSummit l s).rmu = s.rmu := rfl
@[simp] theorem putSummit_asc (l : List LineEntry) (s : State) : (putSummit l s).asc = s.asc := rfl
@[simp] theorem putSummit_cabins (l : List LineEntry) (s : State) : (putSummit l s).cabins = s.cabins := rfl
@[simp] theorem putSummit_lists (l : List LineEntry) (s : State) :
    (putSummit l s).lists = { s.lists with summit := l } := rfl
@[simp] theorem putSummit_stu (l : List LineEntry) (s : State) : (putSummit l s).stu = s.stu := rfl
@[simp] theorem putSummit_dru (l : List LineEntry) (s : State) : (putSummit l s).dru = s.dru := rfl
@[simp] theorem putSummit_lnu (l : List LineEntry) (s : State) : (putSummit l s).lnu = s.lnu := rfl
@[simp] theorem putSummit_ltu (l : List LineEntry) (s : State) : (putSummit l s).ltu = s.ltu := rfl
@[simp] theorem putSummit_lkc (l : List LineEntry) (s : State) : (putSummit l s).lkc = s.lkc := rfl
@[simp] theorem putSummit_phn (l : List LineEntry) (s : State) : (putSummit l s).phn = s.phn := rfl
@[simp] theorem putSummit_ssv (l : List LineEntry) (s : State) : (putSummit l s).ssv = s.ssv := rfl
@[simp] theorem putSummit_tal (l : List LineEntry) (s : State) : (putSummit l s).tal = s.tal := rfl
@[simp] theorem putSummit_spt (l : List LineEntry) (s : State) : (putSummit l s).spt = s.spt := rfl
@[simp] theorem putSummit_pfs (l : List LineEntry) (s : State) : (putSummit l s).pfs = s.pfs := rfl
@[simp] theorem putSummit_free (l : List LineEntry) (s : State) : (putSummit l s).free = s.free := rfl
@[simp] theorem putSummit_pending (l : List LineEntry) (s : State) : (putSummit l s).pending = s.pending := rfl

/-! ### putDownLine -/

@[simp] theorem putDownLine_pins (l : List LineEntry) (s : State) : (putDownLine l s).pins = s.pins := rfl
@[simp] theorem putDownLine_clock (l : List LineEntry) (s : State) : (putDownLine l s).clock = s.clock := rfl
@[simp] theorem putDownLine_supply (l : List LineEntry) (s : State) : (putDownLine l s).supply = s.supply := rfl
@[simp] theorem putDownLine_resetCause (l : List LineEntry) (s : State) :
    (putDownLine l s).resetCause = s.resetCause := rfl
@[simp] theorem putDownLine_loaded (l : List LineEntry) (s : State) : (putDownLine l s).loaded = s.loaded := rfl
@[simp] theorem putDownLine_rmu (l : List LineEntry) (s : State) : (putDownLine l s).rmu = s.rmu := rfl
@[simp] theorem putDownLine_asc (l : List LineEntry) (s : State) : (putDownLine l s).asc = s.asc := rfl
@[simp] theorem putDownLine_cabins (l : List LineEntry) (s : State) : (putDownLine l s).cabins = s.cabins := rfl
@[simp] theorem putDownLine_lists (l : List LineEntry) (s : State) :
    (putDownLine l s).lists = { s.lists with downLine := l } := rfl
@[simp] theorem putDownLine_stu (l : List LineEntry) (s : State) : (putDownLine l s).stu = s.stu := rfl
@[simp] theorem putDownLine_dru (l : List LineEntry) (s : State) : (putDownLine l s).dru = s.dru := rfl
@[simp] theorem putDownLine_lnu (l : List LineEntry) (s : State) : (putDownLine l s).lnu = s.lnu := rfl
@[simp] theorem putDownLine_ltu (l : List LineEntry) (s : State) : (putDownLine l s).ltu = s.ltu := rfl
@[simp] theorem putDownLine_lkc (l : List LineEntry) (s : State) : (putDownLine l s).lkc = s.lkc := rfl
@[simp] theorem putDownLine_phn (l : List LineEntry) (s : State) : (putDownLine l s).phn = s.phn := rfl
@[simp] theorem putDownLine_ssv (l : List LineEntry) (s : State) : (putDownLine l s).ssv = s.ssv := rfl
@[simp] theorem putDownLine_tal (l : List LineEntry) (s : State) : (putDownLine l s).tal = s.tal := rfl
@[simp] theorem putDownLine_spt (l : List LineEntry) (s : State) : (putDownLine l s).spt = s.spt := rfl
@[simp] theorem putDownLine_pfs (l : List LineEntry) (s : State) : (putDownLine l s).pfs = s.pfs := rfl
@[simp] theorem putDownLine_free (l : List LineEntry) (s : State) : (putDownLine l s).free = s.free := rfl
@[simp] theorem putDownLine_pending (l : List LineEntry) (s : State) : (putDownLine l s).pending = s.pending := rfl

/-! ### takeId -/

@[simp] theorem takeId_pins (s : State) : (takeId s).pins = s.pins := rfl
@[simp] theorem takeId_clock (s : State) : (takeId s).clock = s.clock := rfl
@[simp] theorem takeId_supply (s : State) : (takeId s).supply = s.supply := rfl
@[simp] theorem takeId_resetCause (s : State) : (takeId s).resetCause = s.resetCause := rfl
@[simp] theorem takeId_loaded (s : State) : (takeId s).loaded = s.loaded := rfl
@[simp] theorem takeId_rmu (s : State) : (takeId s).rmu = s.rmu := rfl
@[simp] theorem takeId_asc (s : State) : (takeId s).asc = s.asc := rfl
@[simp] theorem takeId_cabins (s : State) : (takeId s).cabins = s.cabins := rfl
@[simp] theorem takeId_lists (s : State) : (takeId s).lists = s.lists := rfl
@[simp] theorem takeId_stu (s : State) : (takeId s).stu = { s.stu with nextId := s.stu.nextId + 1 } := rfl
@[simp] theorem takeId_dru (s : State) : (takeId s).dru = s.dru := rfl
@[simp] theorem takeId_lnu (s : State) : (takeId s).lnu = s.lnu := rfl
@[simp] theorem takeId_ltu (s : State) : (takeId s).ltu = s.ltu := rfl
@[simp] theorem takeId_lkc (s : State) : (takeId s).lkc = s.lkc := rfl
@[simp] theorem takeId_phn (s : State) : (takeId s).phn = s.phn := rfl
@[simp] theorem takeId_ssv (s : State) : (takeId s).ssv = s.ssv := rfl
@[simp] theorem takeId_tal (s : State) : (takeId s).tal = s.tal := rfl
@[simp] theorem takeId_spt (s : State) : (takeId s).spt = s.spt := rfl
@[simp] theorem takeId_pfs (s : State) : (takeId s).pfs = s.pfs := rfl
@[simp] theorem takeId_free (s : State) : (takeId s).free = s.free := rfl
@[simp] theorem takeId_pending (s : State) : (takeId s).pending = s.pending := rfl

/-! ### putRmu -/

@[simp] theorem putRmu_pins (r : Rmu) (s : State) : (putRmu r s).pins = s.pins := rfl
@[simp] theorem putRmu_clock (r : Rmu) (s : State) : (putRmu r s).clock = s.clock := rfl
@[simp] theorem putRmu_supply (r : Rmu) (s : State) : (putRmu r s).supply = s.supply := rfl
@[simp] theorem putRmu_resetCause (r : Rmu) (s : State) : (putRmu r s).resetCause = s.resetCause := rfl
@[simp] theorem putRmu_loaded (r : Rmu) (s : State) : (putRmu r s).loaded = s.loaded := rfl
@[simp] theorem putRmu_rmu (r : Rmu) (s : State) : (putRmu r s).rmu = r := rfl
@[simp] theorem putRmu_asc (r : Rmu) (s : State) : (putRmu r s).asc = s.asc := rfl
@[simp] theorem putRmu_cabins (r : Rmu) (s : State) : (putRmu r s).cabins = s.cabins := rfl
@[simp] theorem putRmu_lists (r : Rmu) (s : State) : (putRmu r s).lists = s.lists := rfl
@[simp] theorem putRmu_stu (r : Rmu) (s : State) : (putRmu r s).stu = s.stu := rfl
@[simp] theorem putRmu_dru (r : Rmu) (s : State) : (putRmu r s).dru = s.dru := rfl
@[simp] theorem putRmu_lnu (r : Rmu) (s : State) : (putRmu r s).lnu = s.lnu := rfl
@[simp] theorem putRmu_ltu (r : Rmu) (s : State) : (putRmu r s).ltu = s.ltu := rfl
@[simp] theorem putRmu_lkc (r : Rmu) (s : State) : (putRmu r s).lkc = s.lkc := rfl
@[simp] theorem putRmu_phn (r : Rmu) (s : State) : (putRmu r s).phn = s.phn := rfl
@[simp] theorem putRmu_ssv (r : Rmu) (s : State) : (putRmu r s).ssv = s.ssv := rfl
@[simp] theorem putRmu_tal (r : Rmu) (s : State) : (putRmu r s).tal = s.tal := rfl
@[simp] theorem putRmu_spt (r : Rmu) (s : State) : (putRmu r s).spt = s.spt := rfl
@[simp] theorem putRmu_pfs (r : Rmu) (s : State) : (putRmu r s).pfs = s.pfs := rfl
@[simp] theorem putRmu_free (r : Rmu) (s : State) : (putRmu r s).free = s.free := rfl
@[simp] theorem putRmu_pending (r : Rmu) (s : State) : (putRmu r s).pending = s.pending := rfl

/-! ### putSample -/

@[simp] theorem putSample_pins (k : Fin 7) (n : Sample) (s : State) : (putSample k n s).pins = s.pins := rfl
@[simp] theorem putSample_clock (k : Fin 7) (n : Sample) (s : State) : (putSample k n s).clock = s.clock := rfl
@[simp] theorem putSample_supply (k : Fin 7) (n : Sample) (s : State) : (putSample k n s).supply = s.supply := rfl
@[simp] theorem putSample_resetCause (k : Fin 7) (n : Sample) (s : State) :
    (putSample k n s).resetCause = s.resetCause := rfl
@[simp] theorem putSample_loaded (k : Fin 7) (n : Sample) (s : State) : (putSample k n s).loaded = s.loaded := rfl
@[simp] theorem putSample_rmu (k : Fin 7) (n : Sample) (s : State) : (putSample k n s).rmu = s.rmu := rfl
@[simp] theorem putSample_asc (k : Fin 7) (n : Sample) (s : State) :
    (putSample k n s).asc = s.asc.set k.val n k.isLt := rfl
@[simp] theorem putSample_cabins (k : Fin 7) (n : Sample) (s : State) : (putSample k n s).cabins = s.cabins := rfl
@[simp] theorem putSample_lists (k : Fin 7) (n : Sample) (s : State) : (putSample k n s).lists = s.lists := rfl
@[simp] theorem putSample_stu (k : Fin 7) (n : Sample) (s : State) : (putSample k n s).stu = s.stu := rfl
@[simp] theorem putSample_dru (k : Fin 7) (n : Sample) (s : State) : (putSample k n s).dru = s.dru := rfl
@[simp] theorem putSample_lnu (k : Fin 7) (n : Sample) (s : State) : (putSample k n s).lnu = s.lnu := rfl
@[simp] theorem putSample_ltu (k : Fin 7) (n : Sample) (s : State) : (putSample k n s).ltu = s.ltu := rfl
@[simp] theorem putSample_lkc (k : Fin 7) (n : Sample) (s : State) : (putSample k n s).lkc = s.lkc := rfl
@[simp] theorem putSample_phn (k : Fin 7) (n : Sample) (s : State) : (putSample k n s).phn = s.phn := rfl
@[simp] theorem putSample_ssv (k : Fin 7) (n : Sample) (s : State) : (putSample k n s).ssv = s.ssv := rfl
@[simp] theorem putSample_tal (k : Fin 7) (n : Sample) (s : State) : (putSample k n s).tal = s.tal := rfl
@[simp] theorem putSample_spt (k : Fin 7) (n : Sample) (s : State) : (putSample k n s).spt = s.spt := rfl
@[simp] theorem putSample_pfs (k : Fin 7) (n : Sample) (s : State) : (putSample k n s).pfs = s.pfs := rfl
@[simp] theorem putSample_free (k : Fin 7) (n : Sample) (s : State) : (putSample k n s).free = s.free := rfl
@[simp] theorem putSample_pending (k : Fin 7) (n : Sample) (s : State) : (putSample k n s).pending = s.pending := rfl

/-! ### putDrive -/

@[simp] theorem putDrive_pins (ch : Channel) (d : DriveChannel) (s : State) : (putDrive ch d s).pins = s.pins := rfl
@[simp] theorem putDrive_clock (ch : Channel) (d : DriveChannel) (s : State) :
    (putDrive ch d s).clock = s.clock := rfl
@[simp] theorem putDrive_supply (ch : Channel) (d : DriveChannel) (s : State) :
    (putDrive ch d s).supply = s.supply := rfl
@[simp] theorem putDrive_resetCause (ch : Channel) (d : DriveChannel) (s : State) :
    (putDrive ch d s).resetCause = s.resetCause := rfl
@[simp] theorem putDrive_loaded (ch : Channel) (d : DriveChannel) (s : State) :
    (putDrive ch d s).loaded = s.loaded := rfl
@[simp] theorem putDrive_rmu (ch : Channel) (d : DriveChannel) (s : State) : (putDrive ch d s).rmu = s.rmu := rfl
@[simp] theorem putDrive_asc (ch : Channel) (d : DriveChannel) (s : State) : (putDrive ch d s).asc = s.asc := rfl
@[simp] theorem putDrive_cabins (ch : Channel) (d : DriveChannel) (s : State) :
    (putDrive ch d s).cabins = s.cabins := rfl
@[simp] theorem putDrive_lists (ch : Channel) (d : DriveChannel) (s : State) :
    (putDrive ch d s).lists = s.lists := rfl
@[simp] theorem putDrive_stu (ch : Channel) (d : DriveChannel) (s : State) : (putDrive ch d s).stu = s.stu := rfl
@[simp] theorem putDrive_dru (ch : Channel) (d : DriveChannel) (s : State) :
    (putDrive ch d s).dru = s.dru.put ch d := rfl
@[simp] theorem putDrive_lnu (ch : Channel) (d : DriveChannel) (s : State) : (putDrive ch d s).lnu = s.lnu := rfl
@[simp] theorem putDrive_ltu (ch : Channel) (d : DriveChannel) (s : State) : (putDrive ch d s).ltu = s.ltu := rfl
@[simp] theorem putDrive_lkc (ch : Channel) (d : DriveChannel) (s : State) : (putDrive ch d s).lkc = s.lkc := rfl
@[simp] theorem putDrive_phn (ch : Channel) (d : DriveChannel) (s : State) : (putDrive ch d s).phn = s.phn := rfl
@[simp] theorem putDrive_ssv (ch : Channel) (d : DriveChannel) (s : State) : (putDrive ch d s).ssv = s.ssv := rfl
@[simp] theorem putDrive_tal (ch : Channel) (d : DriveChannel) (s : State) : (putDrive ch d s).tal = s.tal := rfl
@[simp] theorem putDrive_spt (ch : Channel) (d : DriveChannel) (s : State) : (putDrive ch d s).spt = s.spt := rfl
@[simp] theorem putDrive_pfs (ch : Channel) (d : DriveChannel) (s : State) : (putDrive ch d s).pfs = s.pfs := rfl
@[simp] theorem putDrive_free (ch : Channel) (d : DriveChannel) (s : State) : (putDrive ch d s).free = s.free := rfl
@[simp] theorem putDrive_pending (ch : Channel) (d : DriveChannel) (s : State) :
    (putDrive ch d s).pending = s.pending := rfl

/-! ### putLnu -/

@[simp] theorem putLnu_pins (u : Lnu) (s : State) : (putLnu u s).pins = s.pins := rfl
@[simp] theorem putLnu_clock (u : Lnu) (s : State) : (putLnu u s).clock = s.clock := rfl
@[simp] theorem putLnu_supply (u : Lnu) (s : State) : (putLnu u s).supply = s.supply := rfl
@[simp] theorem putLnu_resetCause (u : Lnu) (s : State) : (putLnu u s).resetCause = s.resetCause := rfl
@[simp] theorem putLnu_loaded (u : Lnu) (s : State) : (putLnu u s).loaded = s.loaded := rfl
@[simp] theorem putLnu_rmu (u : Lnu) (s : State) : (putLnu u s).rmu = s.rmu := rfl
@[simp] theorem putLnu_asc (u : Lnu) (s : State) : (putLnu u s).asc = s.asc := rfl
@[simp] theorem putLnu_cabins (u : Lnu) (s : State) : (putLnu u s).cabins = s.cabins := rfl
@[simp] theorem putLnu_lists (u : Lnu) (s : State) : (putLnu u s).lists = s.lists := rfl
@[simp] theorem putLnu_stu (u : Lnu) (s : State) : (putLnu u s).stu = s.stu := rfl
@[simp] theorem putLnu_dru (u : Lnu) (s : State) : (putLnu u s).dru = s.dru := rfl
@[simp] theorem putLnu_lnu (u : Lnu) (s : State) : (putLnu u s).lnu = u := rfl
@[simp] theorem putLnu_ltu (u : Lnu) (s : State) : (putLnu u s).ltu = s.ltu := rfl
@[simp] theorem putLnu_lkc (u : Lnu) (s : State) : (putLnu u s).lkc = s.lkc := rfl
@[simp] theorem putLnu_phn (u : Lnu) (s : State) : (putLnu u s).phn = s.phn := rfl
@[simp] theorem putLnu_ssv (u : Lnu) (s : State) : (putLnu u s).ssv = s.ssv := rfl
@[simp] theorem putLnu_tal (u : Lnu) (s : State) : (putLnu u s).tal = s.tal := rfl
@[simp] theorem putLnu_spt (u : Lnu) (s : State) : (putLnu u s).spt = s.spt := rfl
@[simp] theorem putLnu_pfs (u : Lnu) (s : State) : (putLnu u s).pfs = s.pfs := rfl
@[simp] theorem putLnu_free (u : Lnu) (s : State) : (putLnu u s).free = s.free := rfl
@[simp] theorem putLnu_pending (u : Lnu) (s : State) : (putLnu u s).pending = s.pending := rfl

/-! ### putStu -/

@[simp] theorem putStu_pins (u : Stu) (s : State) : (putStu u s).pins = s.pins := rfl
@[simp] theorem putStu_clock (u : Stu) (s : State) : (putStu u s).clock = s.clock := rfl
@[simp] theorem putStu_supply (u : Stu) (s : State) : (putStu u s).supply = s.supply := rfl
@[simp] theorem putStu_resetCause (u : Stu) (s : State) : (putStu u s).resetCause = s.resetCause := rfl
@[simp] theorem putStu_loaded (u : Stu) (s : State) : (putStu u s).loaded = s.loaded := rfl
@[simp] theorem putStu_rmu (u : Stu) (s : State) : (putStu u s).rmu = s.rmu := rfl
@[simp] theorem putStu_asc (u : Stu) (s : State) : (putStu u s).asc = s.asc := rfl
@[simp] theorem putStu_cabins (u : Stu) (s : State) : (putStu u s).cabins = s.cabins := rfl
@[simp] theorem putStu_lists (u : Stu) (s : State) : (putStu u s).lists = s.lists := rfl
@[simp] theorem putStu_stu (u : Stu) (s : State) : (putStu u s).stu = u := rfl
@[simp] theorem putStu_dru (u : Stu) (s : State) : (putStu u s).dru = s.dru := rfl
@[simp] theorem putStu_lnu (u : Stu) (s : State) : (putStu u s).lnu = s.lnu := rfl
@[simp] theorem putStu_ltu (u : Stu) (s : State) : (putStu u s).ltu = s.ltu := rfl
@[simp] theorem putStu_lkc (u : Stu) (s : State) : (putStu u s).lkc = s.lkc := rfl
@[simp] theorem putStu_phn (u : Stu) (s : State) : (putStu u s).phn = s.phn := rfl
@[simp] theorem putStu_ssv (u : Stu) (s : State) : (putStu u s).ssv = s.ssv := rfl
@[simp] theorem putStu_tal (u : Stu) (s : State) : (putStu u s).tal = s.tal := rfl
@[simp] theorem putStu_spt (u : Stu) (s : State) : (putStu u s).spt = s.spt := rfl
@[simp] theorem putStu_pfs (u : Stu) (s : State) : (putStu u s).pfs = s.pfs := rfl
@[simp] theorem putStu_free (u : Stu) (s : State) : (putStu u s).free = s.free := rfl
@[simp] theorem putStu_pending (u : Stu) (s : State) : (putStu u s).pending = s.pending := rfl

/-! ### putLtu -/

@[simp] theorem putLtu_pins (u : Ltu) (s : State) : (putLtu u s).pins = s.pins := rfl
@[simp] theorem putLtu_clock (u : Ltu) (s : State) : (putLtu u s).clock = s.clock := rfl
@[simp] theorem putLtu_supply (u : Ltu) (s : State) : (putLtu u s).supply = s.supply := rfl
@[simp] theorem putLtu_resetCause (u : Ltu) (s : State) : (putLtu u s).resetCause = s.resetCause := rfl
@[simp] theorem putLtu_loaded (u : Ltu) (s : State) : (putLtu u s).loaded = s.loaded := rfl
@[simp] theorem putLtu_rmu (u : Ltu) (s : State) : (putLtu u s).rmu = s.rmu := rfl
@[simp] theorem putLtu_asc (u : Ltu) (s : State) : (putLtu u s).asc = s.asc := rfl
@[simp] theorem putLtu_cabins (u : Ltu) (s : State) : (putLtu u s).cabins = s.cabins := rfl
@[simp] theorem putLtu_lists (u : Ltu) (s : State) : (putLtu u s).lists = s.lists := rfl
@[simp] theorem putLtu_stu (u : Ltu) (s : State) : (putLtu u s).stu = s.stu := rfl
@[simp] theorem putLtu_dru (u : Ltu) (s : State) : (putLtu u s).dru = s.dru := rfl
@[simp] theorem putLtu_lnu (u : Ltu) (s : State) : (putLtu u s).lnu = s.lnu := rfl
@[simp] theorem putLtu_ltu (u : Ltu) (s : State) : (putLtu u s).ltu = u := rfl
@[simp] theorem putLtu_lkc (u : Ltu) (s : State) : (putLtu u s).lkc = s.lkc := rfl
@[simp] theorem putLtu_phn (u : Ltu) (s : State) : (putLtu u s).phn = s.phn := rfl
@[simp] theorem putLtu_ssv (u : Ltu) (s : State) : (putLtu u s).ssv = s.ssv := rfl
@[simp] theorem putLtu_tal (u : Ltu) (s : State) : (putLtu u s).tal = s.tal := rfl
@[simp] theorem putLtu_spt (u : Ltu) (s : State) : (putLtu u s).spt = s.spt := rfl
@[simp] theorem putLtu_pfs (u : Ltu) (s : State) : (putLtu u s).pfs = s.pfs := rfl
@[simp] theorem putLtu_free (u : Ltu) (s : State) : (putLtu u s).free = s.free := rfl
@[simp] theorem putLtu_pending (u : Ltu) (s : State) : (putLtu u s).pending = s.pending := rfl

/-! ### putChan -/

@[simp] theorem putChan_pins (r : RecordChannel) (s : State) : (putChan r s).pins = s.pins := rfl
@[simp] theorem putChan_clock (r : RecordChannel) (s : State) : (putChan r s).clock = s.clock := rfl
@[simp] theorem putChan_supply (r : RecordChannel) (s : State) : (putChan r s).supply = s.supply := rfl
@[simp] theorem putChan_resetCause (r : RecordChannel) (s : State) : (putChan r s).resetCause = s.resetCause := rfl
@[simp] theorem putChan_loaded (r : RecordChannel) (s : State) : (putChan r s).loaded = s.loaded := rfl
@[simp] theorem putChan_rmu (r : RecordChannel) (s : State) : (putChan r s).rmu = s.rmu := rfl
@[simp] theorem putChan_asc (r : RecordChannel) (s : State) : (putChan r s).asc = s.asc := rfl
@[simp] theorem putChan_cabins (r : RecordChannel) (s : State) : (putChan r s).cabins = s.cabins := rfl
@[simp] theorem putChan_lists (r : RecordChannel) (s : State) : (putChan r s).lists = s.lists := rfl
@[simp] theorem putChan_stu (r : RecordChannel) (s : State) : (putChan r s).stu = s.stu := rfl
@[simp] theorem putChan_dru (r : RecordChannel) (s : State) : (putChan r s).dru = s.dru := rfl
@[simp] theorem putChan_lnu (r : RecordChannel) (s : State) : (putChan r s).lnu = s.lnu := rfl
@[simp] theorem putChan_ltu (r : RecordChannel) (s : State) : (putChan r s).ltu = s.ltu := rfl
@[simp] theorem putChan_lkc (r : RecordChannel) (s : State) : (putChan r s).lkc = { s.lkc with chan := r } := rfl
@[simp] theorem putChan_phn (r : RecordChannel) (s : State) : (putChan r s).phn = s.phn := rfl
@[simp] theorem putChan_ssv (r : RecordChannel) (s : State) : (putChan r s).ssv = s.ssv := rfl
@[simp] theorem putChan_tal (r : RecordChannel) (s : State) : (putChan r s).tal = s.tal := rfl
@[simp] theorem putChan_spt (r : RecordChannel) (s : State) : (putChan r s).spt = s.spt := rfl
@[simp] theorem putChan_pfs (r : RecordChannel) (s : State) : (putChan r s).pfs = s.pfs := rfl
@[simp] theorem putChan_free (r : RecordChannel) (s : State) : (putChan r s).free = s.free := rfl
@[simp] theorem putChan_pending (r : RecordChannel) (s : State) : (putChan r s).pending = s.pending := rfl

/-! ### putLkc -/

@[simp] theorem putLkc_pins (k : Lkc) (s : State) : (putLkc k s).pins = s.pins := rfl
@[simp] theorem putLkc_clock (k : Lkc) (s : State) : (putLkc k s).clock = s.clock := rfl
@[simp] theorem putLkc_supply (k : Lkc) (s : State) : (putLkc k s).supply = s.supply := rfl
@[simp] theorem putLkc_resetCause (k : Lkc) (s : State) : (putLkc k s).resetCause = s.resetCause := rfl
@[simp] theorem putLkc_loaded (k : Lkc) (s : State) : (putLkc k s).loaded = s.loaded := rfl
@[simp] theorem putLkc_rmu (k : Lkc) (s : State) : (putLkc k s).rmu = s.rmu := rfl
@[simp] theorem putLkc_asc (k : Lkc) (s : State) : (putLkc k s).asc = s.asc := rfl
@[simp] theorem putLkc_cabins (k : Lkc) (s : State) : (putLkc k s).cabins = s.cabins := rfl
@[simp] theorem putLkc_lists (k : Lkc) (s : State) : (putLkc k s).lists = s.lists := rfl
@[simp] theorem putLkc_stu (k : Lkc) (s : State) : (putLkc k s).stu = s.stu := rfl
@[simp] theorem putLkc_dru (k : Lkc) (s : State) : (putLkc k s).dru = s.dru := rfl
@[simp] theorem putLkc_lnu (k : Lkc) (s : State) : (putLkc k s).lnu = s.lnu := rfl
@[simp] theorem putLkc_ltu (k : Lkc) (s : State) : (putLkc k s).ltu = s.ltu := rfl
@[simp] theorem putLkc_lkc (k : Lkc) (s : State) : (putLkc k s).lkc = k := rfl
@[simp] theorem putLkc_phn (k : Lkc) (s : State) : (putLkc k s).phn = s.phn := rfl
@[simp] theorem putLkc_ssv (k : Lkc) (s : State) : (putLkc k s).ssv = s.ssv := rfl
@[simp] theorem putLkc_tal (k : Lkc) (s : State) : (putLkc k s).tal = s.tal := rfl
@[simp] theorem putLkc_spt (k : Lkc) (s : State) : (putLkc k s).spt = s.spt := rfl
@[simp] theorem putLkc_pfs (k : Lkc) (s : State) : (putLkc k s).pfs = s.pfs := rfl
@[simp] theorem putLkc_free (k : Lkc) (s : State) : (putLkc k s).free = s.free := rfl
@[simp] theorem putLkc_pending (k : Lkc) (s : State) : (putLkc k s).pending = s.pending := rfl

/-! ### putRx -/

@[simp] theorem putRx_pins (r : LinkRx) (s : State) : (putRx r s).pins = s.pins := rfl
@[simp] theorem putRx_clock (r : LinkRx) (s : State) : (putRx r s).clock = s.clock := rfl
@[simp] theorem putRx_supply (r : LinkRx) (s : State) : (putRx r s).supply = s.supply := rfl
@[simp] theorem putRx_resetCause (r : LinkRx) (s : State) : (putRx r s).resetCause = s.resetCause := rfl
@[simp] theorem putRx_loaded (r : LinkRx) (s : State) : (putRx r s).loaded = s.loaded := rfl
@[simp] theorem putRx_rmu (r : LinkRx) (s : State) : (putRx r s).rmu = s.rmu := rfl
@[simp] theorem putRx_asc (r : LinkRx) (s : State) : (putRx r s).asc = s.asc := rfl
@[simp] theorem putRx_cabins (r : LinkRx) (s : State) : (putRx r s).cabins = s.cabins := rfl
@[simp] theorem putRx_lists (r : LinkRx) (s : State) : (putRx r s).lists = s.lists := rfl
@[simp] theorem putRx_stu (r : LinkRx) (s : State) : (putRx r s).stu = s.stu := rfl
@[simp] theorem putRx_dru (r : LinkRx) (s : State) : (putRx r s).dru = s.dru := rfl
@[simp] theorem putRx_lnu (r : LinkRx) (s : State) : (putRx r s).lnu = s.lnu := rfl
@[simp] theorem putRx_ltu (r : LinkRx) (s : State) : (putRx r s).ltu = s.ltu := rfl
@[simp] theorem putRx_lkc (r : LinkRx) (s : State) : (putRx r s).lkc = { s.lkc with rx := r } := rfl
@[simp] theorem putRx_phn (r : LinkRx) (s : State) : (putRx r s).phn = s.phn := rfl
@[simp] theorem putRx_ssv (r : LinkRx) (s : State) : (putRx r s).ssv = s.ssv := rfl
@[simp] theorem putRx_tal (r : LinkRx) (s : State) : (putRx r s).tal = s.tal := rfl
@[simp] theorem putRx_spt (r : LinkRx) (s : State) : (putRx r s).spt = s.spt := rfl
@[simp] theorem putRx_pfs (r : LinkRx) (s : State) : (putRx r s).pfs = s.pfs := rfl
@[simp] theorem putRx_free (r : LinkRx) (s : State) : (putRx r s).free = s.free := rfl
@[simp] theorem putRx_pending (r : LinkRx) (s : State) : (putRx r s).pending = s.pending := rfl

/-! ### putTowers -/

@[simp] theorem putTowers_pins (l : List TowerEntry) (s : State) : (putTowers l s).pins = s.pins := rfl
@[simp] theorem putTowers_clock (l : List TowerEntry) (s : State) : (putTowers l s).clock = s.clock := rfl
@[simp] theorem putTowers_supply (l : List TowerEntry) (s : State) : (putTowers l s).supply = s.supply := rfl
@[simp] theorem putTowers_resetCause (l : List TowerEntry) (s : State) :
    (putTowers l s).resetCause = s.resetCause := rfl
@[simp] theorem putTowers_loaded (l : List TowerEntry) (s : State) : (putTowers l s).loaded = s.loaded := rfl
@[simp] theorem putTowers_rmu (l : List TowerEntry) (s : State) : (putTowers l s).rmu = s.rmu := rfl
@[simp] theorem putTowers_asc (l : List TowerEntry) (s : State) : (putTowers l s).asc = s.asc := rfl
@[simp] theorem putTowers_cabins (l : List TowerEntry) (s : State) : (putTowers l s).cabins = s.cabins := rfl
@[simp] theorem putTowers_lists (l : List TowerEntry) (s : State) : (putTowers l s).lists = s.lists := rfl
@[simp] theorem putTowers_stu (l : List TowerEntry) (s : State) : (putTowers l s).stu = s.stu := rfl
@[simp] theorem putTowers_dru (l : List TowerEntry) (s : State) : (putTowers l s).dru = s.dru := rfl
@[simp] theorem putTowers_lnu (l : List TowerEntry) (s : State) : (putTowers l s).lnu = s.lnu := rfl
@[simp] theorem putTowers_ltu (l : List TowerEntry) (s : State) : (putTowers l s).ltu = s.ltu := rfl
@[simp] theorem putTowers_lkc (l : List TowerEntry) (s : State) :
    (putTowers l s).lkc = { s.lkc with towers := { s.lkc.towers with entries := l } } := rfl
@[simp] theorem putTowers_phn (l : List TowerEntry) (s : State) : (putTowers l s).phn = s.phn := rfl
@[simp] theorem putTowers_ssv (l : List TowerEntry) (s : State) : (putTowers l s).ssv = s.ssv := rfl
@[simp] theorem putTowers_tal (l : List TowerEntry) (s : State) : (putTowers l s).tal = s.tal := rfl
@[simp] theorem putTowers_spt (l : List TowerEntry) (s : State) : (putTowers l s).spt = s.spt := rfl
@[simp] theorem putTowers_pfs (l : List TowerEntry) (s : State) : (putTowers l s).pfs = s.pfs := rfl
@[simp] theorem putTowers_free (l : List TowerEntry) (s : State) : (putTowers l s).free = s.free := rfl
@[simp] theorem putTowers_pending (l : List TowerEntry) (s : State) : (putTowers l s).pending = s.pending := rfl

/-! ### putSsv -/

@[simp] theorem putSsv_pins (u : Ssv) (s : State) : (putSsv u s).pins = s.pins := rfl
@[simp] theorem putSsv_clock (u : Ssv) (s : State) : (putSsv u s).clock = s.clock := rfl
@[simp] theorem putSsv_supply (u : Ssv) (s : State) : (putSsv u s).supply = s.supply := rfl
@[simp] theorem putSsv_resetCause (u : Ssv) (s : State) : (putSsv u s).resetCause = s.resetCause := rfl
@[simp] theorem putSsv_loaded (u : Ssv) (s : State) : (putSsv u s).loaded = s.loaded := rfl
@[simp] theorem putSsv_rmu (u : Ssv) (s : State) : (putSsv u s).rmu = s.rmu := rfl
@[simp] theorem putSsv_asc (u : Ssv) (s : State) : (putSsv u s).asc = s.asc := rfl
@[simp] theorem putSsv_cabins (u : Ssv) (s : State) : (putSsv u s).cabins = s.cabins := rfl
@[simp] theorem putSsv_lists (u : Ssv) (s : State) : (putSsv u s).lists = s.lists := rfl
@[simp] theorem putSsv_stu (u : Ssv) (s : State) : (putSsv u s).stu = s.stu := rfl
@[simp] theorem putSsv_dru (u : Ssv) (s : State) : (putSsv u s).dru = s.dru := rfl
@[simp] theorem putSsv_lnu (u : Ssv) (s : State) : (putSsv u s).lnu = s.lnu := rfl
@[simp] theorem putSsv_ltu (u : Ssv) (s : State) : (putSsv u s).ltu = s.ltu := rfl
@[simp] theorem putSsv_lkc (u : Ssv) (s : State) : (putSsv u s).lkc = s.lkc := rfl
@[simp] theorem putSsv_phn (u : Ssv) (s : State) : (putSsv u s).phn = s.phn := rfl
@[simp] theorem putSsv_ssv (u : Ssv) (s : State) : (putSsv u s).ssv = u := rfl
@[simp] theorem putSsv_tal (u : Ssv) (s : State) : (putSsv u s).tal = s.tal := rfl
@[simp] theorem putSsv_spt (u : Ssv) (s : State) : (putSsv u s).spt = s.spt := rfl
@[simp] theorem putSsv_pfs (u : Ssv) (s : State) : (putSsv u s).pfs = s.pfs := rfl
@[simp] theorem putSsv_free (u : Ssv) (s : State) : (putSsv u s).free = s.free := rfl
@[simp] theorem putSsv_pending (u : Ssv) (s : State) : (putSsv u s).pending = s.pending := rfl

/-! ### putFrozen -/

@[simp] theorem putFrozen_pins (b : Bool) (s : State) : (putFrozen b s).pins = s.pins := rfl
@[simp] theorem putFrozen_clock (b : Bool) (s : State) : (putFrozen b s).clock = s.clock := rfl
@[simp] theorem putFrozen_supply (b : Bool) (s : State) : (putFrozen b s).supply = s.supply := rfl
@[simp] theorem putFrozen_resetCause (b : Bool) (s : State) : (putFrozen b s).resetCause = s.resetCause := rfl
@[simp] theorem putFrozen_loaded (b : Bool) (s : State) : (putFrozen b s).loaded = s.loaded := rfl
@[simp] theorem putFrozen_rmu (b : Bool) (s : State) : (putFrozen b s).rmu = s.rmu := rfl
@[simp] theorem putFrozen_asc (b : Bool) (s : State) : (putFrozen b s).asc = s.asc := rfl
@[simp] theorem putFrozen_cabins (b : Bool) (s : State) : (putFrozen b s).cabins = s.cabins := rfl
@[simp] theorem putFrozen_lists (b : Bool) (s : State) : (putFrozen b s).lists = s.lists := rfl
@[simp] theorem putFrozen_stu (b : Bool) (s : State) : (putFrozen b s).stu = s.stu := rfl
@[simp] theorem putFrozen_dru (b : Bool) (s : State) : (putFrozen b s).dru = s.dru := rfl
@[simp] theorem putFrozen_lnu (b : Bool) (s : State) : (putFrozen b s).lnu = s.lnu := rfl
@[simp] theorem putFrozen_ltu (b : Bool) (s : State) : (putFrozen b s).ltu = s.ltu := rfl
@[simp] theorem putFrozen_lkc (b : Bool) (s : State) : (putFrozen b s).lkc = s.lkc := rfl
@[simp] theorem putFrozen_phn (b : Bool) (s : State) : (putFrozen b s).phn = s.phn := rfl
@[simp] theorem putFrozen_ssv (b : Bool) (s : State) : (putFrozen b s).ssv = s.ssv := rfl
@[simp] theorem putFrozen_tal (b : Bool) (s : State) : (putFrozen b s).tal = { s.tal with frozen := b } := rfl
@[simp] theorem putFrozen_spt (b : Bool) (s : State) : (putFrozen b s).spt = s.spt := rfl
@[simp] theorem putFrozen_pfs (b : Bool) (s : State) : (putFrozen b s).pfs = s.pfs := rfl
@[simp] theorem putFrozen_free (b : Bool) (s : State) : (putFrozen b s).free = s.free := rfl
@[simp] theorem putFrozen_pending (b : Bool) (s : State) : (putFrozen b s).pending = s.pending := rfl

/-! ### putPfs -/

@[simp] theorem putPfs_pins (u : Pfs) (s : State) : (putPfs u s).pins = s.pins := rfl
@[simp] theorem putPfs_clock (u : Pfs) (s : State) : (putPfs u s).clock = s.clock := rfl
@[simp] theorem putPfs_supply (u : Pfs) (s : State) : (putPfs u s).supply = s.supply := rfl
@[simp] theorem putPfs_resetCause (u : Pfs) (s : State) : (putPfs u s).resetCause = s.resetCause := rfl
@[simp] theorem putPfs_loaded (u : Pfs) (s : State) : (putPfs u s).loaded = s.loaded := rfl
@[simp] theorem putPfs_rmu (u : Pfs) (s : State) : (putPfs u s).rmu = s.rmu := rfl
@[simp] theorem putPfs_asc (u : Pfs) (s : State) : (putPfs u s).asc = s.asc := rfl
@[simp] theorem putPfs_cabins (u : Pfs) (s : State) : (putPfs u s).cabins = s.cabins := rfl
@[simp] theorem putPfs_lists (u : Pfs) (s : State) : (putPfs u s).lists = s.lists := rfl
@[simp] theorem putPfs_stu (u : Pfs) (s : State) : (putPfs u s).stu = s.stu := rfl
@[simp] theorem putPfs_dru (u : Pfs) (s : State) : (putPfs u s).dru = s.dru := rfl
@[simp] theorem putPfs_lnu (u : Pfs) (s : State) : (putPfs u s).lnu = s.lnu := rfl
@[simp] theorem putPfs_ltu (u : Pfs) (s : State) : (putPfs u s).ltu = s.ltu := rfl
@[simp] theorem putPfs_lkc (u : Pfs) (s : State) : (putPfs u s).lkc = s.lkc := rfl
@[simp] theorem putPfs_phn (u : Pfs) (s : State) : (putPfs u s).phn = s.phn := rfl
@[simp] theorem putPfs_ssv (u : Pfs) (s : State) : (putPfs u s).ssv = s.ssv := rfl
@[simp] theorem putPfs_tal (u : Pfs) (s : State) : (putPfs u s).tal = s.tal := rfl
@[simp] theorem putPfs_spt (u : Pfs) (s : State) : (putPfs u s).spt = s.spt := rfl
@[simp] theorem putPfs_pfs (u : Pfs) (s : State) : (putPfs u s).pfs = u := rfl
@[simp] theorem putPfs_free (u : Pfs) (s : State) : (putPfs u s).free = s.free := rfl
@[simp] theorem putPfs_pending (u : Pfs) (s : State) : (putPfs u s).pending = s.pending := rfl

/-! ### putSpt -/

@[simp] theorem putSpt_pins (u : Spt) (s : State) : (putSpt u s).pins = s.pins := rfl
@[simp] theorem putSpt_clock (u : Spt) (s : State) : (putSpt u s).clock = s.clock := rfl
@[simp] theorem putSpt_supply (u : Spt) (s : State) : (putSpt u s).supply = s.supply := rfl
@[simp] theorem putSpt_resetCause (u : Spt) (s : State) : (putSpt u s).resetCause = s.resetCause := rfl
@[simp] theorem putSpt_loaded (u : Spt) (s : State) : (putSpt u s).loaded = s.loaded := rfl
@[simp] theorem putSpt_rmu (u : Spt) (s : State) : (putSpt u s).rmu = s.rmu := rfl
@[simp] theorem putSpt_asc (u : Spt) (s : State) : (putSpt u s).asc = s.asc := rfl
@[simp] theorem putSpt_cabins (u : Spt) (s : State) : (putSpt u s).cabins = s.cabins := rfl
@[simp] theorem putSpt_lists (u : Spt) (s : State) : (putSpt u s).lists = s.lists := rfl
@[simp] theorem putSpt_stu (u : Spt) (s : State) : (putSpt u s).stu = s.stu := rfl
@[simp] theorem putSpt_dru (u : Spt) (s : State) : (putSpt u s).dru = s.dru := rfl
@[simp] theorem putSpt_lnu (u : Spt) (s : State) : (putSpt u s).lnu = s.lnu := rfl
@[simp] theorem putSpt_ltu (u : Spt) (s : State) : (putSpt u s).ltu = s.ltu := rfl
@[simp] theorem putSpt_lkc (u : Spt) (s : State) : (putSpt u s).lkc = s.lkc := rfl
@[simp] theorem putSpt_phn (u : Spt) (s : State) : (putSpt u s).phn = s.phn := rfl
@[simp] theorem putSpt_ssv (u : Spt) (s : State) : (putSpt u s).ssv = s.ssv := rfl
@[simp] theorem putSpt_tal (u : Spt) (s : State) : (putSpt u s).tal = s.tal := rfl
@[simp] theorem putSpt_spt (u : Spt) (s : State) : (putSpt u s).spt = u := rfl
@[simp] theorem putSpt_pfs (u : Spt) (s : State) : (putSpt u s).pfs = s.pfs := rfl
@[simp] theorem putSpt_free (u : Spt) (s : State) : (putSpt u s).free = s.free := rfl
@[simp] theorem putSpt_pending (u : Spt) (s : State) : (putSpt u s).pending = s.pending := rfl

/-! ### queueRecord -/

@[simp] theorem queueRecord_pins (r : TxRecord) (s : State) : (queueRecord r s).pins = s.pins := rfl
@[simp] theorem queueRecord_clock (r : TxRecord) (s : State) : (queueRecord r s).clock = s.clock := rfl
@[simp] theorem queueRecord_supply (r : TxRecord) (s : State) : (queueRecord r s).supply = s.supply := rfl
@[simp] theorem queueRecord_resetCause (r : TxRecord) (s : State) : (queueRecord r s).resetCause = s.resetCause := rfl
@[simp] theorem queueRecord_loaded (r : TxRecord) (s : State) : (queueRecord r s).loaded = s.loaded := rfl
@[simp] theorem queueRecord_rmu (r : TxRecord) (s : State) : (queueRecord r s).rmu = s.rmu := rfl
@[simp] theorem queueRecord_asc (r : TxRecord) (s : State) : (queueRecord r s).asc = s.asc := rfl
@[simp] theorem queueRecord_cabins (r : TxRecord) (s : State) : (queueRecord r s).cabins = s.cabins := rfl
@[simp] theorem queueRecord_lists (r : TxRecord) (s : State) : (queueRecord r s).lists = s.lists := rfl
@[simp] theorem queueRecord_stu (r : TxRecord) (s : State) : (queueRecord r s).stu = s.stu := rfl
@[simp] theorem queueRecord_dru (r : TxRecord) (s : State) : (queueRecord r s).dru = s.dru := rfl
@[simp] theorem queueRecord_lnu (r : TxRecord) (s : State) : (queueRecord r s).lnu = s.lnu := rfl
@[simp] theorem queueRecord_ltu (r : TxRecord) (s : State) : (queueRecord r s).ltu = s.ltu := rfl
@[simp] theorem queueRecord_lkc (r : TxRecord) (s : State) :
    (queueRecord r s).lkc = { s.lkc with chan := { s.lkc.chan with queue := s.lkc.chan.queue ++ [r] } } := rfl
@[simp] theorem queueRecord_phn (r : TxRecord) (s : State) : (queueRecord r s).phn = s.phn := rfl
@[simp] theorem queueRecord_ssv (r : TxRecord) (s : State) : (queueRecord r s).ssv = s.ssv := rfl
@[simp] theorem queueRecord_tal (r : TxRecord) (s : State) : (queueRecord r s).tal = s.tal := rfl
@[simp] theorem queueRecord_spt (r : TxRecord) (s : State) : (queueRecord r s).spt = s.spt := rfl
@[simp] theorem queueRecord_pfs (r : TxRecord) (s : State) : (queueRecord r s).pfs = s.pfs := rfl
@[simp] theorem queueRecord_free (r : TxRecord) (s : State) : (queueRecord r s).free = s.free := rfl
@[simp] theorem queueRecord_pending (r : TxRecord) (s : State) : (queueRecord r s).pending = s.pending := rfl

/-! ### forgetCount -/

@[simp] theorem forgetCount_pins (c : Cabin) (s : State) : (forgetCount c s).pins = s.pins := rfl
@[simp] theorem forgetCount_clock (c : Cabin) (s : State) : (forgetCount c s).clock = s.clock := rfl
@[simp] theorem forgetCount_supply (c : Cabin) (s : State) : (forgetCount c s).supply = s.supply := rfl
@[simp] theorem forgetCount_resetCause (c : Cabin) (s : State) : (forgetCount c s).resetCause = s.resetCause := rfl
@[simp] theorem forgetCount_loaded (c : Cabin) (s : State) : (forgetCount c s).loaded = s.loaded := rfl
@[simp] theorem forgetCount_rmu (c : Cabin) (s : State) : (forgetCount c s).rmu = s.rmu := rfl
@[simp] theorem forgetCount_asc (c : Cabin) (s : State) : (forgetCount c s).asc = s.asc := rfl
@[simp] theorem forgetCount_cabins (c : Cabin) (s : State) : (forgetCount c s).cabins = s.cabins := rfl
@[simp] theorem forgetCount_lists (c : Cabin) (s : State) : (forgetCount c s).lists = s.lists := rfl
@[simp] theorem forgetCount_stu (c : Cabin) (s : State) : (forgetCount c s).stu = s.stu := rfl
@[simp] theorem forgetCount_dru (c : Cabin) (s : State) : (forgetCount c s).dru = s.dru := rfl
@[simp] theorem forgetCount_lnu (c : Cabin) (s : State) : (forgetCount c s).lnu = s.lnu := rfl
@[simp] theorem forgetCount_ltu (c : Cabin) (s : State) : (forgetCount c s).ltu = s.ltu := rfl
@[simp] theorem forgetCount_lkc (c : Cabin) (s : State) : (forgetCount c s).lkc = s.lkc := rfl
@[simp] theorem forgetCount_phn (c : Cabin) (s : State) : (forgetCount c s).phn = s.phn := rfl
@[simp] theorem forgetCount_ssv (c : Cabin) (s : State) : (forgetCount c s).ssv = s.ssv := rfl
@[simp] theorem forgetCount_tal (c : Cabin) (s : State) : (forgetCount c s).tal = s.tal := rfl
@[simp] theorem forgetCount_spt (c : Cabin) (s : State) : (forgetCount c s).spt = s.spt := rfl
@[simp] theorem forgetCount_pfs (c : Cabin) (s : State) :
    (forgetCount c s).pfs = { s.pfs with counts := s.pfs.counts.set c.val none c.isLt } := rfl
@[simp] theorem forgetCount_free (c : Cabin) (s : State) : (forgetCount c s).free = s.free := rfl
@[simp] theorem forgetCount_pending (c : Cabin) (s : State) : (forgetCount c s).pending = s.pending := rfl

end Sys2Proof.Machine
end

