-- ==== Sys2Proof/Laws/Ops.lean ====
section
/-! SUPPORT. What each operation of the shared operations leaves unchanged: every field of the state that it does not write. -/

-- One lemma after the other: side by side, their proofs need more memory in the joined text than the check has.
set_option Elab.async false

namespace Sys2Proof.Machine

@[simp] theorem notify_keeps (n : Notice) (s : State) :
    (notify n s).pins = s.pins ∧ (notify n s).clock = s.clock ∧ (notify n s).supply = s.supply ∧
    (notify n s).resetCause = s.resetCause ∧ (notify n s).loaded = s.loaded ∧ (notify n s).rmu = s.rmu ∧
    (notify n s).asc = s.asc ∧ (notify n s).cabins = s.cabins ∧ (notify n s).lists = s.lists ∧
    (notify n s).stu = s.stu ∧ (notify n s).dru = s.dru ∧ (notify n s).lnu = s.lnu ∧ (notify n s).ltu = s.ltu ∧
    (notify n s).lkc = s.lkc ∧ (notify n s).phn = s.phn ∧ (notify n s).ssv = s.ssv ∧ (notify n s).tal = s.tal ∧
    (notify n s).pfs = s.pfs ∧ (notify n s).free = s.free ∧ (notify n s).pending = s.pending ∧
    (notify n s).spt.rx = s.spt.rx ∧ (notify n s).spt.stopped = s.spt.stopped ∧
    (notify n s).spt.replies = s.spt.replies ∧ (notify n s).spt.badFrames = s.spt.badFrames ∧
    (notify n s).spt.dropRequest = s.spt.dropRequest ∧ (notify n s).spt.tx = s.spt.tx := by
  generalize h : notify n s = t
  unfold notify at h
  (try dsimp only at h)
  (repeat' split at h) <;> subst h <;> simp

@[simp] theorem putDemand_keeps (d : Demand) (s : State) :
    (putDemand d s).pins = s.pins ∧ (putDemand d s).clock = s.clock ∧ (putDemand d s).supply = s.supply ∧
    (putDemand d s).resetCause = s.resetCause ∧ (putDemand d s).loaded = s.loaded ∧ (putDemand d s).rmu = s.rmu ∧
    (putDemand d s).asc = s.asc ∧ (putDemand d s).cabins = s.cabins ∧ (putDemand d s).lists = s.lists ∧
    (putDemand d s).stu = s.stu ∧ (putDemand d s).dru = s.dru ∧ (putDemand d s).lnu = s.lnu ∧
    (putDemand d s).ltu = s.ltu ∧ (putDemand d s).lkc = s.lkc ∧ (putDemand d s).phn = s.phn ∧
    (putDemand d s).tal = s.tal ∧ (putDemand d s).spt = s.spt ∧ (putDemand d s).pfs = s.pfs ∧
    (putDemand d s).free = s.free ∧ (putDemand d s).pending = s.pending ∧ (putDemand d s).ssv.mode = s.ssv.mode ∧
    (putDemand d s).ssv.restricted = s.ssv.restricted ∧ (putDemand d s).ssv.lastKeep = s.ssv.lastKeep ∧
    (putDemand d s).ssv.deadline = s.ssv.deadline := by
  generalize h : putDemand d s = t
  unfold putDemand at h
  (try dsimp only at h)
  (repeat' split at h) <;> subst h <;> simp

@[simp] theorem evalDemand_keeps (s : State) :
    (evalDemand s).pins = s.pins ∧ (evalDemand s).clock = s.clock ∧ (evalDemand s).supply = s.supply ∧
    (evalDemand s).resetCause = s.resetCause ∧ (evalDemand s).loaded = s.loaded ∧ (evalDemand s).rmu = s.rmu ∧
    (evalDemand s).asc = s.asc ∧ (evalDemand s).cabins = s.cabins ∧ (evalDemand s).lists = s.lists ∧
    (evalDemand s).stu = s.stu ∧ (evalDemand s).dru = s.dru ∧ (evalDemand s).lnu = s.lnu ∧
    (evalDemand s).ltu = s.ltu ∧ (evalDemand s).lkc = s.lkc ∧ (evalDemand s).phn = s.phn ∧
    (evalDemand s).tal = s.tal ∧ (evalDemand s).pfs = s.pfs ∧ (evalDemand s).free = s.free ∧
    (evalDemand s).pending = s.pending ∧ (evalDemand s).ssv.mode = s.ssv.mode ∧
    (evalDemand s).ssv.restricted = s.ssv.restricted ∧ (evalDemand s).ssv.lastKeep = s.ssv.lastKeep ∧
    (evalDemand s).ssv.deadline = s.ssv.deadline ∧ (evalDemand s).spt.rx = s.spt.rx ∧
    (evalDemand s).spt.stopped = s.spt.stopped ∧ (evalDemand s).spt.replies = s.spt.replies ∧
    (evalDemand s).spt.badFrames = s.spt.badFrames ∧ (evalDemand s).spt.dropRequest = s.spt.dropRequest ∧
    (evalDemand s).spt.tx = s.spt.tx := by
  generalize h : evalDemand s = t
  unfold evalDemand at h
  (try dsimp only at h)
  (repeat' split at h) <;> subst h <;> simp

@[simp] theorem reportActive_keeps (c : Cause) (d : Detail) (s : State) :
    (reportActive c d s).pins = s.pins ∧ (reportActive c d s).clock = s.clock ∧
    (reportActive c d s).supply = s.supply ∧ (reportActive c d s).resetCause = s.resetCause ∧
    (reportActive c d s).loaded = s.loaded ∧ (reportActive c d s).rmu = s.rmu ∧ (reportActive c d s).asc = s.asc ∧
    (reportActive c d s).cabins = s.cabins ∧ (reportActive c d s).lists = s.lists ∧
    (reportActive c d s).stu = s.stu ∧ (reportActive c d s).dru = s.dru ∧ (reportActive c d s).lnu = s.lnu ∧
    (reportActive c d s).ltu = s.ltu ∧ (reportActive c d s).lkc = s.lkc ∧ (reportActive c d s).phn = s.phn ∧
    (reportActive c d s).tal = s.tal ∧ (reportActive c d s).pfs = s.pfs ∧ (reportActive c d s).free = s.free ∧
    (reportActive c d s).pending = s.pending ∧ (reportActive c d s).ssv.mode = s.ssv.mode ∧
    (reportActive c d s).ssv.restricted = s.ssv.restricted ∧ (reportActive c d s).ssv.lastKeep = s.ssv.lastKeep ∧
    (reportActive c d s).ssv.deadline = s.ssv.deadline ∧ (reportActive c d s).spt.rx = s.spt.rx ∧
    (reportActive c d s).spt.stopped = s.spt.stopped ∧ (reportActive c d s).spt.replies = s.spt.replies ∧
    (reportActive c d s).spt.badFrames = s.spt.badFrames ∧ (reportActive c d s).spt.dropRequest = s.spt.dropRequest ∧
    (reportActive c d s).spt.tx = s.spt.tx := by
  generalize h : reportActive c d s = t
  unfold reportActive at h
  (try dsimp only at h)
  (repeat' split at h) <;> subst h <;> simp

@[simp] theorem reportInactive_keeps (c : Cause) (s : State) :
    (reportInactive c s).pins = s.pins ∧ (reportInactive c s).clock = s.clock ∧
    (reportInactive c s).supply = s.supply ∧ (reportInactive c s).resetCause = s.resetCause ∧
    (reportInactive c s).loaded = s.loaded ∧ (reportInactive c s).rmu = s.rmu ∧ (reportInactive c s).asc = s.asc ∧
    (reportInactive c s).cabins = s.cabins ∧ (reportInactive c s).lists = s.lists ∧
    (reportInactive c s).stu = s.stu ∧ (reportInactive c s).dru = s.dru ∧ (reportInactive c s).lnu = s.lnu ∧
    (reportInactive c s).ltu = s.ltu ∧ (reportInactive c s).lkc = s.lkc ∧ (reportInactive c s).phn = s.phn ∧
    (reportInactive c s).tal = s.tal ∧ (reportInactive c s).pfs = s.pfs ∧ (reportInactive c s).free = s.free ∧
    (reportInactive c s).pending = s.pending ∧ (reportInactive c s).ssv.mode = s.ssv.mode ∧
    (reportInactive c s).ssv.restricted = s.ssv.restricted ∧ (reportInactive c s).ssv.lastKeep = s.ssv.lastKeep ∧
    (reportInactive c s).ssv.deadline = s.ssv.deadline ∧ (reportInactive c s).spt.rx = s.spt.rx ∧
    (reportInactive c s).spt.stopped = s.spt.stopped ∧ (reportInactive c s).spt.replies = s.spt.replies ∧
    (reportInactive c s).spt.badFrames = s.spt.badFrames ∧ (reportInactive c s).spt.dropRequest = s.spt.dropRequest ∧
    (reportInactive c s).spt.tx = s.spt.tx := by
  generalize h : reportInactive c s = t
  unfold reportInactive at h
  (try dsimp only at h)
  (repeat' split at h) <;> subst h <;> simp

@[simp] theorem raiseEvent_keeps (c : Cause) (d : Detail) (s : State) :
    (raiseEvent c d s).pins = s.pins ∧ (raiseEvent c d s).clock = s.clock ∧ (raiseEvent c d s).supply = s.supply ∧
    (raiseEvent c d s).resetCause = s.resetCause ∧ (raiseEvent c d s).loaded = s.loaded ∧
    (raiseEvent c d s).rmu = s.rmu ∧ (raiseEvent c d s).asc = s.asc ∧ (raiseEvent c d s).cabins = s.cabins ∧
    (raiseEvent c d s).lists = s.lists ∧ (raiseEvent c d s).stu = s.stu ∧ (raiseEvent c d s).dru = s.dru ∧
    (raiseEvent c d s).lnu = s.lnu ∧ (raiseEvent c d s).ltu = s.ltu ∧ (raiseEvent c d s).lkc = s.lkc ∧
    (raiseEvent c d s).phn = s.phn ∧ (raiseEvent c d s).tal = s.tal ∧ (raiseEvent c d s).pfs = s.pfs ∧
    (raiseEvent c d s).free = s.free ∧ (raiseEvent c d s).pending = s.pending ∧
    (raiseEvent c d s).ssv.mode = s.ssv.mode ∧ (raiseEvent c d s).ssv.restricted = s.ssv.restricted ∧
    (raiseEvent c d s).ssv.lastKeep = s.ssv.lastKeep ∧ (raiseEvent c d s).ssv.deadline = s.ssv.deadline ∧
    (raiseEvent c d s).spt.rx = s.spt.rx ∧ (raiseEvent c d s).spt.stopped = s.spt.stopped ∧
    (raiseEvent c d s).spt.replies = s.spt.replies ∧ (raiseEvent c d s).spt.badFrames = s.spt.badFrames ∧
    (raiseEvent c d s).spt.dropRequest = s.spt.dropRequest ∧ (raiseEvent c d s).spt.tx = s.spt.tx := by
  generalize h : raiseEvent c d s = t
  unfold raiseEvent at h
  (try dsimp only at h)
  (repeat' split at h) <;> subst h <;> simp

@[simp] theorem reportCondition_keeps (c : Cause) (now : Bool) (d : Detail) (s : State) :
    (reportCondition c now d s).pins = s.pins ∧ (reportCondition c now d s).clock = s.clock ∧
    (reportCondition c now d s).supply = s.supply ∧ (reportCondition c now d s).resetCause = s.resetCause ∧
    (reportCondition c now d s).loaded = s.loaded ∧ (reportCondition c now d s).rmu = s.rmu ∧
    (reportCondition c now d s).asc = s.asc ∧ (reportCondition c now d s).cabins = s.cabins ∧
    (reportCondition c now d s).lists = s.lists ∧ (reportCondition c now d s).stu = s.stu ∧
    (reportCondition c now d s).dru = s.dru ∧ (reportCondition c now d s).lnu = s.lnu ∧
    (reportCondition c now d s).ltu = s.ltu ∧ (reportCondition c now d s).lkc = s.lkc ∧
    (reportCondition c now d s).phn = s.phn ∧ (reportCondition c now d s).tal = s.tal ∧
    (reportCondition c now d s).pfs = s.pfs ∧ (reportCondition c now d s).free = s.free ∧
    (reportCondition c now d s).pending = s.pending ∧ (reportCondition c now d s).ssv.mode = s.ssv.mode ∧
    (reportCondition c now d s).ssv.restricted = s.ssv.restricted ∧
    (reportCondition c now d s).ssv.lastKeep = s.ssv.lastKeep ∧
    (reportCondition c now d s).ssv.deadline = s.ssv.deadline ∧ (reportCondition c now d s).spt.rx = s.spt.rx ∧
    (reportCondition c now d s).spt.stopped = s.spt.stopped ∧
    (reportCondition c now d s).spt.replies = s.spt.replies ∧
    (reportCondition c now d s).spt.badFrames = s.spt.badFrames ∧
    (reportCondition c now d s).spt.dropRequest = s.spt.dropRequest ∧ (reportCondition c now d s).spt.tx = s.spt.tx := by
  generalize h : reportCondition c now d s = t
  unfold reportCondition at h
  (try dsimp only at h)
  (repeat' split at h) <;> subst h <;> simp

@[simp] theorem reportDetail_keeps (c : Cause) (d : Detail) (s : State) :
    (reportDetail c d s).pins = s.pins ∧ (reportDetail c d s).clock = s.clock ∧
    (reportDetail c d s).supply = s.supply ∧ (reportDetail c d s).resetCause = s.resetCause ∧
    (reportDetail c d s).loaded = s.loaded ∧ (reportDetail c d s).rmu = s.rmu ∧ (reportDetail c d s).asc = s.asc ∧
    (reportDetail c d s).cabins = s.cabins ∧ (reportDetail c d s).lists = s.lists ∧
    (reportDetail c d s).stu = s.stu ∧ (reportDetail c d s).dru = s.dru ∧ (reportDetail c d s).lnu = s.lnu ∧
    (reportDetail c d s).ltu = s.ltu ∧ (reportDetail c d s).lkc = s.lkc ∧ (reportDetail c d s).phn = s.phn ∧
    (reportDetail c d s).tal = s.tal ∧ (reportDetail c d s).spt = s.spt ∧ (reportDetail c d s).pfs = s.pfs ∧
    (reportDetail c d s).free = s.free ∧ (reportDetail c d s).pending = s.pending ∧
    (reportDetail c d s).ssv.mode = s.ssv.mode ∧ (reportDetail c d s).ssv.restricted = s.ssv.restricted ∧
    (reportDetail c d s).ssv.lastKeep = s.ssv.lastKeep ∧ (reportDetail c d s).ssv.deadline = s.ssv.deadline := by
  generalize h : reportDetail c d s = t
  unfold reportDetail at h
  (try dsimp only at h)
  (repeat' split at h) <;> subst h <;> simp

@[simp] theorem tallyAdd_keeps (k : CounterIx) (a : Nat) (s : State) :
    (tallyAdd k a s).pins = s.pins ∧ (tallyAdd k a s).clock = s.clock ∧ (tallyAdd k a s).supply = s.supply ∧
    (tallyAdd k a s).resetCause = s.resetCause ∧ (tallyAdd k a s).loaded = s.loaded ∧ (tallyAdd k a s).rmu = s.rmu ∧
    (tallyAdd k a s).asc = s.asc ∧ (tallyAdd k a s).cabins = s.cabins ∧ (tallyAdd k a s).lists = s.lists ∧
    (tallyAdd k a s).stu = s.stu ∧ (tallyAdd k a s).dru = s.dru ∧ (tallyAdd k a s).lnu = s.lnu ∧
    (tallyAdd k a s).ltu = s.ltu ∧ (tallyAdd k a s).lkc = s.lkc ∧ (tallyAdd k a s).phn = s.phn ∧
    (tallyAdd k a s).ssv = s.ssv ∧ (tallyAdd k a s).pfs = s.pfs ∧ (tallyAdd k a s).free = s.free ∧
    (tallyAdd k a s).pending = s.pending ∧ (tallyAdd k a s).spt.rx = s.spt.rx ∧
    (tallyAdd k a s).spt.stopped = s.spt.stopped ∧ (tallyAdd k a s).spt.replies = s.spt.replies ∧
    (tallyAdd k a s).spt.badFrames = s.spt.badFrames ∧ (tallyAdd k a s).spt.dropRequest = s.spt.dropRequest ∧
    (tallyAdd k a s).spt.tx = s.spt.tx := by
  generalize h : tallyAdd k a s = t
  unfold tallyAdd at h
  (try dsimp only at h)
  (repeat' split at h) <;> subst h <;> simp

@[simp] theorem tallyOne_keeps (src : TallySource) (k : CounterIx) (s : State) :
    (tallyOne src k s).pins = s.pins ∧ (tallyOne src k s).clock = s.clock ∧ (tallyOne src k s).supply = s.supply ∧
    (tallyOne src k s).resetCause = s.resetCause ∧ (tallyOne src k s).loaded = s.loaded ∧
    (tallyOne src k s).rmu = s.rmu ∧ (tallyOne src k s).asc = s.asc ∧ (tallyOne src k s).cabins = s.cabins ∧
    (tallyOne src k s).lists = s.lists ∧ (tallyOne src k s).stu = s.stu ∧ (tallyOne src k s).dru = s.dru ∧
    (tallyOne src k s).lnu = s.lnu ∧ (tallyOne src k s).ltu = s.ltu ∧ (tallyOne src k s).lkc = s.lkc ∧
    (tallyOne src k s).phn = s.phn ∧ (tallyOne src k s).ssv = s.ssv ∧ (tallyOne src k s).pfs = s.pfs ∧
    (tallyOne src k s).free = s.free ∧ (tallyOne src k s).pending = s.pending ∧
    (tallyOne src k s).spt.rx = s.spt.rx ∧ (tallyOne src k s).spt.stopped = s.spt.stopped ∧
    (tallyOne src k s).spt.replies = s.spt.replies ∧ (tallyOne src k s).spt.badFrames = s.spt.badFrames ∧
    (tallyOne src k s).spt.dropRequest = s.spt.dropRequest ∧ (tallyOne src k s).spt.tx = s.spt.tx := by
  generalize h : tallyOne src k s = t
  unfold tallyOne at h
  (try dsimp only at h)
  (repeat' split at h) <;> subst h <;> simp

theorem tallyEvent_fold_keeps (src : TallySource) (l : List CounterIx) (s : State) :
    (l.foldl (fun s k => tallyOne src k s) s).pins = s.pins ∧
    (l.foldl (fun s k => tallyOne src k s) s).clock = s.clock ∧
    (l.foldl (fun s k => tallyOne src k s) s).supply = s.supply ∧
    (l.foldl (fun s k => tallyOne src k s) s).resetCause = s.resetCause ∧
    (l.foldl (fun s k => tallyOne src k s) s).loaded = s.loaded ∧
    (l.foldl (fun s k => tallyOne src k s) s).rmu = s.rmu ∧ (l.foldl (fun s k => tallyOne src k s) s).asc = s.asc ∧
    (l.foldl (fun s k => tallyOne src k s) s).cabins = s.cabins ∧
    (l.foldl (fun s k => tallyOne src k s) s).lists = s.lists ∧
    (l.foldl (fun s k => tallyOne src k s) s).stu = s.stu ∧ (l.foldl (fun s k => tallyOne src k s) s).dru = s.dru ∧
    (l.foldl (fun s k => tallyOne src k s) s).lnu = s.lnu ∧ (l.foldl (fun s k => tallyOne src k s) s).ltu = s.ltu ∧
    (l.foldl (fun s k => tallyOne src k s) s).lkc = s.lkc ∧ (l.foldl (fun s k => tallyOne src k s) s).phn = s.phn ∧
    (l.foldl (fun s k => tallyOne src k s) s).ssv = s.ssv ∧ (l.foldl (fun s k => tallyOne src k s) s).pfs = s.pfs ∧
    (l.foldl (fun s k => tallyOne src k s) s).free = s.free ∧
    (l.foldl (fun s k => tallyOne src k s) s).pending = s.pending ∧
    (l.foldl (fun s k => tallyOne src k s) s).spt.rx = s.spt.rx ∧
    (l.foldl (fun s k => tallyOne src k s) s).spt.stopped = s.spt.stopped ∧
    (l.foldl (fun s k => tallyOne src k s) s).spt.replies = s.spt.replies ∧
    (l.foldl (fun s k => tallyOne src k s) s).spt.badFrames = s.spt.badFrames ∧
    (l.foldl (fun s k => tallyOne src k s) s).spt.dropRequest = s.spt.dropRequest ∧
    (l.foldl (fun s k => tallyOne src k s) s).spt.tx = s.spt.tx := by
  induction l generalizing s with
  | nil => simp
  | cons k l ih => simp [ih]

@[simp] theorem tallyEvent_keeps (src : TallySource) (s : State) :
    (tallyEvent src s).pins = s.pins ∧ (tallyEvent src s).clock = s.clock ∧ (tallyEvent src s).supply = s.supply ∧
    (tallyEvent src s).resetCause = s.resetCause ∧ (tallyEvent src s).loaded = s.loaded ∧
    (tallyEvent src s).rmu = s.rmu ∧ (tallyEvent src s).asc = s.asc ∧ (tallyEvent src s).cabins = s.cabins ∧
    (tallyEvent src s).lists = s.lists ∧ (tallyEvent src s).stu = s.stu ∧ (tallyEvent src s).dru = s.dru ∧
    (tallyEvent src s).lnu = s.lnu ∧ (tallyEvent src s).ltu = s.ltu ∧ (tallyEvent src s).lkc = s.lkc ∧
    (tallyEvent src s).phn = s.phn ∧ (tallyEvent src s).ssv = s.ssv ∧ (tallyEvent src s).pfs = s.pfs ∧
    (tallyEvent src s).free = s.free ∧ (tallyEvent src s).pending = s.pending ∧
    (tallyEvent src s).spt.rx = s.spt.rx ∧ (tallyEvent src s).spt.stopped = s.spt.stopped ∧
    (tallyEvent src s).spt.replies = s.spt.replies ∧ (tallyEvent src s).spt.badFrames = s.spt.badFrames ∧
    (tallyEvent src s).spt.dropRequest = s.spt.dropRequest ∧ (tallyEvent src s).spt.tx = s.spt.tx := by
  unfold tallyEvent
  exact tallyEvent_fold_keeps src CounterIx.all s

@[simp] theorem leaveList_keeps (c : Cabin) (s : State) :
    (leaveList c s).pins = s.pins ∧ (leaveList c s).clock = s.clock ∧ (leaveList c s).supply = s.supply ∧
    (leaveList c s).resetCause = s.resetCause ∧ (leaveList c s).loaded = s.loaded ∧ (leaveList c s).rmu = s.rmu ∧
    (leaveList c s).asc = s.asc ∧ (leaveList c s).cabins = s.cabins ∧ (leaveList c s).stu = s.stu ∧
    (leaveList c s).dru = s.dru ∧ (leaveList c s).lnu = s.lnu ∧ (leaveList c s).ltu = s.ltu ∧
    (leaveList c s).lkc = s.lkc ∧ (leaveList c s).phn = s.phn ∧ (leaveList c s).ssv = s.ssv ∧
    (leaveList c s).tal = s.tal ∧ (leaveList c s).spt = s.spt ∧ (leaveList c s).pfs = s.pfs ∧
    (leaveList c s).free = s.free ∧ (leaveList c s).pending = s.pending := by
  generalize h : leaveList c s = t
  unfold leaveList at h
  (try dsimp only at h)
  (repeat' split at h) <;> subst h <;> simp

@[simp] theorem putLocation_keeps (c : Cabin) (l : Location) (s : State) :
    (putLocation c l s).pins = s.pins ∧ (putLocation c l s).clock = s.clock ∧ (putLocation c l s).supply = s.supply ∧
    (putLocation c l s).resetCause = s.resetCause ∧ (putLocation c l s).loaded = s.loaded ∧
    (putLocation c l s).rmu = s.rmu ∧ (putLocation c l s).asc = s.asc ∧ (putLocation c l s).lists = s.lists ∧
    (putLocation c l s).stu = s.stu ∧ (putLocation c l s).dru = s.dru ∧ (putLocation c l s).lnu = s.lnu ∧
    (putLocation c l s).ltu = s.ltu ∧ (putLocation c l s).lkc = s.lkc ∧ (putLocation c l s).phn = s.phn ∧
    (putLocation c l s).ssv = s.ssv ∧ (putLocation c l s).tal = s.tal ∧ (putLocation c l s).spt = s.spt ∧
    (putLocation c l s).pfs = s.pfs ∧ (putLocation c l s).free = s.free ∧ (putLocation c l s).pending = s.pending := by
  generalize h : putLocation c l s = t
  unfold putLocation at h
  (try dsimp only at h)
  (repeat' split at h) <;> subst h <;> simp

@[simp] theorem updateEntry_keeps (id : Nat) (f : StationEntry → StationEntry) (s : State) :
    (updateEntry id f s).pins = s.pins ∧ (updateEntry id f s).clock = s.clock ∧
    (updateEntry id f s).supply = s.supply ∧ (updateEntry id f s).resetCause = s.resetCause ∧
    (updateEntry id f s).loaded = s.loaded ∧ (updateEntry id f s).rmu = s.rmu ∧ (updateEntry id f s).asc = s.asc ∧
    (updateEntry id f s).cabins = s.cabins ∧ (updateEntry id f s).stu = s.stu ∧ (updateEntry id f s).dru = s.dru ∧
    (updateEntry id f s).lnu = s.lnu ∧ (updateEntry id f s).ltu = s.ltu ∧ (updateEntry id f s).lkc = s.lkc ∧
    (updateEntry id f s).phn = s.phn ∧ (updateEntry id f s).ssv = s.ssv ∧ (updateEntry id f s).tal = s.tal ∧
    (updateEntry id f s).spt = s.spt ∧ (updateEntry id f s).pfs = s.pfs ∧ (updateEntry id f s).free = s.free ∧
    (updateEntry id f s).pending = s.pending := by
  generalize h : updateEntry id f s = t
  unfold updateEntry at h
  (try dsimp only at h)
  (repeat' split at h) <;> subst h <;> simp

@[simp] theorem removeEntry_keeps (id : Nat) (s : State) :
    (removeEntry id s).pins = s.pins ∧ (removeEntry id s).clock = s.clock ∧ (removeEntry id s).supply = s.supply ∧
    (removeEntry id s).resetCause = s.resetCause ∧ (removeEntry id s).loaded = s.loaded ∧
    (removeEntry id s).rmu = s.rmu ∧ (removeEntry id s).asc = s.asc ∧ (removeEntry id s).cabins = s.cabins ∧
    (removeEntry id s).stu = s.stu ∧ (removeEntry id s).dru = s.dru ∧ (removeEntry id s).lnu = s.lnu ∧
    (removeEntry id s).ltu = s.ltu ∧ (removeEntry id s).lkc = s.lkc ∧ (removeEntry id s).phn = s.phn ∧
    (removeEntry id s).ssv = s.ssv ∧ (removeEntry id s).tal = s.tal ∧ (removeEntry id s).spt = s.spt ∧
    (removeEntry id s).pfs = s.pfs ∧ (removeEntry id s).free = s.free ∧ (removeEntry id s).pending = s.pending := by
  generalize h : removeEntry id s = t
  unfold removeEntry at h
  (try dsimp only at h)
  (repeat' split at h) <;> subst h <;> simp

@[simp] theorem createUnknown_keeps (g : Segment) (atGate : Bool) (s : State) :
    (createUnknown g atGate s).pins = s.pins ∧ (createUnknown g atGate s).clock = s.clock ∧
    (createUnknown g atGate s).supply = s.supply ∧ (createUnknown g atGate s).resetCause = s.resetCause ∧
    (createUnknown g atGate s).loaded = s.loaded ∧ (createUnknown g atGate s).rmu = s.rmu ∧
    (createUnknown g atGate s).asc = s.asc ∧ (createUnknown g atGate s).cabins = s.cabins ∧
    (createUnknown g atGate s).dru = s.dru ∧ (createUnknown g atGate s).lnu = s.lnu ∧
    (createUnknown g atGate s).ltu = s.ltu ∧ (createUnknown g atGate s).lkc = s.lkc ∧
    (createUnknown g atGate s).phn = s.phn ∧ (createUnknown g atGate s).ssv = s.ssv ∧
    (createUnknown g atGate s).tal = s.tal ∧ (createUnknown g atGate s).spt = s.spt ∧
    (createUnknown g atGate s).pfs = s.pfs ∧ (createUnknown g atGate s).free = s.free ∧
    (createUnknown g atGate s).pending = s.pending := by
  generalize h : createUnknown g atGate s = t
  unfold createUnknown at h
  (try dsimp only at h)
  (repeat' split at h) <;> subst h <;> simp

@[simp] theorem appendStation_keeps (who : Occupant) (g : Segment) (s : State) :
    (appendStation who g s).pins = s.pins ∧ (appendStation who g s).clock = s.clock ∧
    (appendStation who g s).supply = s.supply ∧ (appendStation who g s).resetCause = s.resetCause ∧
    (appendStation who g s).loaded = s.loaded ∧ (appendStation who g s).rmu = s.rmu ∧
    (appendStation who g s).asc = s.asc ∧ (appendStation who g s).cabins = s.cabins ∧
    (appendStation who g s).dru = s.dru ∧ (appendStation who g s).lnu = s.lnu ∧ (appendStation who g s).ltu = s.ltu ∧
    (appendStation who g s).lkc = s.lkc ∧ (appendStation who g s).phn = s.phn ∧ (appendStation who g s).ssv = s.ssv ∧
    (appendStation who g s).tal = s.tal ∧ (appendStation who g s).spt = s.spt ∧ (appendStation who g s).pfs = s.pfs ∧
    (appendStation who g s).free = s.free ∧ (appendStation who g s).pending = s.pending := by
  generalize h : appendStation who g s = t
  unfold appendStation at h
  (try dsimp only at h)
  (repeat' split at h) <;> subst h <;> simp

@[simp] theorem writeDoor_keeps (c : Option Cabin) (f : DoorState → DoorState) (s : State) :
    (writeDoor c f s).pins = s.pins ∧ (writeDoor c f s).clock = s.clock ∧ (writeDoor c f s).supply = s.supply ∧
    (writeDoor c f s).resetCause = s.resetCause ∧ (writeDoor c f s).loaded = s.loaded ∧
    (writeDoor c f s).rmu = s.rmu ∧ (writeDoor c f s).asc = s.asc ∧ (writeDoor c f s).lists = s.lists ∧
    (writeDoor c f s).stu = s.stu ∧ (writeDoor c f s).dru = s.dru ∧ (writeDoor c f s).lnu = s.lnu ∧
    (writeDoor c f s).ltu = s.ltu ∧ (writeDoor c f s).lkc = s.lkc ∧ (writeDoor c f s).phn = s.phn ∧
    (writeDoor c f s).ssv = s.ssv ∧ (writeDoor c f s).tal = s.tal ∧ (writeDoor c f s).spt = s.spt ∧
    (writeDoor c f s).pfs = s.pfs ∧ (writeDoor c f s).free = s.free ∧ (writeDoor c f s).pending = s.pending := by
  generalize h : writeDoor c f s = t
  unfold writeDoor at h
  (try dsimp only at h)
  (repeat' split at h) <;> subst h <;> simp

end Sys2Proof.Machine
end

