-- ==== Sys2Proof/Laws/Rope.lean ====
section
/-! SUPPORT. What each operation of the Rope Measurement Unit leaves unchanged: every field of the state that it does not write. -/

-- One lemma after the other: side by side, their proofs need more memory in the joined text than the check has.
set_option Elab.async false

namespace Sys2Proof.Machine

@[simp] theorem slipPersistence_keeps (s : State) :
    (slipPersistence s).pins = s.pins ∧ (slipPersistence s).clock = s.clock ∧ (slipPersistence s).supply = s.supply ∧
    (slipPersistence s).resetCause = s.resetCause ∧ (slipPersistence s).loaded = s.loaded ∧
    (slipPersistence s).asc = s.asc ∧ (slipPersistence s).cabins = s.cabins ∧ (slipPersistence s).lists = s.lists ∧
    (slipPersistence s).stu = s.stu ∧ (slipPersistence s).dru = s.dru ∧ (slipPersistence s).lnu = s.lnu ∧
    (slipPersistence s).ltu = s.ltu ∧ (slipPersistence s).lkc = s.lkc ∧ (slipPersistence s).phn = s.phn ∧
    (slipPersistence s).tal = s.tal ∧ (slipPersistence s).pfs = s.pfs ∧ (slipPersistence s).free = s.free ∧
    (slipPersistence s).pending = s.pending ∧ (slipPersistence s).ssv.mode = s.ssv.mode ∧
    (slipPersistence s).ssv.restricted = s.ssv.restricted ∧ (slipPersistence s).ssv.lastKeep = s.ssv.lastKeep ∧
    (slipPersistence s).ssv.deadline = s.ssv.deadline ∧ (slipPersistence s).spt.rx = s.spt.rx ∧
    (slipPersistence s).spt.stopped = s.spt.stopped ∧ (slipPersistence s).spt.replies = s.spt.replies ∧
    (slipPersistence s).spt.badFrames = s.spt.badFrames ∧ (slipPersistence s).spt.dropRequest = s.spt.dropRequest ∧
    (slipPersistence s).spt.tx = s.spt.tx := by
  generalize h : slipPersistence s = t
  unfold slipPersistence at h
  (try dsimp only at h)
  (repeat' split at h) <;> subst h <;> simp

@[simp] theorem overspeedEval_keeps (s : State) :
    (overspeedEval s).pins = s.pins ∧ (overspeedEval s).clock = s.clock ∧ (overspeedEval s).supply = s.supply ∧
    (overspeedEval s).resetCause = s.resetCause ∧ (overspeedEval s).loaded = s.loaded ∧
    (overspeedEval s).rmu = s.rmu ∧ (overspeedEval s).asc = s.asc ∧ (overspeedEval s).cabins = s.cabins ∧
    (overspeedEval s).lists = s.lists ∧ (overspeedEval s).stu = s.stu ∧ (overspeedEval s).dru = s.dru ∧
    (overspeedEval s).lnu = s.lnu ∧ (overspeedEval s).ltu = s.ltu ∧ (overspeedEval s).lkc = s.lkc ∧
    (overspeedEval s).phn = s.phn ∧ (overspeedEval s).tal = s.tal ∧ (overspeedEval s).pfs = s.pfs ∧
    (overspeedEval s).free = s.free ∧ (overspeedEval s).pending = s.pending ∧
    (overspeedEval s).ssv.mode = s.ssv.mode ∧ (overspeedEval s).ssv.restricted = s.ssv.restricted ∧
    (overspeedEval s).ssv.lastKeep = s.ssv.lastKeep ∧ (overspeedEval s).ssv.deadline = s.ssv.deadline ∧
    (overspeedEval s).spt.rx = s.spt.rx ∧ (overspeedEval s).spt.stopped = s.spt.stopped ∧
    (overspeedEval s).spt.replies = s.spt.replies ∧ (overspeedEval s).spt.badFrames = s.spt.badFrames ∧
    (overspeedEval s).spt.dropRequest = s.spt.dropRequest ∧ (overspeedEval s).spt.tx = s.spt.tx := by
  generalize h : overspeedEval s = t
  unfold overspeedEval at h
  (try dsimp only at h)
  (repeat' split at h) <;> subst h <;> simp

@[simp] theorem overspeedHighEval_keeps (s : State) :
    (overspeedHighEval s).pins = s.pins ∧ (overspeedHighEval s).clock = s.clock ∧
    (overspeedHighEval s).supply = s.supply ∧ (overspeedHighEval s).resetCause = s.resetCause ∧
    (overspeedHighEval s).loaded = s.loaded ∧ (overspeedHighEval s).rmu = s.rmu ∧ (overspeedHighEval s).asc = s.asc ∧
    (overspeedHighEval s).cabins = s.cabins ∧ (overspeedHighEval s).lists = s.lists ∧
    (overspeedHighEval s).stu = s.stu ∧ (overspeedHighEval s).dru = s.dru ∧ (overspeedHighEval s).lnu = s.lnu ∧
    (overspeedHighEval s).ltu = s.ltu ∧ (overspeedHighEval s).lkc = s.lkc ∧ (overspeedHighEval s).phn = s.phn ∧
    (overspeedHighEval s).tal = s.tal ∧ (overspeedHighEval s).pfs = s.pfs ∧ (overspeedHighEval s).free = s.free ∧
    (overspeedHighEval s).pending = s.pending ∧ (overspeedHighEval s).ssv.mode = s.ssv.mode ∧
    (overspeedHighEval s).ssv.restricted = s.ssv.restricted ∧ (overspeedHighEval s).ssv.lastKeep = s.ssv.lastKeep ∧
    (overspeedHighEval s).ssv.deadline = s.ssv.deadline ∧ (overspeedHighEval s).spt.rx = s.spt.rx ∧
    (overspeedHighEval s).spt.stopped = s.spt.stopped ∧ (overspeedHighEval s).spt.replies = s.spt.replies ∧
    (overspeedHighEval s).spt.badFrames = s.spt.badFrames ∧
    (overspeedHighEval s).spt.dropRequest = s.spt.dropRequest ∧ (overspeedHighEval s).spt.tx = s.spt.tx := by
  generalize h : overspeedHighEval s = t
  unfold overspeedHighEval at h
  (try dsimp only at h)
  (repeat' split at h) <;> subst h <;> simp

@[simp] theorem afterMwSpeed_keeps (s : State) :
    (afterMwSpeed s).pins = s.pins ∧ (afterMwSpeed s).clock = s.clock ∧ (afterMwSpeed s).supply = s.supply ∧
    (afterMwSpeed s).resetCause = s.resetCause ∧ (afterMwSpeed s).loaded = s.loaded ∧ (afterMwSpeed s).asc = s.asc ∧
    (afterMwSpeed s).cabins = s.cabins ∧ (afterMwSpeed s).lists = s.lists ∧ (afterMwSpeed s).stu = s.stu ∧
    (afterMwSpeed s).dru = s.dru ∧ (afterMwSpeed s).lnu = s.lnu ∧ (afterMwSpeed s).ltu = s.ltu ∧
    (afterMwSpeed s).lkc = s.lkc ∧ (afterMwSpeed s).phn = s.phn ∧ (afterMwSpeed s).tal = s.tal ∧
    (afterMwSpeed s).pfs = s.pfs ∧ (afterMwSpeed s).free = s.free ∧ (afterMwSpeed s).pending = s.pending ∧
    (afterMwSpeed s).ssv.mode = s.ssv.mode ∧ (afterMwSpeed s).ssv.restricted = s.ssv.restricted ∧
    (afterMwSpeed s).ssv.lastKeep = s.ssv.lastKeep ∧ (afterMwSpeed s).ssv.deadline = s.ssv.deadline ∧
    (afterMwSpeed s).spt.rx = s.spt.rx ∧ (afterMwSpeed s).spt.stopped = s.spt.stopped ∧
    (afterMwSpeed s).spt.replies = s.spt.replies ∧ (afterMwSpeed s).spt.badFrames = s.spt.badFrames ∧
    (afterMwSpeed s).spt.dropRequest = s.spt.dropRequest ∧ (afterMwSpeed s).spt.tx = s.spt.tx := by
  generalize h : afterMwSpeed s = t
  unfold afterMwSpeed at h
  (try dsimp only at h)
  (repeat' split at h) <;> subst h <;> simp

@[simp] theorem afterBwSpeed_keeps (s : State) :
    (afterBwSpeed s).pins = s.pins ∧ (afterBwSpeed s).clock = s.clock ∧ (afterBwSpeed s).supply = s.supply ∧
    (afterBwSpeed s).resetCause = s.resetCause ∧ (afterBwSpeed s).loaded = s.loaded ∧ (afterBwSpeed s).asc = s.asc ∧
    (afterBwSpeed s).cabins = s.cabins ∧ (afterBwSpeed s).lists = s.lists ∧ (afterBwSpeed s).stu = s.stu ∧
    (afterBwSpeed s).dru = s.dru ∧ (afterBwSpeed s).lnu = s.lnu ∧ (afterBwSpeed s).ltu = s.ltu ∧
    (afterBwSpeed s).lkc = s.lkc ∧ (afterBwSpeed s).phn = s.phn ∧ (afterBwSpeed s).tal = s.tal ∧
    (afterBwSpeed s).pfs = s.pfs ∧ (afterBwSpeed s).free = s.free ∧ (afterBwSpeed s).pending = s.pending ∧
    (afterBwSpeed s).ssv.mode = s.ssv.mode ∧ (afterBwSpeed s).ssv.restricted = s.ssv.restricted ∧
    (afterBwSpeed s).ssv.lastKeep = s.ssv.lastKeep ∧ (afterBwSpeed s).ssv.deadline = s.ssv.deadline ∧
    (afterBwSpeed s).spt.rx = s.spt.rx ∧ (afterBwSpeed s).spt.stopped = s.spt.stopped ∧
    (afterBwSpeed s).spt.replies = s.spt.replies ∧ (afterBwSpeed s).spt.badFrames = s.spt.badFrames ∧
    (afterBwSpeed s).spt.dropRequest = s.spt.dropRequest ∧ (afterBwSpeed s).spt.tx = s.spt.tx := by
  generalize h : afterBwSpeed s = t
  unfold afterBwSpeed at h
  (try dsimp only at h)
  (repeat' split at h) <;> subst h <;> simp

@[simp] theorem mwStall_keeps (s : State) :
    (mwStall s).pins = s.pins ∧ (mwStall s).clock = s.clock ∧ (mwStall s).supply = s.supply ∧
    (mwStall s).resetCause = s.resetCause ∧ (mwStall s).loaded = s.loaded ∧ (mwStall s).asc = s.asc ∧
    (mwStall s).cabins = s.cabins ∧ (mwStall s).lists = s.lists ∧ (mwStall s).stu = s.stu ∧ (mwStall s).dru = s.dru ∧
    (mwStall s).lnu = s.lnu ∧ (mwStall s).ltu = s.ltu ∧ (mwStall s).lkc = s.lkc ∧ (mwStall s).phn = s.phn ∧
    (mwStall s).tal = s.tal ∧ (mwStall s).pfs = s.pfs ∧ (mwStall s).free = s.free ∧ (mwStall s).pending = s.pending ∧
    (mwStall s).ssv.mode = s.ssv.mode ∧ (mwStall s).ssv.restricted = s.ssv.restricted ∧
    (mwStall s).ssv.lastKeep = s.ssv.lastKeep ∧ (mwStall s).ssv.deadline = s.ssv.deadline ∧
    (mwStall s).spt.rx = s.spt.rx ∧ (mwStall s).spt.stopped = s.spt.stopped ∧
    (mwStall s).spt.replies = s.spt.replies ∧ (mwStall s).spt.badFrames = s.spt.badFrames ∧
    (mwStall s).spt.dropRequest = s.spt.dropRequest ∧ (mwStall s).spt.tx = s.spt.tx := by
  generalize h : mwStall s = t
  unfold mwStall at h
  (try dsimp only at h)
  (repeat' split at h) <;> subst h <;> simp

@[simp] theorem bwStall_keeps (s : State) :
    (bwStall s).pins = s.pins ∧ (bwStall s).clock = s.clock ∧ (bwStall s).supply = s.supply ∧
    (bwStall s).resetCause = s.resetCause ∧ (bwStall s).loaded = s.loaded ∧ (bwStall s).asc = s.asc ∧
    (bwStall s).cabins = s.cabins ∧ (bwStall s).lists = s.lists ∧ (bwStall s).stu = s.stu ∧ (bwStall s).dru = s.dru ∧
    (bwStall s).lnu = s.lnu ∧ (bwStall s).ltu = s.ltu ∧ (bwStall s).lkc = s.lkc ∧ (bwStall s).phn = s.phn ∧
    (bwStall s).tal = s.tal ∧ (bwStall s).pfs = s.pfs ∧ (bwStall s).free = s.free ∧ (bwStall s).pending = s.pending ∧
    (bwStall s).ssv.mode = s.ssv.mode ∧ (bwStall s).ssv.restricted = s.ssv.restricted ∧
    (bwStall s).ssv.lastKeep = s.ssv.lastKeep ∧ (bwStall s).ssv.deadline = s.ssv.deadline ∧
    (bwStall s).spt.rx = s.spt.rx ∧ (bwStall s).spt.stopped = s.spt.stopped ∧
    (bwStall s).spt.replies = s.spt.replies ∧ (bwStall s).spt.badFrames = s.spt.badFrames ∧
    (bwStall s).spt.dropRequest = s.spt.dropRequest ∧ (bwStall s).spt.tx = s.spt.tx := by
  generalize h : bwStall s = t
  unfold bwStall at h
  (try dsimp only at h)
  (repeat' split at h) <;> subst h <;> simp

@[simp] theorem rmuPulse_keeps (s : State) :
    (rmuPulse s).pins = s.pins ∧ (rmuPulse s).clock = s.clock ∧ (rmuPulse s).supply = s.supply ∧
    (rmuPulse s).resetCause = s.resetCause ∧ (rmuPulse s).loaded = s.loaded ∧ (rmuPulse s).asc = s.asc ∧
    (rmuPulse s).cabins = s.cabins ∧ (rmuPulse s).lists = s.lists ∧ (rmuPulse s).stu = s.stu ∧
    (rmuPulse s).dru = s.dru ∧ (rmuPulse s).lnu = s.lnu ∧ (rmuPulse s).ltu = s.ltu ∧ (rmuPulse s).lkc = s.lkc ∧
    (rmuPulse s).phn = s.phn ∧ (rmuPulse s).tal = s.tal ∧ (rmuPulse s).pfs = s.pfs ∧ (rmuPulse s).free = s.free ∧
    (rmuPulse s).pending = s.pending ∧ (rmuPulse s).ssv.mode = s.ssv.mode ∧
    (rmuPulse s).ssv.restricted = s.ssv.restricted ∧ (rmuPulse s).ssv.lastKeep = s.ssv.lastKeep ∧
    (rmuPulse s).ssv.deadline = s.ssv.deadline ∧ (rmuPulse s).spt.rx = s.spt.rx ∧
    (rmuPulse s).spt.stopped = s.spt.stopped ∧ (rmuPulse s).spt.replies = s.spt.replies ∧
    (rmuPulse s).spt.badFrames = s.spt.badFrames ∧ (rmuPulse s).spt.dropRequest = s.spt.dropRequest ∧
    (rmuPulse s).spt.tx = s.spt.tx := by
  generalize h : rmuPulse s = t
  unfold rmuPulse at h
  (try dsimp only at h)
  (repeat' split at h) <;> subst h <;> simp

@[simp] theorem rmuCount_keeps (input : BullInput) (s : State) :
    (rmuCount input s).pins = s.pins ∧ (rmuCount input s).clock = s.clock ∧ (rmuCount input s).supply = s.supply ∧
    (rmuCount input s).resetCause = s.resetCause ∧ (rmuCount input s).loaded = s.loaded ∧
    (rmuCount input s).asc = s.asc ∧ (rmuCount input s).cabins = s.cabins ∧ (rmuCount input s).lists = s.lists ∧
    (rmuCount input s).stu = s.stu ∧ (rmuCount input s).dru = s.dru ∧ (rmuCount input s).lnu = s.lnu ∧
    (rmuCount input s).ltu = s.ltu ∧ (rmuCount input s).lkc = s.lkc ∧ (rmuCount input s).phn = s.phn ∧
    (rmuCount input s).tal = s.tal ∧ (rmuCount input s).pfs = s.pfs ∧ (rmuCount input s).free = s.free ∧
    (rmuCount input s).pending = s.pending ∧ (rmuCount input s).ssv.mode = s.ssv.mode ∧
    (rmuCount input s).ssv.restricted = s.ssv.restricted ∧ (rmuCount input s).ssv.lastKeep = s.ssv.lastKeep ∧
    (rmuCount input s).ssv.deadline = s.ssv.deadline ∧ (rmuCount input s).spt.rx = s.spt.rx ∧
    (rmuCount input s).spt.stopped = s.spt.stopped ∧ (rmuCount input s).spt.replies = s.spt.replies ∧
    (rmuCount input s).spt.badFrames = s.spt.badFrames ∧ (rmuCount input s).spt.dropRequest = s.spt.dropRequest ∧
    (rmuCount input s).spt.tx = s.spt.tx := by
  generalize h : rmuCount input s = t
  unfold rmuCount at h
  (try dsimp only at h)
  (repeat' split at h) <;> subst h <;> simp

@[simp] theorem tensionEval_keeps (s : State) :
    (tensionEval s).pins = s.pins ∧ (tensionEval s).clock = s.clock ∧ (tensionEval s).supply = s.supply ∧
    (tensionEval s).resetCause = s.resetCause ∧ (tensionEval s).loaded = s.loaded ∧ (tensionEval s).rmu = s.rmu ∧
    (tensionEval s).asc = s.asc ∧ (tensionEval s).cabins = s.cabins ∧ (tensionEval s).lists = s.lists ∧
    (tensionEval s).stu = s.stu ∧ (tensionEval s).dru = s.dru ∧ (tensionEval s).lnu = s.lnu ∧
    (tensionEval s).ltu = s.ltu ∧ (tensionEval s).lkc = s.lkc ∧ (tensionEval s).phn = s.phn ∧
    (tensionEval s).tal = s.tal ∧ (tensionEval s).pfs = s.pfs ∧ (tensionEval s).free = s.free ∧
    (tensionEval s).pending = s.pending ∧ (tensionEval s).ssv.mode = s.ssv.mode ∧
    (tensionEval s).ssv.restricted = s.ssv.restricted ∧ (tensionEval s).ssv.lastKeep = s.ssv.lastKeep ∧
    (tensionEval s).ssv.deadline = s.ssv.deadline ∧ (tensionEval s).spt.rx = s.spt.rx ∧
    (tensionEval s).spt.stopped = s.spt.stopped ∧ (tensionEval s).spt.replies = s.spt.replies ∧
    (tensionEval s).spt.badFrames = s.spt.badFrames ∧ (tensionEval s).spt.dropRequest = s.spt.dropRequest ∧
    (tensionEval s).spt.tx = s.spt.tx := by
  generalize h : tensionEval s = t
  unfold tensionEval at h
  (try dsimp only at h)
  (repeat' split at h) <;> subst h <;> simp

@[simp] theorem tensionSample_keeps (n : Sample) (s : State) :
    (tensionSample n s).pins = s.pins ∧ (tensionSample n s).clock = s.clock ∧ (tensionSample n s).supply = s.supply ∧
    (tensionSample n s).resetCause = s.resetCause ∧ (tensionSample n s).loaded = s.loaded ∧
    (tensionSample n s).asc = s.asc ∧ (tensionSample n s).cabins = s.cabins ∧ (tensionSample n s).lists = s.lists ∧
    (tensionSample n s).stu = s.stu ∧ (tensionSample n s).dru = s.dru ∧ (tensionSample n s).lnu = s.lnu ∧
    (tensionSample n s).ltu = s.ltu ∧ (tensionSample n s).lkc = s.lkc ∧ (tensionSample n s).phn = s.phn ∧
    (tensionSample n s).tal = s.tal ∧ (tensionSample n s).pfs = s.pfs ∧ (tensionSample n s).free = s.free ∧
    (tensionSample n s).pending = s.pending ∧ (tensionSample n s).ssv.mode = s.ssv.mode ∧
    (tensionSample n s).ssv.restricted = s.ssv.restricted ∧ (tensionSample n s).ssv.lastKeep = s.ssv.lastKeep ∧
    (tensionSample n s).ssv.deadline = s.ssv.deadline ∧ (tensionSample n s).spt.rx = s.spt.rx ∧
    (tensionSample n s).spt.stopped = s.spt.stopped ∧ (tensionSample n s).spt.replies = s.spt.replies ∧
    (tensionSample n s).spt.badFrames = s.spt.badFrames ∧ (tensionSample n s).spt.dropRequest = s.spt.dropRequest ∧
    (tensionSample n s).spt.tx = s.spt.tx := by
  generalize h : tensionSample n s = t
  unfold tensionSample at h
  (try dsimp only at h)
  (repeat' split at h) <;> subst h <;> simp

@[simp] theorem ropeReport_keeps (x : Rmu × Bool) (s : State) :
    (ropeReport x s).pins = s.pins ∧ (ropeReport x s).clock = s.clock ∧ (ropeReport x s).supply = s.supply ∧
    (ropeReport x s).resetCause = s.resetCause ∧ (ropeReport x s).loaded = s.loaded ∧ (ropeReport x s).asc = s.asc ∧
    (ropeReport x s).cabins = s.cabins ∧ (ropeReport x s).lists = s.lists ∧ (ropeReport x s).stu = s.stu ∧
    (ropeReport x s).dru = s.dru ∧ (ropeReport x s).lnu = s.lnu ∧ (ropeReport x s).ltu = s.ltu ∧
    (ropeReport x s).lkc = s.lkc ∧ (ropeReport x s).phn = s.phn ∧ (ropeReport x s).tal = s.tal ∧
    (ropeReport x s).pfs = s.pfs ∧ (ropeReport x s).free = s.free ∧ (ropeReport x s).pending = s.pending ∧
    (ropeReport x s).ssv.mode = s.ssv.mode ∧ (ropeReport x s).ssv.restricted = s.ssv.restricted ∧
    (ropeReport x s).ssv.lastKeep = s.ssv.lastKeep ∧ (ropeReport x s).ssv.deadline = s.ssv.deadline ∧
    (ropeReport x s).spt.rx = s.spt.rx ∧ (ropeReport x s).spt.stopped = s.spt.stopped ∧
    (ropeReport x s).spt.replies = s.spt.replies ∧ (ropeReport x s).spt.badFrames = s.spt.badFrames ∧
    (ropeReport x s).spt.dropRequest = s.spt.dropRequest ∧ (ropeReport x s).spt.tx = s.spt.tx := by
  generalize h : ropeReport x s = t
  unfold ropeReport at h
  (try dsimp only at h)
  (repeat' split at h) <;> subst h <;> simp

@[simp] theorem ropeWritten_keeps (q : Param) (s : State) :
    (ropeWritten q s).pins = s.pins ∧ (ropeWritten q s).clock = s.clock ∧ (ropeWritten q s).supply = s.supply ∧
    (ropeWritten q s).resetCause = s.resetCause ∧ (ropeWritten q s).loaded = s.loaded ∧
    (ropeWritten q s).asc = s.asc ∧ (ropeWritten q s).cabins = s.cabins ∧ (ropeWritten q s).lists = s.lists ∧
    (ropeWritten q s).stu = s.stu ∧ (ropeWritten q s).dru = s.dru ∧ (ropeWritten q s).lnu = s.lnu ∧
    (ropeWritten q s).ltu = s.ltu ∧ (ropeWritten q s).lkc = s.lkc ∧ (ropeWritten q s).phn = s.phn ∧
    (ropeWritten q s).tal = s.tal ∧ (ropeWritten q s).pfs = s.pfs ∧ (ropeWritten q s).free = s.free ∧
    (ropeWritten q s).pending = s.pending ∧ (ropeWritten q s).ssv.mode = s.ssv.mode ∧
    (ropeWritten q s).ssv.restricted = s.ssv.restricted ∧ (ropeWritten q s).ssv.lastKeep = s.ssv.lastKeep ∧
    (ropeWritten q s).ssv.deadline = s.ssv.deadline ∧ (ropeWritten q s).spt.rx = s.spt.rx ∧
    (ropeWritten q s).spt.stopped = s.spt.stopped ∧ (ropeWritten q s).spt.replies = s.spt.replies ∧
    (ropeWritten q s).spt.badFrames = s.spt.badFrames ∧ (ropeWritten q s).spt.dropRequest = s.spt.dropRequest ∧
    (ropeWritten q s).spt.tx = s.spt.tx := by
  generalize h : ropeWritten q s = t
  unfold ropeWritten at h
  (try dsimp only at h)
  (repeat' split at h) <;> subst h <;> simp

@[simp] theorem ropeRestored_keeps (old : Params) (s : State) :
    (ropeRestored old s).pins = s.pins ∧ (ropeRestored old s).clock = s.clock ∧
    (ropeRestored old s).supply = s.supply ∧ (ropeRestored old s).resetCause = s.resetCause ∧
    (ropeRestored old s).loaded = s.loaded ∧ (ropeRestored old s).asc = s.asc ∧
    (ropeRestored old s).cabins = s.cabins ∧ (ropeRestored old s).lists = s.lists ∧
    (ropeRestored old s).stu = s.stu ∧ (ropeRestored old s).dru = s.dru ∧ (ropeRestored old s).lnu = s.lnu ∧
    (ropeRestored old s).ltu = s.ltu ∧ (ropeRestored old s).lkc = s.lkc ∧ (ropeRestored old s).phn = s.phn ∧
    (ropeRestored old s).tal = s.tal ∧ (ropeRestored old s).pfs = s.pfs ∧ (ropeRestored old s).free = s.free ∧
    (ropeRestored old s).pending = s.pending ∧ (ropeRestored old s).ssv.mode = s.ssv.mode ∧
    (ropeRestored old s).ssv.restricted = s.ssv.restricted ∧ (ropeRestored old s).ssv.lastKeep = s.ssv.lastKeep ∧
    (ropeRestored old s).ssv.deadline = s.ssv.deadline ∧ (ropeRestored old s).spt.rx = s.spt.rx ∧
    (ropeRestored old s).spt.stopped = s.spt.stopped ∧ (ropeRestored old s).spt.replies = s.spt.replies ∧
    (ropeRestored old s).spt.badFrames = s.spt.badFrames ∧ (ropeRestored old s).spt.dropRequest = s.spt.dropRequest ∧
    (ropeRestored old s).spt.tx = s.spt.tx := by
  generalize h : ropeRestored old s = t
  unfold ropeRestored at h
  (try dsimp only at h)
  (repeat' split at h) <;> subst h <;> simp

end Sys2Proof.Machine
end

