-- ==== Sys2Proof/Laws/Drives.lean ====
section
/-! SUPPORT. What each operation of the Drive Unit leaves unchanged: every field of the state that it does not write. -/

-- One lemma after the other: side by side, their proofs need more memory in the joined text than the check has.
set_option Elab.async false

namespace Sys2Proof.Machine

@[simp] theorem driveEvent_keeps (ch : Channel) (r : DriveReason) (s : State) :
    (driveEvent ch r s).pins = s.pins ∧ (driveEvent ch r s).clock = s.clock ∧ (driveEvent ch r s).supply = s.supply ∧
    (driveEvent ch r s).resetCause = s.resetCause ∧ (driveEvent ch r s).loaded = s.loaded ∧
    (driveEvent ch r s).rmu = s.rmu ∧ (driveEvent ch r s).asc = s.asc ∧ (driveEvent ch r s).cabins = s.cabins ∧
    (driveEvent ch r s).lists = s.lists ∧ (driveEvent ch r s).stu = s.stu ∧ (driveEvent ch r s).dru = s.dru ∧
    (driveEvent ch r s).lnu = s.lnu ∧ (driveEvent ch r s).ltu = s.ltu ∧ (driveEvent ch r s).lkc = s.lkc ∧
    (driveEvent ch r s).phn = s.phn ∧ (driveEvent ch r s).ssv = s.ssv ∧ (driveEvent ch r s).tal = s.tal ∧
    (driveEvent ch r s).pfs = s.pfs ∧ (driveEvent ch r s).free = s.free ∧ (driveEvent ch r s).pending = s.pending ∧
    (driveEvent ch r s).spt.rx = s.spt.rx ∧ (driveEvent ch r s).spt.stopped = s.spt.stopped ∧
    (driveEvent ch r s).spt.replies = s.spt.replies ∧ (driveEvent ch r s).spt.badFrames = s.spt.badFrames ∧
    (driveEvent ch r s).spt.dropRequest = s.spt.dropRequest ∧ (driveEvent ch r s).spt.tx = s.spt.tx := by
  generalize h : driveEvent ch r s = t
  unfold driveEvent at h
  (try dsimp only at h)
  (repeat' split at h) <;> subst h <;> simp

@[simp] theorem startStroke_keeps (ch : Channel) (e : End) (s : State) :
    (startStroke ch e s).pins = s.pins ∧ (startStroke ch e s).clock = s.clock ∧
    (startStroke ch e s).supply = s.supply ∧ (startStroke ch e s).resetCause = s.resetCause ∧
    (startStroke ch e s).loaded = s.loaded ∧ (startStroke ch e s).rmu = s.rmu ∧ (startStroke ch e s).asc = s.asc ∧
    (startStroke ch e s).cabins = s.cabins ∧ (startStroke ch e s).lists = s.lists ∧
    (startStroke ch e s).stu = s.stu ∧ (startStroke ch e s).lnu = s.lnu ∧ (startStroke ch e s).ltu = s.ltu ∧
    (startStroke ch e s).lkc = s.lkc ∧ (startStroke ch e s).phn = s.phn ∧ (startStroke ch e s).ssv = s.ssv ∧
    (startStroke ch e s).tal = s.tal ∧ (startStroke ch e s).spt = s.spt ∧ (startStroke ch e s).pfs = s.pfs ∧
    (startStroke ch e s).free = s.free ∧ (startStroke ch e s).pending = s.pending := by
  generalize h : startStroke ch e s = t
  unfold startStroke at h
  (try dsimp only at h)
  (repeat' split at h) <;> subst h <;> simp

@[simp] theorem putTask_keeps (ch : Channel) (t : Option DoorTask) (s : State) :
    (putTask ch t s).pins = s.pins ∧ (putTask ch t s).clock = s.clock ∧ (putTask ch t s).supply = s.supply ∧
    (putTask ch t s).resetCause = s.resetCause ∧ (putTask ch t s).loaded = s.loaded ∧ (putTask ch t s).rmu = s.rmu ∧
    (putTask ch t s).asc = s.asc ∧ (putTask ch t s).cabins = s.cabins ∧ (putTask ch t s).lists = s.lists ∧
    (putTask ch t s).stu = s.stu ∧ (putTask ch t s).lnu = s.lnu ∧ (putTask ch t s).ltu = s.ltu ∧
    (putTask ch t s).lkc = s.lkc ∧ (putTask ch t s).phn = s.phn ∧ (putTask ch t s).ssv = s.ssv ∧
    (putTask ch t s).tal = s.tal ∧ (putTask ch t s).spt = s.spt ∧ (putTask ch t s).pfs = s.pfs ∧
    (putTask ch t s).free = s.free ∧ (putTask ch t s).pending = s.pending := by
  generalize h : putTask ch t s = t
  unfold putTask at h
  (try dsimp only at h)
  (repeat' split at h) <;> subst h <;> simp

@[simp] theorem failTask_keeps (ch : Channel) (t : DoorTask) (s : State) :
    (failTask ch t s).pins = s.pins ∧ (failTask ch t s).clock = s.clock ∧ (failTask ch t s).supply = s.supply ∧
    (failTask ch t s).resetCause = s.resetCause ∧ (failTask ch t s).loaded = s.loaded ∧
    (failTask ch t s).rmu = s.rmu ∧ (failTask ch t s).asc = s.asc ∧ (failTask ch t s).lists = s.lists ∧
    (failTask ch t s).stu = s.stu ∧ (failTask ch t s).lnu = s.lnu ∧ (failTask ch t s).ltu = s.ltu ∧
    (failTask ch t s).lkc = s.lkc ∧ (failTask ch t s).phn = s.phn ∧ (failTask ch t s).tal = s.tal ∧
    (failTask ch t s).pfs = s.pfs ∧ (failTask ch t s).free = s.free ∧ (failTask ch t s).pending = s.pending ∧
    (failTask ch t s).ssv.mode = s.ssv.mode ∧ (failTask ch t s).ssv.restricted = s.ssv.restricted ∧
    (failTask ch t s).ssv.lastKeep = s.ssv.lastKeep ∧ (failTask ch t s).ssv.deadline = s.ssv.deadline ∧
    (failTask ch t s).spt.rx = s.spt.rx ∧ (failTask ch t s).spt.stopped = s.spt.stopped ∧
    (failTask ch t s).spt.replies = s.spt.replies ∧ (failTask ch t s).spt.badFrames = s.spt.badFrames ∧
    (failTask ch t s).spt.dropRequest = s.spt.dropRequest ∧ (failTask ch t s).spt.tx = s.spt.tx := by
  generalize h : failTask ch t s = t
  unfold failTask at h
  (try dsimp only at h)
  (repeat' split at h) <;> subst h <;> simp

@[simp] theorem openerAtB_keeps (t : DoorTask) (s : State) :
    (openerAtB t s).pins = s.pins ∧ (openerAtB t s).clock = s.clock ∧ (openerAtB t s).supply = s.supply ∧
    (openerAtB t s).resetCause = s.resetCause ∧ (openerAtB t s).loaded = s.loaded ∧ (openerAtB t s).rmu = s.rmu ∧
    (openerAtB t s).asc = s.asc ∧ (openerAtB t s).lists = s.lists ∧ (openerAtB t s).stu = s.stu ∧
    (openerAtB t s).lnu = s.lnu ∧ (openerAtB t s).ltu = s.ltu ∧ (openerAtB t s).lkc = s.lkc ∧
    (openerAtB t s).phn = s.phn ∧ (openerAtB t s).ssv = s.ssv ∧ (openerAtB t s).tal = s.tal ∧
    (openerAtB t s).spt = s.spt ∧ (openerAtB t s).pfs = s.pfs ∧ (openerAtB t s).free = s.free ∧
    (openerAtB t s).pending = s.pending := by
  generalize h : openerAtB t s = t
  unfold openerAtB at h
  (try dsimp only at h)
  (repeat' split at h) <;> subst h <;> simp

@[simp] theorem closerAtB_keeps (t : DoorTask) (s : State) :
    (closerAtB t s).pins = s.pins ∧ (closerAtB t s).clock = s.clock ∧ (closerAtB t s).supply = s.supply ∧
    (closerAtB t s).resetCause = s.resetCause ∧ (closerAtB t s).loaded = s.loaded ∧ (closerAtB t s).rmu = s.rmu ∧
    (closerAtB t s).asc = s.asc ∧ (closerAtB t s).lists = s.lists ∧ (closerAtB t s).stu = s.stu ∧
    (closerAtB t s).lnu = s.lnu ∧ (closerAtB t s).ltu = s.ltu ∧ (closerAtB t s).lkc = s.lkc ∧
    (closerAtB t s).phn = s.phn ∧ (closerAtB t s).ssv = s.ssv ∧ (closerAtB t s).tal = s.tal ∧
    (closerAtB t s).spt = s.spt ∧ (closerAtB t s).pfs = s.pfs ∧ (closerAtB t s).free = s.free ∧
    (closerAtB t s).pending = s.pending := by
  generalize h : closerAtB t s = t
  unfold closerAtB at h
  (try dsimp only at h)
  (repeat' split at h) <;> subst h <;> simp

@[simp] theorem closerBackAtA_keeps (t : DoorTask) (s : State) :
    (closerBackAtA t s).pins = s.pins ∧ (closerBackAtA t s).clock = s.clock ∧ (closerBackAtA t s).supply = s.supply ∧
    (closerBackAtA t s).resetCause = s.resetCause ∧ (closerBackAtA t s).loaded = s.loaded ∧
    (closerBackAtA t s).rmu = s.rmu ∧ (closerBackAtA t s).asc = s.asc ∧ (closerBackAtA t s).lists = s.lists ∧
    (closerBackAtA t s).stu = s.stu ∧ (closerBackAtA t s).lnu = s.lnu ∧ (closerBackAtA t s).ltu = s.ltu ∧
    (closerBackAtA t s).lkc = s.lkc ∧ (closerBackAtA t s).phn = s.phn ∧ (closerBackAtA t s).tal = s.tal ∧
    (closerBackAtA t s).pfs = s.pfs ∧ (closerBackAtA t s).free = s.free ∧ (closerBackAtA t s).pending = s.pending ∧
    (closerBackAtA t s).ssv.mode = s.ssv.mode ∧ (closerBackAtA t s).ssv.restricted = s.ssv.restricted ∧
    (closerBackAtA t s).ssv.lastKeep = s.ssv.lastKeep ∧ (closerBackAtA t s).ssv.deadline = s.ssv.deadline ∧
    (closerBackAtA t s).spt.rx = s.spt.rx ∧ (closerBackAtA t s).spt.stopped = s.spt.stopped ∧
    (closerBackAtA t s).spt.replies = s.spt.replies ∧ (closerBackAtA t s).spt.badFrames = s.spt.badFrames ∧
    (closerBackAtA t s).spt.dropRequest = s.spt.dropRequest ∧ (closerBackAtA t s).spt.tx = s.spt.tx := by
  generalize h : closerBackAtA t s = t
  unfold closerBackAtA at h
  (try dsimp only at h)
  (repeat' split at h) <;> subst h <;> simp

@[simp] theorem driveReached_keeps (ch : Channel) (e : End) (s : State) :
    (driveReached ch e s).pins = s.pins ∧ (driveReached ch e s).clock = s.clock ∧
    (driveReached ch e s).supply = s.supply ∧ (driveReached ch e s).resetCause = s.resetCause ∧
    (driveReached ch e s).loaded = s.loaded ∧ (driveReached ch e s).rmu = s.rmu ∧ (driveReached ch e s).asc = s.asc ∧
    (driveReached ch e s).lists = s.lists ∧ (driveReached ch e s).lnu = s.lnu ∧ (driveReached ch e s).ltu = s.ltu ∧
    (driveReached ch e s).lkc = s.lkc ∧ (driveReached ch e s).phn = s.phn ∧ (driveReached ch e s).tal = s.tal ∧
    (driveReached ch e s).pfs = s.pfs ∧ (driveReached ch e s).free = s.free ∧
    (driveReached ch e s).pending = s.pending ∧ (driveReached ch e s).ssv.mode = s.ssv.mode ∧
    (driveReached ch e s).ssv.restricted = s.ssv.restricted ∧ (driveReached ch e s).ssv.lastKeep = s.ssv.lastKeep ∧
    (driveReached ch e s).ssv.deadline = s.ssv.deadline ∧ (driveReached ch e s).spt.rx = s.spt.rx ∧
    (driveReached ch e s).spt.stopped = s.spt.stopped ∧ (driveReached ch e s).spt.replies = s.spt.replies ∧
    (driveReached ch e s).spt.badFrames = s.spt.badFrames ∧
    (driveReached ch e s).spt.dropRequest = s.spt.dropRequest ∧ (driveReached ch e s).spt.tx = s.spt.tx := by
  generalize h : driveReached ch e s = t
  unfold driveReached at h
  (try dsimp only at h)
  (repeat' split at h) <;> subst h <;> simp

@[simp] theorem abandonLaunch_keeps (s : State) :
    (abandonLaunch s).pins = s.pins ∧ (abandonLaunch s).clock = s.clock ∧ (abandonLaunch s).supply = s.supply ∧
    (abandonLaunch s).resetCause = s.resetCause ∧ (abandonLaunch s).loaded = s.loaded ∧
    (abandonLaunch s).rmu = s.rmu ∧ (abandonLaunch s).asc = s.asc ∧ (abandonLaunch s).cabins = s.cabins ∧
    (abandonLaunch s).lists = s.lists ∧ (abandonLaunch s).stu = s.stu ∧ (abandonLaunch s).dru = s.dru ∧
    (abandonLaunch s).ltu = s.ltu ∧ (abandonLaunch s).phn = s.phn ∧ (abandonLaunch s).ssv = s.ssv ∧
    (abandonLaunch s).tal = s.tal ∧ (abandonLaunch s).spt = s.spt ∧ (abandonLaunch s).pfs = s.pfs ∧
    (abandonLaunch s).free = s.free ∧ (abandonLaunch s).pending = s.pending ∧ (abandonLaunch s).lkc.rx = s.lkc.rx ∧
    (abandonLaunch s).lkc.towers = s.lkc.towers ∧ (abandonLaunch s).lkc.ownNext = s.lkc.ownNext ∧
    (abandonLaunch s).lkc.txCycle = s.lkc.txCycle := by
  generalize h : abandonLaunch s = t
  unfold abandonLaunch at h
  (try dsimp only at h)
  (repeat' split at h) <;> subst h <;> simp

@[simp] theorem driveFailed_keeps (ch : Channel) (s : State) :
    (driveFailed ch s).pins = s.pins ∧ (driveFailed ch s).clock = s.clock ∧ (driveFailed ch s).supply = s.supply ∧
    (driveFailed ch s).resetCause = s.resetCause ∧ (driveFailed ch s).loaded = s.loaded ∧
    (driveFailed ch s).rmu = s.rmu ∧ (driveFailed ch s).asc = s.asc ∧ (driveFailed ch s).lists = s.lists ∧
    (driveFailed ch s).ltu = s.ltu ∧ (driveFailed ch s).phn = s.phn ∧ (driveFailed ch s).tal = s.tal ∧
    (driveFailed ch s).pfs = s.pfs ∧ (driveFailed ch s).free = s.free ∧ (driveFailed ch s).pending = s.pending ∧
    (driveFailed ch s).ssv.mode = s.ssv.mode ∧ (driveFailed ch s).ssv.restricted = s.ssv.restricted ∧
    (driveFailed ch s).ssv.lastKeep = s.ssv.lastKeep ∧ (driveFailed ch s).ssv.deadline = s.ssv.deadline ∧
    (driveFailed ch s).spt.rx = s.spt.rx ∧ (driveFailed ch s).spt.stopped = s.spt.stopped ∧
    (driveFailed ch s).spt.replies = s.spt.replies ∧ (driveFailed ch s).spt.badFrames = s.spt.badFrames ∧
    (driveFailed ch s).spt.dropRequest = s.spt.dropRequest ∧ (driveFailed ch s).spt.tx = s.spt.tx ∧
    (driveFailed ch s).lkc.rx = s.lkc.rx ∧ (driveFailed ch s).lkc.towers = s.lkc.towers ∧
    (driveFailed ch s).lkc.ownNext = s.lkc.ownNext ∧ (driveFailed ch s).lkc.txCycle = s.lkc.txCycle := by
  generalize h : driveFailed ch s = t
  unfold driveFailed at h
  (try dsimp only at h)
  (repeat' split at h) <;> subst h <;> simp

@[simp] theorem reachEnd_keeps (ch : Channel) (e : End) (s : State) :
    (reachEnd ch e s).pins = s.pins ∧ (reachEnd ch e s).clock = s.clock ∧ (reachEnd ch e s).supply = s.supply ∧
    (reachEnd ch e s).resetCause = s.resetCause ∧ (reachEnd ch e s).loaded = s.loaded ∧
    (reachEnd ch e s).rmu = s.rmu ∧ (reachEnd ch e s).asc = s.asc ∧ (reachEnd ch e s).lists = s.lists ∧
    (reachEnd ch e s).lnu = s.lnu ∧ (reachEnd ch e s).ltu = s.ltu ∧ (reachEnd ch e s).lkc = s.lkc ∧
    (reachEnd ch e s).phn = s.phn ∧ (reachEnd ch e s).tal = s.tal ∧ (reachEnd ch e s).pfs = s.pfs ∧
    (reachEnd ch e s).free = s.free ∧ (reachEnd ch e s).pending = s.pending ∧
    (reachEnd ch e s).ssv.mode = s.ssv.mode ∧ (reachEnd ch e s).ssv.restricted = s.ssv.restricted ∧
    (reachEnd ch e s).ssv.lastKeep = s.ssv.lastKeep ∧ (reachEnd ch e s).ssv.deadline = s.ssv.deadline ∧
    (reachEnd ch e s).spt.rx = s.spt.rx ∧ (reachEnd ch e s).spt.stopped = s.spt.stopped ∧
    (reachEnd ch e s).spt.replies = s.spt.replies ∧ (reachEnd ch e s).spt.badFrames = s.spt.badFrames ∧
    (reachEnd ch e s).spt.dropRequest = s.spt.dropRequest ∧ (reachEnd ch e s).spt.tx = s.spt.tx := by
  generalize h : reachEnd ch e s = t
  unfold reachEnd at h
  (try dsimp only at h)
  (repeat' split at h) <;> subst h <;> simp

@[simp] theorem failDrive_keeps (ch : Channel) (x : DriveState) (c : Cause) (r : DriveReason) (s : State) :
    (failDrive ch x c r s).pins = s.pins ∧ (failDrive ch x c r s).clock = s.clock ∧
    (failDrive ch x c r s).supply = s.supply ∧ (failDrive ch x c r s).resetCause = s.resetCause ∧
    (failDrive ch x c r s).loaded = s.loaded ∧ (failDrive ch x c r s).rmu = s.rmu ∧
    (failDrive ch x c r s).asc = s.asc ∧ (failDrive ch x c r s).lists = s.lists ∧
    (failDrive ch x c r s).ltu = s.ltu ∧ (failDrive ch x c r s).phn = s.phn ∧ (failDrive ch x c r s).tal = s.tal ∧
    (failDrive ch x c r s).pfs = s.pfs ∧ (failDrive ch x c r s).free = s.free ∧
    (failDrive ch x c r s).pending = s.pending ∧ (failDrive ch x c r s).ssv.mode = s.ssv.mode ∧
    (failDrive ch x c r s).ssv.restricted = s.ssv.restricted ∧ (failDrive ch x c r s).ssv.lastKeep = s.ssv.lastKeep ∧
    (failDrive ch x c r s).ssv.deadline = s.ssv.deadline ∧ (failDrive ch x c r s).spt.rx = s.spt.rx ∧
    (failDrive ch x c r s).spt.stopped = s.spt.stopped ∧ (failDrive ch x c r s).spt.replies = s.spt.replies ∧
    (failDrive ch x c r s).spt.badFrames = s.spt.badFrames ∧
    (failDrive ch x c r s).spt.dropRequest = s.spt.dropRequest ∧ (failDrive ch x c r s).spt.tx = s.spt.tx ∧
    (failDrive ch x c r s).lkc.rx = s.lkc.rx ∧ (failDrive ch x c r s).lkc.towers = s.lkc.towers ∧
    (failDrive ch x c r s).lkc.ownNext = s.lkc.ownNext ∧ (failDrive ch x c r s).lkc.txCycle = s.lkc.txCycle := by
  generalize h : failDrive ch x c r s = t
  unfold failDrive at h
  (try dsimp only at h)
  (repeat' split at h) <;> subst h <;> simp

@[simp] theorem commandBlocked_keeps (ch : Channel) (e : End) (s : State) :
    (commandBlocked ch e s).pins = s.pins ∧ (commandBlocked ch e s).clock = s.clock ∧
    (commandBlocked ch e s).supply = s.supply ∧ (commandBlocked ch e s).resetCause = s.resetCause ∧
    (commandBlocked ch e s).loaded = s.loaded ∧ (commandBlocked ch e s).rmu = s.rmu ∧
    (commandBlocked ch e s).asc = s.asc ∧ (commandBlocked ch e s).lists = s.lists ∧
    (commandBlocked ch e s).lnu = s.lnu ∧ (commandBlocked ch e s).ltu = s.ltu ∧ (commandBlocked ch e s).lkc = s.lkc ∧
    (commandBlocked ch e s).phn = s.phn ∧ (commandBlocked ch e s).tal = s.tal ∧ (commandBlocked ch e s).pfs = s.pfs ∧
    (commandBlocked ch e s).free = s.free ∧ (commandBlocked ch e s).pending = s.pending ∧
    (commandBlocked ch e s).ssv.mode = s.ssv.mode ∧ (commandBlocked ch e s).ssv.restricted = s.ssv.restricted ∧
    (commandBlocked ch e s).ssv.lastKeep = s.ssv.lastKeep ∧ (commandBlocked ch e s).ssv.deadline = s.ssv.deadline ∧
    (commandBlocked ch e s).spt.rx = s.spt.rx ∧ (commandBlocked ch e s).spt.stopped = s.spt.stopped ∧
    (commandBlocked ch e s).spt.replies = s.spt.replies ∧ (commandBlocked ch e s).spt.badFrames = s.spt.badFrames ∧
    (commandBlocked ch e s).spt.dropRequest = s.spt.dropRequest ∧ (commandBlocked ch e s).spt.tx = s.spt.tx := by
  generalize h : commandBlocked ch e s = t
  unfold commandBlocked at h
  (try dsimp only at h)
  (repeat' split at h) <;> subst h <;> simp

@[simp] theorem commandDrive_keeps (ch : Channel) (e : End) (s : State) :
    (commandDrive ch e s).pins = s.pins ∧ (commandDrive ch e s).clock = s.clock ∧
    (commandDrive ch e s).supply = s.supply ∧ (commandDrive ch e s).resetCause = s.resetCause ∧
    (commandDrive ch e s).loaded = s.loaded ∧ (commandDrive ch e s).rmu = s.rmu ∧ (commandDrive ch e s).asc = s.asc ∧
    (commandDrive ch e s).lists = s.lists ∧ (commandDrive ch e s).lnu = s.lnu ∧ (commandDrive ch e s).ltu = s.ltu ∧
    (commandDrive ch e s).lkc = s.lkc ∧ (commandDrive ch e s).phn = s.phn ∧ (commandDrive ch e s).tal = s.tal ∧
    (commandDrive ch e s).pfs = s.pfs ∧ (commandDrive ch e s).free = s.free ∧
    (commandDrive ch e s).pending = s.pending ∧ (commandDrive ch e s).ssv.mode = s.ssv.mode ∧
    (commandDrive ch e s).ssv.restricted = s.ssv.restricted ∧ (commandDrive ch e s).ssv.lastKeep = s.ssv.lastKeep ∧
    (commandDrive ch e s).ssv.deadline = s.ssv.deadline ∧ (commandDrive ch e s).spt.rx = s.spt.rx ∧
    (commandDrive ch e s).spt.stopped = s.spt.stopped ∧ (commandDrive ch e s).spt.replies = s.spt.replies ∧
    (commandDrive ch e s).spt.badFrames = s.spt.badFrames ∧
    (commandDrive ch e s).spt.dropRequest = s.spt.dropRequest ∧ (commandDrive ch e s).spt.tx = s.spt.tx := by
  generalize h : commandDrive ch e s = t
  unfold commandDrive at h
  (try dsimp only at h)
  (repeat' split at h) <;> subst h <;> simp

@[simp] theorem reachEnd_switch_keeps (e : End) (s : State) :
    (reachEnd .switch e s).pins = s.pins ∧ (reachEnd .switch e s).clock = s.clock ∧
    (reachEnd .switch e s).supply = s.supply ∧ (reachEnd .switch e s).resetCause = s.resetCause ∧
    (reachEnd .switch e s).loaded = s.loaded ∧ (reachEnd .switch e s).rmu = s.rmu ∧
    (reachEnd .switch e s).asc = s.asc ∧ (reachEnd .switch e s).cabins = s.cabins ∧
    (reachEnd .switch e s).lists = s.lists ∧ (reachEnd .switch e s).stu = s.stu ∧
    (reachEnd .switch e s).lnu = s.lnu ∧ (reachEnd .switch e s).ltu = s.ltu ∧ (reachEnd .switch e s).lkc = s.lkc ∧
    (reachEnd .switch e s).phn = s.phn ∧ (reachEnd .switch e s).ssv = s.ssv ∧ (reachEnd .switch e s).tal = s.tal ∧
    (reachEnd .switch e s).pfs = s.pfs ∧ (reachEnd .switch e s).free = s.free ∧
    (reachEnd .switch e s).pending = s.pending ∧ (reachEnd .switch e s).spt.rx = s.spt.rx ∧
    (reachEnd .switch e s).spt.stopped = s.spt.stopped ∧ (reachEnd .switch e s).spt.replies = s.spt.replies ∧
    (reachEnd .switch e s).spt.badFrames = s.spt.badFrames ∧
    (reachEnd .switch e s).spt.dropRequest = s.spt.dropRequest ∧ (reachEnd .switch e s).spt.tx = s.spt.tx := by
  generalize h : reachEnd .switch e s = t
  unfold reachEnd driveReached at h
  (try dsimp only at h)
  (repeat' split at h) <;> subst h <;> simp_all

@[simp] theorem commandBlocked_switch_keeps (e : End) (s : State) :
    (commandBlocked .switch e s).pins = s.pins ∧ (commandBlocked .switch e s).clock = s.clock ∧
    (commandBlocked .switch e s).supply = s.supply ∧ (commandBlocked .switch e s).resetCause = s.resetCause ∧
    (commandBlocked .switch e s).loaded = s.loaded ∧ (commandBlocked .switch e s).rmu = s.rmu ∧
    (commandBlocked .switch e s).asc = s.asc ∧ (commandBlocked .switch e s).cabins = s.cabins ∧
    (commandBlocked .switch e s).lists = s.lists ∧ (commandBlocked .switch e s).stu = s.stu ∧
    (commandBlocked .switch e s).lnu = s.lnu ∧ (commandBlocked .switch e s).ltu = s.ltu ∧
    (commandBlocked .switch e s).lkc = s.lkc ∧ (commandBlocked .switch e s).phn = s.phn ∧
    (commandBlocked .switch e s).ssv = s.ssv ∧ (commandBlocked .switch e s).tal = s.tal ∧
    (commandBlocked .switch e s).pfs = s.pfs ∧ (commandBlocked .switch e s).free = s.free ∧
    (commandBlocked .switch e s).pending = s.pending ∧ (commandBlocked .switch e s).spt.rx = s.spt.rx ∧
    (commandBlocked .switch e s).spt.stopped = s.spt.stopped ∧
    (commandBlocked .switch e s).spt.replies = s.spt.replies ∧
    (commandBlocked .switch e s).spt.badFrames = s.spt.badFrames ∧
    (commandBlocked .switch e s).spt.dropRequest = s.spt.dropRequest ∧ (commandBlocked .switch e s).spt.tx = s.spt.tx := by
  generalize h : commandBlocked .switch e s = t
  unfold commandBlocked at h
  (try dsimp only at h)
  (repeat' split at h) <;> subst h <;> simp_all

@[simp] theorem commandDrive_switch_keeps (e : End) (s : State) :
    (commandDrive .switch e s).pins = s.pins ∧ (commandDrive .switch e s).clock = s.clock ∧
    (commandDrive .switch e s).supply = s.supply ∧ (commandDrive .switch e s).resetCause = s.resetCause ∧
    (commandDrive .switch e s).loaded = s.loaded ∧ (commandDrive .switch e s).rmu = s.rmu ∧
    (commandDrive .switch e s).asc = s.asc ∧ (commandDrive .switch e s).cabins = s.cabins ∧
    (commandDrive .switch e s).lists = s.lists ∧ (commandDrive .switch e s).stu = s.stu ∧
    (commandDrive .switch e s).lnu = s.lnu ∧ (commandDrive .switch e s).ltu = s.ltu ∧
    (commandDrive .switch e s).lkc = s.lkc ∧ (commandDrive .switch e s).phn = s.phn ∧
    (commandDrive .switch e s).ssv = s.ssv ∧ (commandDrive .switch e s).tal = s.tal ∧
    (commandDrive .switch e s).pfs = s.pfs ∧ (commandDrive .switch e s).free = s.free ∧
    (commandDrive .switch e s).pending = s.pending ∧ (commandDrive .switch e s).spt.rx = s.spt.rx ∧
    (commandDrive .switch e s).spt.stopped = s.spt.stopped ∧ (commandDrive .switch e s).spt.replies = s.spt.replies ∧
    (commandDrive .switch e s).spt.badFrames = s.spt.badFrames ∧
    (commandDrive .switch e s).spt.dropRequest = s.spt.dropRequest ∧ (commandDrive .switch e s).spt.tx = s.spt.tx := by
  generalize h : commandDrive .switch e s = t
  unfold commandDrive at h
  (try dsimp only at h)
  (repeat' split at h) <;> subst h <;> simp_all

@[simp] theorem reachEnd_gate_keeps (e : End) (s : State) :
    (reachEnd .gate e s).pins = s.pins ∧ (reachEnd .gate e s).clock = s.clock ∧
    (reachEnd .gate e s).supply = s.supply ∧ (reachEnd .gate e s).resetCause = s.resetCause ∧
    (reachEnd .gate e s).loaded = s.loaded ∧ (reachEnd .gate e s).rmu = s.rmu ∧ (reachEnd .gate e s).asc = s.asc ∧
    (reachEnd .gate e s).cabins = s.cabins ∧ (reachEnd .gate e s).lists = s.lists ∧
    (reachEnd .gate e s).stu = s.stu ∧ (reachEnd .gate e s).lnu = s.lnu ∧ (reachEnd .gate e s).ltu = s.ltu ∧
    (reachEnd .gate e s).lkc = s.lkc ∧ (reachEnd .gate e s).phn = s.phn ∧ (reachEnd .gate e s).ssv = s.ssv ∧
    (reachEnd .gate e s).tal = s.tal ∧ (reachEnd .gate e s).pfs = s.pfs ∧ (reachEnd .gate e s).free = s.free ∧
    (reachEnd .gate e s).pending = s.pending ∧ (reachEnd .gate e s).spt.rx = s.spt.rx ∧
    (reachEnd .gate e s).spt.stopped = s.spt.stopped ∧ (reachEnd .gate e s).spt.replies = s.spt.replies ∧
    (reachEnd .gate e s).spt.badFrames = s.spt.badFrames ∧ (reachEnd .gate e s).spt.dropRequest = s.spt.dropRequest ∧
    (reachEnd .gate e s).spt.tx = s.spt.tx := by
  generalize h : reachEnd .gate e s = t
  unfold reachEnd driveReached at h
  (try dsimp only at h)
  (repeat' split at h) <;> subst h <;> simp_all

@[simp] theorem commandBlocked_gate_keeps (e : End) (s : State) :
    (commandBlocked .gate e s).pins = s.pins ∧ (commandBlocked .gate e s).clock = s.clock ∧
    (commandBlocked .gate e s).supply = s.supply ∧ (commandBlocked .gate e s).resetCause = s.resetCause ∧
    (commandBlocked .gate e s).loaded = s.loaded ∧ (commandBlocked .gate e s).rmu = s.rmu ∧
    (commandBlocked .gate e s).asc = s.asc ∧ (commandBlocked .gate e s).cabins = s.cabins ∧
    (commandBlocked .gate e s).lists = s.lists ∧ (commandBlocked .gate e s).stu = s.stu ∧
    (commandBlocked .gate e s).lnu = s.lnu ∧ (commandBlocked .gate e s).ltu = s.ltu ∧
    (commandBlocked .gate e s).lkc = s.lkc ∧ (commandBlocked .gate e s).phn = s.phn ∧
    (commandBlocked .gate e s).ssv = s.ssv ∧ (commandBlocked .gate e s).tal = s.tal ∧
    (commandBlocked .gate e s).pfs = s.pfs ∧ (commandBlocked .gate e s).free = s.free ∧
    (commandBlocked .gate e s).pending = s.pending ∧ (commandBlocked .gate e s).spt.rx = s.spt.rx ∧
    (commandBlocked .gate e s).spt.stopped = s.spt.stopped ∧ (commandBlocked .gate e s).spt.replies = s.spt.replies ∧
    (commandBlocked .gate e s).spt.badFrames = s.spt.badFrames ∧
    (commandBlocked .gate e s).spt.dropRequest = s.spt.dropRequest ∧ (commandBlocked .gate e s).spt.tx = s.spt.tx := by
  generalize h : commandBlocked .gate e s = t
  unfold commandBlocked at h
  (try dsimp only at h)
  (repeat' split at h) <;> subst h <;> simp_all

@[simp] theorem commandDrive_gate_keeps (e : End) (s : State) :
    (commandDrive .gate e s).pins = s.pins ∧ (commandDrive .gate e s).clock = s.clock ∧
    (commandDrive .gate e s).supply = s.supply ∧ (commandDrive .gate e s).resetCause = s.resetCause ∧
    (commandDrive .gate e s).loaded = s.loaded ∧ (commandDrive .gate e s).rmu = s.rmu ∧
    (commandDrive .gate e s).asc = s.asc ∧ (commandDrive .gate e s).cabins = s.cabins ∧
    (commandDrive .gate e s).lists = s.lists ∧ (commandDrive .gate e s).stu = s.stu ∧
    (commandDrive .gate e s).lnu = s.lnu ∧ (commandDrive .gate e s).ltu = s.ltu ∧
    (commandDrive .gate e s).lkc = s.lkc ∧ (commandDrive .gate e s).phn = s.phn ∧
    (commandDrive .gate e s).ssv = s.ssv ∧ (commandDrive .gate e s).tal = s.tal ∧
    (commandDrive .gate e s).pfs = s.pfs ∧ (commandDrive .gate e s).free = s.free ∧
    (commandDrive .gate e s).pending = s.pending ∧ (commandDrive .gate e s).spt.rx = s.spt.rx ∧
    (commandDrive .gate e s).spt.stopped = s.spt.stopped ∧ (commandDrive .gate e s).spt.replies = s.spt.replies ∧
    (commandDrive .gate e s).spt.badFrames = s.spt.badFrames ∧
    (commandDrive .gate e s).spt.dropRequest = s.spt.dropRequest ∧ (commandDrive .gate e s).spt.tx = s.spt.tx := by
  generalize h : commandDrive .gate e s = t
  unfold commandDrive at h
  (try dsimp only at h)
  (repeat' split at h) <;> subst h <;> simp_all

@[simp] theorem reachEnd_release_keeps (e : End) (s : State) :
    (reachEnd .release e s).pins = s.pins ∧ (reachEnd .release e s).clock = s.clock ∧
    (reachEnd .release e s).supply = s.supply ∧ (reachEnd .release e s).resetCause = s.resetCause ∧
    (reachEnd .release e s).loaded = s.loaded ∧ (reachEnd .release e s).rmu = s.rmu ∧
    (reachEnd .release e s).asc = s.asc ∧ (reachEnd .release e s).cabins = s.cabins ∧
    (reachEnd .release e s).lists = s.lists ∧ (reachEnd .release e s).lnu = s.lnu ∧
    (reachEnd .release e s).ltu = s.ltu ∧ (reachEnd .release e s).lkc = s.lkc ∧ (reachEnd .release e s).phn = s.phn ∧
    (reachEnd .release e s).ssv = s.ssv ∧ (reachEnd .release e s).tal = s.tal ∧ (reachEnd .release e s).pfs = s.pfs ∧
    (reachEnd .release e s).free = s.free ∧ (reachEnd .release e s).pending = s.pending ∧
    (reachEnd .release e s).spt.rx = s.spt.rx ∧ (reachEnd .release e s).spt.stopped = s.spt.stopped ∧
    (reachEnd .release e s).spt.replies = s.spt.replies ∧ (reachEnd .release e s).spt.badFrames = s.spt.badFrames ∧
    (reachEnd .release e s).spt.dropRequest = s.spt.dropRequest ∧ (reachEnd .release e s).spt.tx = s.spt.tx := by
  generalize h : reachEnd .release e s = t
  unfold reachEnd driveReached at h
  (try dsimp only at h)
  (repeat' split at h) <;> subst h <;> simp_all

@[simp] theorem commandBlocked_release_keeps (e : End) (s : State) :
    (commandBlocked .release e s).pins = s.pins ∧ (commandBlocked .release e s).clock = s.clock ∧
    (commandBlocked .release e s).supply = s.supply ∧ (commandBlocked .release e s).resetCause = s.resetCause ∧
    (commandBlocked .release e s).loaded = s.loaded ∧ (commandBlocked .release e s).rmu = s.rmu ∧
    (commandBlocked .release e s).asc = s.asc ∧ (commandBlocked .release e s).cabins = s.cabins ∧
    (commandBlocked .release e s).lists = s.lists ∧ (commandBlocked .release e s).lnu = s.lnu ∧
    (commandBlocked .release e s).ltu = s.ltu ∧ (commandBlocked .release e s).lkc = s.lkc ∧
    (commandBlocked .release e s).phn = s.phn ∧ (commandBlocked .release e s).ssv = s.ssv ∧
    (commandBlocked .release e s).tal = s.tal ∧ (commandBlocked .release e s).pfs = s.pfs ∧
    (commandBlocked .release e s).free = s.free ∧ (commandBlocked .release e s).pending = s.pending ∧
    (commandBlocked .release e s).spt.rx = s.spt.rx ∧ (commandBlocked .release e s).spt.stopped = s.spt.stopped ∧
    (commandBlocked .release e s).spt.replies = s.spt.replies ∧
    (commandBlocked .release e s).spt.badFrames = s.spt.badFrames ∧
    (commandBlocked .release e s).spt.dropRequest = s.spt.dropRequest ∧
    (commandBlocked .release e s).spt.tx = s.spt.tx := by
  generalize h : commandBlocked .release e s = t
  unfold commandBlocked at h
  (try dsimp only at h)
  (repeat' split at h) <;> subst h <;> simp_all

@[simp] theorem commandDrive_release_keeps (e : End) (s : State) :
    (commandDrive .release e s).pins = s.pins ∧ (commandDrive .release e s).clock = s.clock ∧
    (commandDrive .release e s).supply = s.supply ∧ (commandDrive .release e s).resetCause = s.resetCause ∧
    (commandDrive .release e s).loaded = s.loaded ∧ (commandDrive .release e s).rmu = s.rmu ∧
    (commandDrive .release e s).asc = s.asc ∧ (commandDrive .release e s).cabins = s.cabins ∧
    (commandDrive .release e s).lists = s.lists ∧ (commandDrive .release e s).lnu = s.lnu ∧
    (commandDrive .release e s).ltu = s.ltu ∧ (commandDrive .release e s).lkc = s.lkc ∧
    (commandDrive .release e s).phn = s.phn ∧ (commandDrive .release e s).ssv = s.ssv ∧
    (commandDrive .release e s).tal = s.tal ∧ (commandDrive .release e s).pfs = s.pfs ∧
    (commandDrive .release e s).free = s.free ∧ (commandDrive .release e s).pending = s.pending ∧
    (commandDrive .release e s).spt.rx = s.spt.rx ∧ (commandDrive .release e s).spt.stopped = s.spt.stopped ∧
    (commandDrive .release e s).spt.replies = s.spt.replies ∧
    (commandDrive .release e s).spt.badFrames = s.spt.badFrames ∧
    (commandDrive .release e s).spt.dropRequest = s.spt.dropRequest ∧ (commandDrive .release e s).spt.tx = s.spt.tx := by
  generalize h : commandDrive .release e s = t
  unfold commandDrive at h
  (try dsimp only at h)
  (repeat' split at h) <;> subst h <;> simp_all

@[simp] theorem taskToB_keeps (ch : Channel) (t : DoorTask) (s : State) :
    (taskToB ch t s).pins = s.pins ∧ (taskToB ch t s).clock = s.clock ∧ (taskToB ch t s).supply = s.supply ∧
    (taskToB ch t s).resetCause = s.resetCause ∧ (taskToB ch t s).loaded = s.loaded ∧ (taskToB ch t s).rmu = s.rmu ∧
    (taskToB ch t s).asc = s.asc ∧ (taskToB ch t s).lists = s.lists ∧ (taskToB ch t s).lnu = s.lnu ∧
    (taskToB ch t s).ltu = s.ltu ∧ (taskToB ch t s).lkc = s.lkc ∧ (taskToB ch t s).phn = s.phn ∧
    (taskToB ch t s).tal = s.tal ∧ (taskToB ch t s).pfs = s.pfs ∧ (taskToB ch t s).free = s.free ∧
    (taskToB ch t s).pending = s.pending ∧ (taskToB ch t s).ssv.mode = s.ssv.mode ∧
    (taskToB ch t s).ssv.restricted = s.ssv.restricted ∧ (taskToB ch t s).ssv.lastKeep = s.ssv.lastKeep ∧
    (taskToB ch t s).ssv.deadline = s.ssv.deadline ∧ (taskToB ch t s).spt.rx = s.spt.rx ∧
    (taskToB ch t s).spt.stopped = s.spt.stopped ∧ (taskToB ch t s).spt.replies = s.spt.replies ∧
    (taskToB ch t s).spt.badFrames = s.spt.badFrames ∧ (taskToB ch t s).spt.dropRequest = s.spt.dropRequest ∧
    (taskToB ch t s).spt.tx = s.spt.tx := by
  generalize h : taskToB ch t s = t
  unfold taskToB at h
  (try dsimp only at h)
  (repeat' split at h) <;> subst h <;> simp

@[simp] theorem endOldTask_keeps (ch : Channel) (s : State) :
    (endOldTask ch s).pins = s.pins ∧ (endOldTask ch s).clock = s.clock ∧ (endOldTask ch s).supply = s.supply ∧
    (endOldTask ch s).resetCause = s.resetCause ∧ (endOldTask ch s).loaded = s.loaded ∧
    (endOldTask ch s).rmu = s.rmu ∧ (endOldTask ch s).asc = s.asc ∧ (endOldTask ch s).lists = s.lists ∧
    (endOldTask ch s).stu = s.stu ∧ (endOldTask ch s).lnu = s.lnu ∧ (endOldTask ch s).ltu = s.ltu ∧
    (endOldTask ch s).lkc = s.lkc ∧ (endOldTask ch s).phn = s.phn ∧ (endOldTask ch s).tal = s.tal ∧
    (endOldTask ch s).pfs = s.pfs ∧ (endOldTask ch s).free = s.free ∧ (endOldTask ch s).pending = s.pending ∧
    (endOldTask ch s).ssv.mode = s.ssv.mode ∧ (endOldTask ch s).ssv.restricted = s.ssv.restricted ∧
    (endOldTask ch s).ssv.lastKeep = s.ssv.lastKeep ∧ (endOldTask ch s).ssv.deadline = s.ssv.deadline ∧
    (endOldTask ch s).spt.rx = s.spt.rx ∧ (endOldTask ch s).spt.stopped = s.spt.stopped ∧
    (endOldTask ch s).spt.replies = s.spt.replies ∧ (endOldTask ch s).spt.badFrames = s.spt.badFrames ∧
    (endOldTask ch s).spt.dropRequest = s.spt.dropRequest ∧ (endOldTask ch s).spt.tx = s.spt.tx := by
  generalize h : endOldTask ch s = t
  unfold endOldTask at h
  (try dsimp only at h)
  (repeat' split at h) <;> subst h <;> simp

@[simp] theorem startOpener_keeps (entry : Nat) (c : Option Cabin) (s : State) :
    (startOpener entry c s).pins = s.pins ∧ (startOpener entry c s).clock = s.clock ∧
    (startOpener entry c s).supply = s.supply ∧ (startOpener entry c s).resetCause = s.resetCause ∧
    (startOpener entry c s).loaded = s.loaded ∧ (startOpener entry c s).rmu = s.rmu ∧
    (startOpener entry c s).asc = s.asc ∧ (startOpener entry c s).lists = s.lists ∧
    (startOpener entry c s).lnu = s.lnu ∧ (startOpener entry c s).ltu = s.ltu ∧ (startOpener entry c s).lkc = s.lkc ∧
    (startOpener entry c s).phn = s.phn ∧ (startOpener entry c s).tal = s.tal ∧ (startOpener entry c s).pfs = s.pfs ∧
    (startOpener entry c s).free = s.free ∧ (startOpener entry c s).pending = s.pending ∧
    (startOpener entry c s).ssv.mode = s.ssv.mode ∧ (startOpener entry c s).ssv.restricted = s.ssv.restricted ∧
    (startOpener entry c s).ssv.lastKeep = s.ssv.lastKeep ∧ (startOpener entry c s).ssv.deadline = s.ssv.deadline ∧
    (startOpener entry c s).spt.rx = s.spt.rx ∧ (startOpener entry c s).spt.stopped = s.spt.stopped ∧
    (startOpener entry c s).spt.replies = s.spt.replies ∧ (startOpener entry c s).spt.badFrames = s.spt.badFrames ∧
    (startOpener entry c s).spt.dropRequest = s.spt.dropRequest ∧ (startOpener entry c s).spt.tx = s.spt.tx := by
  generalize h : startOpener entry c s = t
  unfold startOpener at h
  (try dsimp only at h)
  (repeat' split at h) <;> subst h <;> simp

@[simp] theorem startCloser_keeps (entry : Nat) (c : Option Cabin) (s : State) :
    (startCloser entry c s).pins = s.pins ∧ (startCloser entry c s).clock = s.clock ∧
    (startCloser entry c s).supply = s.supply ∧ (startCloser entry c s).resetCause = s.resetCause ∧
    (startCloser entry c s).loaded = s.loaded ∧ (startCloser entry c s).rmu = s.rmu ∧
    (startCloser entry c s).asc = s.asc ∧ (startCloser entry c s).lists = s.lists ∧
    (startCloser entry c s).lnu = s.lnu ∧ (startCloser entry c s).ltu = s.ltu ∧ (startCloser entry c s).lkc = s.lkc ∧
    (startCloser entry c s).phn = s.phn ∧ (startCloser entry c s).tal = s.tal ∧ (startCloser entry c s).pfs = s.pfs ∧
    (startCloser entry c s).free = s.free ∧ (startCloser entry c s).pending = s.pending ∧
    (startCloser entry c s).ssv.mode = s.ssv.mode ∧ (startCloser entry c s).ssv.restricted = s.ssv.restricted ∧
    (startCloser entry c s).ssv.lastKeep = s.ssv.lastKeep ∧ (startCloser entry c s).ssv.deadline = s.ssv.deadline ∧
    (startCloser entry c s).spt.rx = s.spt.rx ∧ (startCloser entry c s).spt.stopped = s.spt.stopped ∧
    (startCloser entry c s).spt.replies = s.spt.replies ∧ (startCloser entry c s).spt.badFrames = s.spt.badFrames ∧
    (startCloser entry c s).spt.dropRequest = s.spt.dropRequest ∧ (startCloser entry c s).spt.tx = s.spt.tx := by
  generalize h : startCloser entry c s = t
  unfold startCloser at h
  (try dsimp only at h)
  (repeat' split at h) <;> subst h <;> simp

@[simp] theorem bothEnds_keeps (ch : Channel) (s : State) :
    (bothEnds ch s).pins = s.pins ∧ (bothEnds ch s).clock = s.clock ∧ (bothEnds ch s).supply = s.supply ∧
    (bothEnds ch s).resetCause = s.resetCause ∧ (bothEnds ch s).loaded = s.loaded ∧ (bothEnds ch s).rmu = s.rmu ∧
    (bothEnds ch s).asc = s.asc ∧ (bothEnds ch s).lists = s.lists ∧ (bothEnds ch s).ltu = s.ltu ∧
    (bothEnds ch s).phn = s.phn ∧ (bothEnds ch s).tal = s.tal ∧ (bothEnds ch s).pfs = s.pfs ∧
    (bothEnds ch s).free = s.free ∧ (bothEnds ch s).pending = s.pending ∧ (bothEnds ch s).ssv.mode = s.ssv.mode ∧
    (bothEnds ch s).ssv.restricted = s.ssv.restricted ∧ (bothEnds ch s).ssv.lastKeep = s.ssv.lastKeep ∧
    (bothEnds ch s).ssv.deadline = s.ssv.deadline ∧ (bothEnds ch s).spt.rx = s.spt.rx ∧
    (bothEnds ch s).spt.stopped = s.spt.stopped ∧ (bothEnds ch s).spt.replies = s.spt.replies ∧
    (bothEnds ch s).spt.badFrames = s.spt.badFrames ∧ (bothEnds ch s).spt.dropRequest = s.spt.dropRequest ∧
    (bothEnds ch s).spt.tx = s.spt.tx ∧ (bothEnds ch s).lkc.rx = s.lkc.rx ∧
    (bothEnds ch s).lkc.towers = s.lkc.towers ∧ (bothEnds ch s).lkc.ownNext = s.lkc.ownNext ∧
    (bothEnds ch s).lkc.txCycle = s.lkc.txCycle := by
  generalize h : bothEnds ch s = t
  unfold bothEnds at h
  (try dsimp only at h)
  (repeat' split at h) <;> subst h <;> simp

@[simp] theorem endMoved_keeps (ch : Channel) (e : End) (level : Bool) (s : State) :
    (endMoved ch e level s).pins = s.pins ∧ (endMoved ch e level s).clock = s.clock ∧
    (endMoved ch e level s).supply = s.supply ∧ (endMoved ch e level s).resetCause = s.resetCause ∧
    (endMoved ch e level s).loaded = s.loaded ∧ (endMoved ch e level s).rmu = s.rmu ∧
    (endMoved ch e level s).asc = s.asc ∧ (endMoved ch e level s).lists = s.lists ∧
    (endMoved ch e level s).ltu = s.ltu ∧ (endMoved ch e level s).phn = s.phn ∧ (endMoved ch e level s).tal = s.tal ∧
    (endMoved ch e level s).pfs = s.pfs ∧ (endMoved ch e level s).free = s.free ∧
    (endMoved ch e level s).pending = s.pending ∧ (endMoved ch e level s).ssv.mode = s.ssv.mode ∧
    (endMoved ch e level s).ssv.restricted = s.ssv.restricted ∧
    (endMoved ch e level s).ssv.lastKeep = s.ssv.lastKeep ∧ (endMoved ch e level s).ssv.deadline = s.ssv.deadline ∧
    (endMoved ch e level s).spt.rx = s.spt.rx ∧ (endMoved ch e level s).spt.stopped = s.spt.stopped ∧
    (endMoved ch e level s).spt.replies = s.spt.replies ∧ (endMoved ch e level s).spt.badFrames = s.spt.badFrames ∧
    (endMoved ch e level s).spt.dropRequest = s.spt.dropRequest ∧ (endMoved ch e level s).spt.tx = s.spt.tx ∧
    (endMoved ch e level s).lkc.rx = s.lkc.rx ∧ (endMoved ch e level s).lkc.towers = s.lkc.towers ∧
    (endMoved ch e level s).lkc.ownNext = s.lkc.ownNext ∧ (endMoved ch e level s).lkc.txCycle = s.lkc.txCycle := by
  generalize h : endMoved ch e level s = t
  unfold endMoved at h
  (try dsimp only at h)
  (repeat' split at h) <;> subst h <;> simp

@[simp] theorem endChange_keeps (ch : Channel) (e : End) (level : Bool) (s : State) :
    (endChange ch e level s).pins = s.pins ∧ (endChange ch e level s).clock = s.clock ∧
    (endChange ch e level s).supply = s.supply ∧ (endChange ch e level s).resetCause = s.resetCause ∧
    (endChange ch e level s).loaded = s.loaded ∧ (endChange ch e level s).rmu = s.rmu ∧
    (endChange ch e level s).asc = s.asc ∧ (endChange ch e level s).lists = s.lists ∧
    (endChange ch e level s).ltu = s.ltu ∧ (endChange ch e level s).phn = s.phn ∧
    (endChange ch e level s).tal = s.tal ∧ (endChange ch e level s).pfs = s.pfs ∧
    (endChange ch e level s).free = s.free ∧ (endChange ch e level s).pending = s.pending ∧
    (endChange ch e level s).ssv.mode = s.ssv.mode ∧ (endChange ch e level s).ssv.restricted = s.ssv.restricted ∧
    (endChange ch e level s).ssv.lastKeep = s.ssv.lastKeep ∧ (endChange ch e level s).ssv.deadline = s.ssv.deadline ∧
    (endChange ch e level s).spt.rx = s.spt.rx ∧ (endChange ch e level s).spt.stopped = s.spt.stopped ∧
    (endChange ch e level s).spt.replies = s.spt.replies ∧ (endChange ch e level s).spt.badFrames = s.spt.badFrames ∧
    (endChange ch e level s).spt.dropRequest = s.spt.dropRequest ∧ (endChange ch e level s).spt.tx = s.spt.tx ∧
    (endChange ch e level s).lkc.rx = s.lkc.rx ∧ (endChange ch e level s).lkc.towers = s.lkc.towers ∧
    (endChange ch e level s).lkc.ownNext = s.lkc.ownNext ∧ (endChange ch e level s).lkc.txCycle = s.lkc.txCycle := by
  generalize h : endChange ch e level s = t
  unfold endChange at h
  (try dsimp only at h)
  (repeat' split at h) <;> subst h <;> simp

@[simp] theorem strokeTimeout_keeps (ch : Channel) (s : State) :
    (strokeTimeout ch s).pins = s.pins ∧ (strokeTimeout ch s).clock = s.clock ∧
    (strokeTimeout ch s).supply = s.supply ∧ (strokeTimeout ch s).resetCause = s.resetCause ∧
    (strokeTimeout ch s).loaded = s.loaded ∧ (strokeTimeout ch s).rmu = s.rmu ∧ (strokeTimeout ch s).asc = s.asc ∧
    (strokeTimeout ch s).lists = s.lists ∧ (strokeTimeout ch s).ltu = s.ltu ∧ (strokeTimeout ch s).phn = s.phn ∧
    (strokeTimeout ch s).tal = s.tal ∧ (strokeTimeout ch s).pfs = s.pfs ∧ (strokeTimeout ch s).free = s.free ∧
    (strokeTimeout ch s).pending = s.pending ∧ (strokeTimeout ch s).ssv.mode = s.ssv.mode ∧
    (strokeTimeout ch s).ssv.restricted = s.ssv.restricted ∧ (strokeTimeout ch s).ssv.lastKeep = s.ssv.lastKeep ∧
    (strokeTimeout ch s).ssv.deadline = s.ssv.deadline ∧ (strokeTimeout ch s).spt.rx = s.spt.rx ∧
    (strokeTimeout ch s).spt.stopped = s.spt.stopped ∧ (strokeTimeout ch s).spt.replies = s.spt.replies ∧
    (strokeTimeout ch s).spt.badFrames = s.spt.badFrames ∧ (strokeTimeout ch s).spt.dropRequest = s.spt.dropRequest ∧
    (strokeTimeout ch s).spt.tx = s.spt.tx ∧ (strokeTimeout ch s).lkc.rx = s.lkc.rx ∧
    (strokeTimeout ch s).lkc.towers = s.lkc.towers ∧ (strokeTimeout ch s).lkc.ownNext = s.lkc.ownNext ∧
    (strokeTimeout ch s).lkc.txCycle = s.lkc.txCycle := by
  generalize h : strokeTimeout ch s = t
  unfold strokeTimeout at h
  (try dsimp only at h)
  (repeat' split at h) <;> subst h <;> simp

@[simp] theorem markReversing_keeps (s : State) :
    (markReversing s).pins = s.pins ∧ (markReversing s).clock = s.clock ∧ (markReversing s).supply = s.supply ∧
    (markReversing s).resetCause = s.resetCause ∧ (markReversing s).loaded = s.loaded ∧
    (markReversing s).rmu = s.rmu ∧ (markReversing s).asc = s.asc ∧ (markReversing s).cabins = s.cabins ∧
    (markReversing s).lists = s.lists ∧ (markReversing s).stu = s.stu ∧ (markReversing s).lnu = s.lnu ∧
    (markReversing s).ltu = s.ltu ∧ (markReversing s).lkc = s.lkc ∧ (markReversing s).phn = s.phn ∧
    (markReversing s).ssv = s.ssv ∧ (markReversing s).tal = s.tal ∧ (markReversing s).spt = s.spt ∧
    (markReversing s).pfs = s.pfs ∧ (markReversing s).free = s.free ∧ (markReversing s).pending = s.pending := by
  generalize h : markReversing s = t
  unfold markReversing at h
  (try dsimp only at h)
  (repeat' split at h) <;> subst h <;> simp

@[simp] theorem closerReversal_keeps (s : State) :
    (closerReversal s).pins = s.pins ∧ (closerReversal s).clock = s.clock ∧ (closerReversal s).supply = s.supply ∧
    (closerReversal s).resetCause = s.resetCause ∧ (closerReversal s).loaded = s.loaded ∧
    (closerReversal s).rmu = s.rmu ∧ (closerReversal s).asc = s.asc ∧ (closerReversal s).cabins = s.cabins ∧
    (closerReversal s).lists = s.lists ∧ (closerReversal s).stu = s.stu ∧ (closerReversal s).lnu = s.lnu ∧
    (closerReversal s).ltu = s.ltu ∧ (closerReversal s).lkc = s.lkc ∧ (closerReversal s).phn = s.phn ∧
    (closerReversal s).ssv = s.ssv ∧ (closerReversal s).pfs = s.pfs ∧ (closerReversal s).free = s.free ∧
    (closerReversal s).pending = s.pending ∧ (closerReversal s).spt.rx = s.spt.rx ∧
    (closerReversal s).spt.stopped = s.spt.stopped ∧ (closerReversal s).spt.replies = s.spt.replies ∧
    (closerReversal s).spt.badFrames = s.spt.badFrames ∧ (closerReversal s).spt.dropRequest = s.spt.dropRequest ∧
    (closerReversal s).spt.tx = s.spt.tx := by
  generalize h : closerReversal s = t
  unfold closerReversal at h
  (try dsimp only at h)
  (repeat' split at h) <;> subst h <;> simp

@[simp] theorem obstruction_keeps (ch : Channel) (s : State) :
    (obstruction ch s).pins = s.pins ∧ (obstruction ch s).clock = s.clock ∧ (obstruction ch s).supply = s.supply ∧
    (obstruction ch s).resetCause = s.resetCause ∧ (obstruction ch s).loaded = s.loaded ∧
    (obstruction ch s).rmu = s.rmu ∧ (obstruction ch s).asc = s.asc ∧ (obstruction ch s).lists = s.lists ∧
    (obstruction ch s).ltu = s.ltu ∧ (obstruction ch s).phn = s.phn ∧ (obstruction ch s).pfs = s.pfs ∧
    (obstruction ch s).free = s.free ∧ (obstruction ch s).pending = s.pending ∧
    (obstruction ch s).ssv.mode = s.ssv.mode ∧ (obstruction ch s).ssv.restricted = s.ssv.restricted ∧
    (obstruction ch s).ssv.lastKeep = s.ssv.lastKeep ∧ (obstruction ch s).ssv.deadline = s.ssv.deadline ∧
    (obstruction ch s).spt.rx = s.spt.rx ∧ (obstruction ch s).spt.stopped = s.spt.stopped ∧
    (obstruction ch s).spt.replies = s.spt.replies ∧ (obstruction ch s).spt.badFrames = s.spt.badFrames ∧
    (obstruction ch s).spt.dropRequest = s.spt.dropRequest ∧ (obstruction ch s).spt.tx = s.spt.tx ∧
    (obstruction ch s).lkc.rx = s.lkc.rx ∧ (obstruction ch s).lkc.towers = s.lkc.towers ∧
    (obstruction ch s).lkc.ownNext = s.lkc.ownNext ∧ (obstruction ch s).lkc.txCycle = s.lkc.txCycle := by
  generalize h : obstruction ch s = t
  unfold obstruction at h
  (try dsimp only at h)
  (repeat' split at h) <;> subst h <;> simp

@[simp] theorem currentSample_keeps (ch : Channel) (n : Sample) (s : State) :
    (currentSample ch n s).pins = s.pins ∧ (currentSample ch n s).clock = s.clock ∧
    (currentSample ch n s).supply = s.supply ∧ (currentSample ch n s).resetCause = s.resetCause ∧
    (currentSample ch n s).loaded = s.loaded ∧ (currentSample ch n s).rmu = s.rmu ∧
    (currentSample ch n s).asc = s.asc ∧ (currentSample ch n s).lists = s.lists ∧
    (currentSample ch n s).ltu = s.ltu ∧ (currentSample ch n s).phn = s.phn ∧ (currentSample ch n s).pfs = s.pfs ∧
    (currentSample ch n s).free = s.free ∧ (currentSample ch n s).pending = s.pending ∧
    (currentSample ch n s).ssv.mode = s.ssv.mode ∧ (currentSample ch n s).ssv.restricted = s.ssv.restricted ∧
    (currentSample ch n s).ssv.lastKeep = s.ssv.lastKeep ∧ (currentSample ch n s).ssv.deadline = s.ssv.deadline ∧
    (currentSample ch n s).spt.rx = s.spt.rx ∧ (currentSample ch n s).spt.stopped = s.spt.stopped ∧
    (currentSample ch n s).spt.replies = s.spt.replies ∧ (currentSample ch n s).spt.badFrames = s.spt.badFrames ∧
    (currentSample ch n s).spt.dropRequest = s.spt.dropRequest ∧ (currentSample ch n s).spt.tx = s.spt.tx ∧
    (currentSample ch n s).lkc.rx = s.lkc.rx ∧ (currentSample ch n s).lkc.towers = s.lkc.towers ∧
    (currentSample ch n s).lkc.ownNext = s.lkc.ownNext ∧ (currentSample ch n s).lkc.txCycle = s.lkc.txCycle := by
  generalize h : currentSample ch n s = t
  unfold currentSample at h
  (try dsimp only at h)
  (repeat' split at h) <;> subst h <;> simp

@[simp] theorem retryDecision_keeps (t : DoorTask) (s : State) :
    (retryDecision t s).pins = s.pins ∧ (retryDecision t s).clock = s.clock ∧ (retryDecision t s).supply = s.supply ∧
    (retryDecision t s).resetCause = s.resetCause ∧ (retryDecision t s).loaded = s.loaded ∧
    (retryDecision t s).rmu = s.rmu ∧ (retryDecision t s).asc = s.asc ∧ (retryDecision t s).lists = s.lists ∧
    (retryDecision t s).lnu = s.lnu ∧ (retryDecision t s).ltu = s.ltu ∧ (retryDecision t s).lkc = s.lkc ∧
    (retryDecision t s).phn = s.phn ∧ (retryDecision t s).tal = s.tal ∧ (retryDecision t s).pfs = s.pfs ∧
    (retryDecision t s).free = s.free ∧ (retryDecision t s).pending = s.pending ∧
    (retryDecision t s).ssv.mode = s.ssv.mode ∧ (retryDecision t s).ssv.restricted = s.ssv.restricted ∧
    (retryDecision t s).ssv.lastKeep = s.ssv.lastKeep ∧ (retryDecision t s).ssv.deadline = s.ssv.deadline ∧
    (retryDecision t s).spt.rx = s.spt.rx ∧ (retryDecision t s).spt.stopped = s.spt.stopped ∧
    (retryDecision t s).spt.replies = s.spt.replies ∧ (retryDecision t s).spt.badFrames = s.spt.badFrames ∧
    (retryDecision t s).spt.dropRequest = s.spt.dropRequest ∧ (retryDecision t s).spt.tx = s.spt.tx := by
  generalize h : retryDecision t s = t
  unfold retryDecision at h
  (try dsimp only at h)
  (repeat' split at h) <;> subst h <;> simp

@[simp] theorem retryPauseExpiry_keeps (s : State) :
    (retryPauseExpiry s).pins = s.pins ∧ (retryPauseExpiry s).clock = s.clock ∧
    (retryPauseExpiry s).supply = s.supply ∧ (retryPauseExpiry s).resetCause = s.resetCause ∧
    (retryPauseExpiry s).loaded = s.loaded ∧ (retryPauseExpiry s).rmu = s.rmu ∧ (retryPauseExpiry s).asc = s.asc ∧
    (retryPauseExpiry s).lists = s.lists ∧ (retryPauseExpiry s).lnu = s.lnu ∧ (retryPauseExpiry s).ltu = s.ltu ∧
    (retryPauseExpiry s).lkc = s.lkc ∧ (retryPauseExpiry s).phn = s.phn ∧ (retryPauseExpiry s).tal = s.tal ∧
    (retryPauseExpiry s).pfs = s.pfs ∧ (retryPauseExpiry s).free = s.free ∧
    (retryPauseExpiry s).pending = s.pending ∧ (retryPauseExpiry s).ssv.mode = s.ssv.mode ∧
    (retryPauseExpiry s).ssv.restricted = s.ssv.restricted ∧ (retryPauseExpiry s).ssv.lastKeep = s.ssv.lastKeep ∧
    (retryPauseExpiry s).ssv.deadline = s.ssv.deadline ∧ (retryPauseExpiry s).spt.rx = s.spt.rx ∧
    (retryPauseExpiry s).spt.stopped = s.spt.stopped ∧ (retryPauseExpiry s).spt.replies = s.spt.replies ∧
    (retryPauseExpiry s).spt.badFrames = s.spt.badFrames ∧ (retryPauseExpiry s).spt.dropRequest = s.spt.dropRequest ∧
    (retryPauseExpiry s).spt.tx = s.spt.tx := by
  generalize h : retryPauseExpiry s = t
  unfold retryPauseExpiry at h
  (try dsimp only at h)
  (repeat' split at h) <;> subst h <;> simp

@[simp] theorem testDrive_keeps (ch : Channel) (e : End) (s : State) :
    (testDrive ch e s).pins = s.pins ∧ (testDrive ch e s).clock = s.clock ∧ (testDrive ch e s).supply = s.supply ∧
    (testDrive ch e s).resetCause = s.resetCause ∧ (testDrive ch e s).loaded = s.loaded ∧
    (testDrive ch e s).rmu = s.rmu ∧ (testDrive ch e s).asc = s.asc ∧ (testDrive ch e s).lists = s.lists ∧
    (testDrive ch e s).lnu = s.lnu ∧ (testDrive ch e s).ltu = s.ltu ∧ (testDrive ch e s).lkc = s.lkc ∧
    (testDrive ch e s).phn = s.phn ∧ (testDrive ch e s).tal = s.tal ∧ (testDrive ch e s).pfs = s.pfs ∧
    (testDrive ch e s).free = s.free ∧ (testDrive ch e s).pending = s.pending ∧
    (testDrive ch e s).ssv.mode = s.ssv.mode ∧ (testDrive ch e s).ssv.restricted = s.ssv.restricted ∧
    (testDrive ch e s).ssv.lastKeep = s.ssv.lastKeep ∧ (testDrive ch e s).ssv.deadline = s.ssv.deadline ∧
    (testDrive ch e s).spt.rx = s.spt.rx ∧ (testDrive ch e s).spt.stopped = s.spt.stopped ∧
    (testDrive ch e s).spt.replies = s.spt.replies ∧ (testDrive ch e s).spt.badFrames = s.spt.badFrames ∧
    (testDrive ch e s).spt.dropRequest = s.spt.dropRequest ∧ (testDrive ch e s).spt.tx = s.spt.tx := by
  generalize h : testDrive ch e s = t
  unfold testDrive at h
  (try dsimp only at h)
  (repeat' split at h) <;> subst h <;> simp

@[simp] theorem driveFound_keeps (ch : Channel) (s : State) :
    (driveFound ch s).pins = s.pins ∧ (driveFound ch s).clock = s.clock ∧ (driveFound ch s).supply = s.supply ∧
    (driveFound ch s).resetCause = s.resetCause ∧ (driveFound ch s).loaded = s.loaded ∧
    (driveFound ch s).rmu = s.rmu ∧ (driveFound ch s).asc = s.asc ∧ (driveFound ch s).cabins = s.cabins ∧
    (driveFound ch s).lists = s.lists ∧ (driveFound ch s).stu = s.stu ∧ (driveFound ch s).lnu = s.lnu ∧
    (driveFound ch s).ltu = s.ltu ∧ (driveFound ch s).lkc = s.lkc ∧ (driveFound ch s).phn = s.phn ∧
    (driveFound ch s).tal = s.tal ∧ (driveFound ch s).pfs = s.pfs ∧ (driveFound ch s).free = s.free ∧
    (driveFound ch s).pending = s.pending ∧ (driveFound ch s).ssv.mode = s.ssv.mode ∧
    (driveFound ch s).ssv.restricted = s.ssv.restricted ∧ (driveFound ch s).ssv.lastKeep = s.ssv.lastKeep ∧
    (driveFound ch s).ssv.deadline = s.ssv.deadline ∧ (driveFound ch s).spt.rx = s.spt.rx ∧
    (driveFound ch s).spt.stopped = s.spt.stopped ∧ (driveFound ch s).spt.replies = s.spt.replies ∧
    (driveFound ch s).spt.badFrames = s.spt.badFrames ∧ (driveFound ch s).spt.dropRequest = s.spt.dropRequest ∧
    (driveFound ch s).spt.tx = s.spt.tx := by
  generalize h : driveFound ch s = t
  unfold driveFound at h
  (try dsimp only at h)
  (repeat' split at h) <;> subst h <;> simp

end Sys2Proof.Machine
end

