-- ==== Sys2Proof/Laws/Launch.lean ====
section
/-! SUPPORT. What each operation of the Launch Unit leaves unchanged: every field of the state that it does not write. -/

-- One lemma after the other: side by side, their proofs need more memory in the joined text than the check has.
set_option Elab.async false

namespace Sys2Proof.Machine

@[simp] theorem moveEntry_keeps (id : Nat) (g : Segment) (s : State) :
    (moveEntry id g s).pins = s.pins ∧ (moveEntry id g s).clock = s.clock ∧ (moveEntry id g s).supply = s.supply ∧
    (moveEntry id g s).resetCause = s.resetCause ∧ (moveEntry id g s).loaded = s.loaded ∧
    (moveEntry id g s).rmu = s.rmu ∧ (moveEntry id g s).asc = s.asc ∧ (moveEntry id g s).cabins = s.cabins ∧
    (moveEntry id g s).stu = s.stu ∧ (moveEntry id g s).dru = s.dru ∧ (moveEntry id g s).lnu = s.lnu ∧
    (moveEntry id g s).ltu = s.ltu ∧ (moveEntry id g s).lkc = s.lkc ∧ (moveEntry id g s).phn = s.phn ∧
    (moveEntry id g s).ssv = s.ssv ∧ (moveEntry id g s).tal = s.tal ∧ (moveEntry id g s).spt = s.spt ∧
    (moveEntry id g s).pfs = s.pfs ∧ (moveEntry id g s).free = s.free ∧ (moveEntry id g s).pending = s.pending := by
  generalize h : moveEntry id g s = t
  unfold moveEntry at h
  (try dsimp only at h)
  (repeat' split at h) <;> subst h <;> simp

@[simp] theorem writeGrip_keeps (w : GripWindow) (r : GripResult) (force : Nat) (s : State) :
    (writeGrip w r force s).pins = s.pins ∧ (writeGrip w r force s).clock = s.clock ∧
    (writeGrip w r force s).supply = s.supply ∧ (writeGrip w r force s).resetCause = s.resetCause ∧
    (writeGrip w r force s).loaded = s.loaded ∧ (writeGrip w r force s).rmu = s.rmu ∧
    (writeGrip w r force s).asc = s.asc ∧ (writeGrip w r force s).stu = s.stu ∧ (writeGrip w r force s).dru = s.dru ∧
    (writeGrip w r force s).lnu = s.lnu ∧ (writeGrip w r force s).ltu = s.ltu ∧ (writeGrip w r force s).lkc = s.lkc ∧
    (writeGrip w r force s).phn = s.phn ∧ (writeGrip w r force s).ssv = s.ssv ∧ (writeGrip w r force s).tal = s.tal ∧
    (writeGrip w r force s).spt = s.spt ∧ (writeGrip w r force s).pfs = s.pfs ∧
    (writeGrip w r force s).free = s.free ∧ (writeGrip w r force s).pending = s.pending := by
  generalize h : writeGrip w r force s = t
  unfold writeGrip at h
  (try dsimp only at h)
  (repeat' split at h) <;> subst h <;> simp

@[simp] theorem gripCauses_keeps (w : GripWindow) (r : GripResult) (s : State) :
    (gripCauses w r s).pins = s.pins ∧ (gripCauses w r s).clock = s.clock ∧ (gripCauses w r s).supply = s.supply ∧
    (gripCauses w r s).resetCause = s.resetCause ∧ (gripCauses w r s).loaded = s.loaded ∧
    (gripCauses w r s).rmu = s.rmu ∧ (gripCauses w r s).asc = s.asc ∧ (gripCauses w r s).cabins = s.cabins ∧
    (gripCauses w r s).lists = s.lists ∧ (gripCauses w r s).stu = s.stu ∧ (gripCauses w r s).dru = s.dru ∧
    (gripCauses w r s).lnu = s.lnu ∧ (gripCauses w r s).ltu = s.ltu ∧ (gripCauses w r s).lkc = s.lkc ∧
    (gripCauses w r s).phn = s.phn ∧ (gripCauses w r s).pfs = s.pfs ∧ (gripCauses w r s).free = s.free ∧
    (gripCauses w r s).pending = s.pending ∧ (gripCauses w r s).ssv.mode = s.ssv.mode ∧
    (gripCauses w r s).ssv.restricted = s.ssv.restricted ∧ (gripCauses w r s).ssv.lastKeep = s.ssv.lastKeep ∧
    (gripCauses w r s).ssv.deadline = s.ssv.deadline ∧ (gripCauses w r s).spt.rx = s.spt.rx ∧
    (gripCauses w r s).spt.stopped = s.spt.stopped ∧ (gripCauses w r s).spt.replies = s.spt.replies ∧
    (gripCauses w r s).spt.badFrames = s.spt.badFrames ∧ (gripCauses w r s).spt.dropRequest = s.spt.dropRequest ∧
    (gripCauses w r s).spt.tx = s.spt.tx := by
  generalize h : gripCauses w r s = t
  unfold gripCauses at h
  (try dsimp only at h)
  (repeat' split at h) <;> subst h <;> simp

@[simp] theorem closeWindow_keeps (w : GripWindow) (s : State) :
    (closeWindow w s).pins = s.pins ∧ (closeWindow w s).clock = s.clock ∧ (closeWindow w s).supply = s.supply ∧
    (closeWindow w s).resetCause = s.resetCause ∧ (closeWindow w s).loaded = s.loaded ∧
    (closeWindow w s).rmu = s.rmu ∧ (closeWindow w s).asc = s.asc ∧ (closeWindow w s).stu = s.stu ∧
    (closeWindow w s).dru = s.dru ∧ (closeWindow w s).ltu = s.ltu ∧ (closeWindow w s).lkc = s.lkc ∧
    (closeWindow w s).phn = s.phn ∧ (closeWindow w s).pfs = s.pfs ∧ (closeWindow w s).free = s.free ∧
    (closeWindow w s).pending = s.pending ∧ (closeWindow w s).ssv.mode = s.ssv.mode ∧
    (closeWindow w s).ssv.restricted = s.ssv.restricted ∧ (closeWindow w s).ssv.lastKeep = s.ssv.lastKeep ∧
    (closeWindow w s).ssv.deadline = s.ssv.deadline ∧ (closeWindow w s).spt.rx = s.spt.rx ∧
    (closeWindow w s).spt.stopped = s.spt.stopped ∧ (closeWindow w s).spt.replies = s.spt.replies ∧
    (closeWindow w s).spt.badFrames = s.spt.badFrames ∧ (closeWindow w s).spt.dropRequest = s.spt.dropRequest ∧
    (closeWindow w s).spt.tx = s.spt.tx := by
  generalize h : closeWindow w s = t
  unfold closeWindow at h
  (try dsimp only at h)
  (repeat' split at h) <;> subst h <;> simp

@[simp] theorem closeAnyWindow_keeps (s : State) :
    (closeAnyWindow s).pins = s.pins ∧ (closeAnyWindow s).clock = s.clock ∧ (closeAnyWindow s).supply = s.supply ∧
    (closeAnyWindow s).resetCause = s.resetCause ∧ (closeAnyWindow s).loaded = s.loaded ∧
    (closeAnyWindow s).rmu = s.rmu ∧ (closeAnyWindow s).asc = s.asc ∧ (closeAnyWindow s).stu = s.stu ∧
    (closeAnyWindow s).dru = s.dru ∧ (closeAnyWindow s).ltu = s.ltu ∧ (closeAnyWindow s).lkc = s.lkc ∧
    (closeAnyWindow s).phn = s.phn ∧ (closeAnyWindow s).pfs = s.pfs ∧ (closeAnyWindow s).free = s.free ∧
    (closeAnyWindow s).pending = s.pending ∧ (closeAnyWindow s).ssv.mode = s.ssv.mode ∧
    (closeAnyWindow s).ssv.restricted = s.ssv.restricted ∧ (closeAnyWindow s).ssv.lastKeep = s.ssv.lastKeep ∧
    (closeAnyWindow s).ssv.deadline = s.ssv.deadline ∧ (closeAnyWindow s).spt.rx = s.spt.rx ∧
    (closeAnyWindow s).spt.stopped = s.spt.stopped ∧ (closeAnyWindow s).spt.replies = s.spt.replies ∧
    (closeAnyWindow s).spt.badFrames = s.spt.badFrames ∧ (closeAnyWindow s).spt.dropRequest = s.spt.dropRequest ∧
    (closeAnyWindow s).spt.tx = s.spt.tx := by
  generalize h : closeAnyWindow s = t
  unfold closeAnyWindow at h
  (try dsimp only at h)
  (repeat' split at h) <;> subst h <;> simp

@[simp] theorem openWindow_keeps (entry : Nat) (c : Option Cabin) (s : State) :
    (openWindow entry c s).pins = s.pins ∧ (openWindow entry c s).clock = s.clock ∧
    (openWindow entry c s).supply = s.supply ∧ (openWindow entry c s).resetCause = s.resetCause ∧
    (openWindow entry c s).loaded = s.loaded ∧ (openWindow entry c s).rmu = s.rmu ∧
    (openWindow entry c s).asc = s.asc ∧ (openWindow entry c s).cabins = s.cabins ∧
    (openWindow entry c s).lists = s.lists ∧ (openWindow entry c s).stu = s.stu ∧
    (openWindow entry c s).dru = s.dru ∧ (openWindow entry c s).ltu = s.ltu ∧ (openWindow entry c s).lkc = s.lkc ∧
    (openWindow entry c s).phn = s.phn ∧ (openWindow entry c s).ssv = s.ssv ∧ (openWindow entry c s).tal = s.tal ∧
    (openWindow entry c s).spt = s.spt ∧ (openWindow entry c s).pfs = s.pfs ∧ (openWindow entry c s).free = s.free ∧
    (openWindow entry c s).pending = s.pending := by
  generalize h : openWindow entry c s = t
  unfold openWindow at h
  (try dsimp only at h)
  (repeat' split at h) <;> subst h <;> simp

@[simp] theorem gripSample_keeps (n : Sample) (s : State) :
    (gripSample n s).pins = s.pins ∧ (gripSample n s).clock = s.clock ∧ (gripSample n s).supply = s.supply ∧
    (gripSample n s).resetCause = s.resetCause ∧ (gripSample n s).loaded = s.loaded ∧ (gripSample n s).rmu = s.rmu ∧
    (gripSample n s).asc = s.asc ∧ (gripSample n s).cabins = s.cabins ∧ (gripSample n s).lists = s.lists ∧
    (gripSample n s).stu = s.stu ∧ (gripSample n s).dru = s.dru ∧ (gripSample n s).ltu = s.ltu ∧
    (gripSample n s).lkc = s.lkc ∧ (gripSample n s).phn = s.phn ∧ (gripSample n s).ssv = s.ssv ∧
    (gripSample n s).tal = s.tal ∧ (gripSample n s).spt = s.spt ∧ (gripSample n s).pfs = s.pfs ∧
    (gripSample n s).free = s.free ∧ (gripSample n s).pending = s.pending := by
  generalize h : gripSample n s = t
  unfold gripSample at h
  (try dsimp only at h)
  (repeat' split at h) <;> subst h <;> simp

@[simp] theorem windowDistance_keeps (s : State) :
    (windowDistance s).pins = s.pins ∧ (windowDistance s).clock = s.clock ∧ (windowDistance s).supply = s.supply ∧
    (windowDistance s).resetCause = s.resetCause ∧ (windowDistance s).loaded = s.loaded ∧
    (windowDistance s).rmu = s.rmu ∧ (windowDistance s).asc = s.asc ∧ (windowDistance s).stu = s.stu ∧
    (windowDistance s).dru = s.dru ∧ (windowDistance s).ltu = s.ltu ∧ (windowDistance s).lkc = s.lkc ∧
    (windowDistance s).phn = s.phn ∧ (windowDistance s).pfs = s.pfs ∧ (windowDistance s).free = s.free ∧
    (windowDistance s).pending = s.pending ∧ (windowDistance s).ssv.mode = s.ssv.mode ∧
    (windowDistance s).ssv.restricted = s.ssv.restricted ∧ (windowDistance s).ssv.lastKeep = s.ssv.lastKeep ∧
    (windowDistance s).ssv.deadline = s.ssv.deadline ∧ (windowDistance s).spt.rx = s.spt.rx ∧
    (windowDistance s).spt.stopped = s.spt.stopped ∧ (windowDistance s).spt.replies = s.spt.replies ∧
    (windowDistance s).spt.badFrames = s.spt.badFrames ∧ (windowDistance s).spt.dropRequest = s.spt.dropRequest ∧
    (windowDistance s).spt.tx = s.spt.tx := by
  generalize h : windowDistance s = t
  unfold windowDistance at h
  (try dsimp only at h)
  (repeat' split at h) <;> subst h <;> simp

@[simp] theorem decideLaunch_keeps (entry : Nat) (c : Cabin) (s : State) :
    (decideLaunch entry c s).pins = s.pins ∧ (decideLaunch entry c s).clock = s.clock ∧
    (decideLaunch entry c s).supply = s.supply ∧ (decideLaunch entry c s).resetCause = s.resetCause ∧
    (decideLaunch entry c s).loaded = s.loaded ∧ (decideLaunch entry c s).rmu = s.rmu ∧
    (decideLaunch entry c s).asc = s.asc ∧ (decideLaunch entry c s).cabins = s.cabins ∧
    (decideLaunch entry c s).lists = s.lists ∧ (decideLaunch entry c s).stu = s.stu ∧
    (decideLaunch entry c s).ltu = s.ltu ∧ (decideLaunch entry c s).phn = s.phn ∧
    (decideLaunch entry c s).ssv = s.ssv ∧ (decideLaunch entry c s).tal = s.tal ∧
    (decideLaunch entry c s).pfs = s.pfs ∧ (decideLaunch entry c s).free = s.free ∧
    (decideLaunch entry c s).pending = s.pending ∧ (decideLaunch entry c s).spt.rx = s.spt.rx ∧
    (decideLaunch entry c s).spt.stopped = s.spt.stopped ∧ (decideLaunch entry c s).spt.replies = s.spt.replies ∧
    (decideLaunch entry c s).spt.badFrames = s.spt.badFrames ∧
    (decideLaunch entry c s).spt.dropRequest = s.spt.dropRequest ∧ (decideLaunch entry c s).spt.tx = s.spt.tx ∧
    (decideLaunch entry c s).lkc.rx = s.lkc.rx ∧ (decideLaunch entry c s).lkc.towers = s.lkc.towers ∧
    (decideLaunch entry c s).lkc.ownNext = s.lkc.ownNext ∧ (decideLaunch entry c s).lkc.txCycle = s.lkc.txCycle := by
  generalize h : decideLaunch entry c s = t
  unfold decideLaunch at h
  (try dsimp only at h)
  (repeat' split at h) <;> subst h <;> simp

@[simp] theorem launchEval_keeps (s : State) :
    (launchEval s).pins = s.pins ∧ (launchEval s).clock = s.clock ∧ (launchEval s).supply = s.supply ∧
    (launchEval s).resetCause = s.resetCause ∧ (launchEval s).loaded = s.loaded ∧ (launchEval s).rmu = s.rmu ∧
    (launchEval s).asc = s.asc ∧ (launchEval s).cabins = s.cabins ∧ (launchEval s).lists = s.lists ∧
    (launchEval s).stu = s.stu ∧ (launchEval s).ltu = s.ltu ∧ (launchEval s).phn = s.phn ∧
    (launchEval s).ssv = s.ssv ∧ (launchEval s).tal = s.tal ∧ (launchEval s).pfs = s.pfs ∧
    (launchEval s).free = s.free ∧ (launchEval s).pending = s.pending ∧ (launchEval s).spt.rx = s.spt.rx ∧
    (launchEval s).spt.stopped = s.spt.stopped ∧ (launchEval s).spt.replies = s.spt.replies ∧
    (launchEval s).spt.badFrames = s.spt.badFrames ∧ (launchEval s).spt.dropRequest = s.spt.dropRequest ∧
    (launchEval s).spt.tx = s.spt.tx ∧ (launchEval s).lkc.rx = s.lkc.rx ∧ (launchEval s).lkc.towers = s.lkc.towers ∧
    (launchEval s).lkc.ownNext = s.lkc.ownNext ∧ (launchEval s).lkc.txCycle = s.lkc.txCycle := by
  generalize h : launchEval s = t
  unfold launchEval at h
  (try dsimp only at h)
  (repeat' split at h) <;> subst h <;> simp

@[simp] theorem holdOn_keeps (x : Cause × Bool × Detail) (s : State) :
    (holdOn x s).pins = s.pins ∧ (holdOn x s).clock = s.clock ∧ (holdOn x s).supply = s.supply ∧
    (holdOn x s).resetCause = s.resetCause ∧ (holdOn x s).loaded = s.loaded ∧ (holdOn x s).rmu = s.rmu ∧
    (holdOn x s).asc = s.asc ∧ (holdOn x s).cabins = s.cabins ∧ (holdOn x s).lists = s.lists ∧
    (holdOn x s).stu = s.stu ∧ (holdOn x s).dru = s.dru ∧ (holdOn x s).lnu = s.lnu ∧ (holdOn x s).ltu = s.ltu ∧
    (holdOn x s).lkc = s.lkc ∧ (holdOn x s).phn = s.phn ∧ (holdOn x s).tal = s.tal ∧ (holdOn x s).pfs = s.pfs ∧
    (holdOn x s).free = s.free ∧ (holdOn x s).pending = s.pending ∧ (holdOn x s).ssv.mode = s.ssv.mode ∧
    (holdOn x s).ssv.restricted = s.ssv.restricted ∧ (holdOn x s).ssv.lastKeep = s.ssv.lastKeep ∧
    (holdOn x s).ssv.deadline = s.ssv.deadline ∧ (holdOn x s).spt.rx = s.spt.rx ∧
    (holdOn x s).spt.stopped = s.spt.stopped ∧ (holdOn x s).spt.replies = s.spt.replies ∧
    (holdOn x s).spt.badFrames = s.spt.badFrames ∧ (holdOn x s).spt.dropRequest = s.spt.dropRequest ∧
    (holdOn x s).spt.tx = s.spt.tx := by
  generalize h : holdOn x s = t
  unfold holdOn at h
  (try dsimp only at h)
  (repeat' split at h) <;> subst h <;> simp

@[simp] theorem holdOff_keeps (x : Cause × Bool × Detail) (s : State) :
    (holdOff x s).pins = s.pins ∧ (holdOff x s).clock = s.clock ∧ (holdOff x s).supply = s.supply ∧
    (holdOff x s).resetCause = s.resetCause ∧ (holdOff x s).loaded = s.loaded ∧ (holdOff x s).rmu = s.rmu ∧
    (holdOff x s).asc = s.asc ∧ (holdOff x s).cabins = s.cabins ∧ (holdOff x s).lists = s.lists ∧
    (holdOff x s).stu = s.stu ∧ (holdOff x s).dru = s.dru ∧ (holdOff x s).lnu = s.lnu ∧ (holdOff x s).ltu = s.ltu ∧
    (holdOff x s).lkc = s.lkc ∧ (holdOff x s).phn = s.phn ∧ (holdOff x s).tal = s.tal ∧ (holdOff x s).pfs = s.pfs ∧
    (holdOff x s).free = s.free ∧ (holdOff x s).pending = s.pending ∧ (holdOff x s).ssv.mode = s.ssv.mode ∧
    (holdOff x s).ssv.restricted = s.ssv.restricted ∧ (holdOff x s).ssv.lastKeep = s.ssv.lastKeep ∧
    (holdOff x s).ssv.deadline = s.ssv.deadline ∧ (holdOff x s).spt.rx = s.spt.rx ∧
    (holdOff x s).spt.stopped = s.spt.stopped ∧ (holdOff x s).spt.replies = s.spt.replies ∧
    (holdOff x s).spt.badFrames = s.spt.badFrames ∧ (holdOff x s).spt.dropRequest = s.spt.dropRequest ∧
    (holdOff x s).spt.tx = s.spt.tx := by
  generalize h : holdOff x s = t
  unfold holdOff at h
  (try dsimp only at h)
  (repeat' split at h) <;> subst h <;> simp

theorem holdOn_fold_keeps (l : List (Cause × Bool × Detail)) (s : State) :
    (l.foldl (fun s x => holdOn x s) s).pins = s.pins ∧ (l.foldl (fun s x => holdOn x s) s).clock = s.clock ∧
    (l.foldl (fun s x => holdOn x s) s).supply = s.supply ∧
    (l.foldl (fun s x => holdOn x s) s).resetCause = s.resetCause ∧
    (l.foldl (fun s x => holdOn x s) s).loaded = s.loaded ∧ (l.foldl (fun s x => holdOn x s) s).rmu = s.rmu ∧
    (l.foldl (fun s x => holdOn x s) s).asc = s.asc ∧ (l.foldl (fun s x => holdOn x s) s).cabins = s.cabins ∧
    (l.foldl (fun s x => holdOn x s) s).lists = s.lists ∧ (l.foldl (fun s x => holdOn x s) s).stu = s.stu ∧
    (l.foldl (fun s x => holdOn x s) s).dru = s.dru ∧ (l.foldl (fun s x => holdOn x s) s).lnu = s.lnu ∧
    (l.foldl (fun s x => holdOn x s) s).ltu = s.ltu ∧ (l.foldl (fun s x => holdOn x s) s).lkc = s.lkc ∧
    (l.foldl (fun s x => holdOn x s) s).phn = s.phn ∧ (l.foldl (fun s x => holdOn x s) s).tal = s.tal ∧
    (l.foldl (fun s x => holdOn x s) s).pfs = s.pfs ∧ (l.foldl (fun s x => holdOn x s) s).free = s.free ∧
    (l.foldl (fun s x => holdOn x s) s).pending = s.pending ∧
    (l.foldl (fun s x => holdOn x s) s).ssv.mode = s.ssv.mode ∧
    (l.foldl (fun s x => holdOn x s) s).ssv.restricted = s.ssv.restricted ∧
    (l.foldl (fun s x => holdOn x s) s).ssv.lastKeep = s.ssv.lastKeep ∧
    (l.foldl (fun s x => holdOn x s) s).ssv.deadline = s.ssv.deadline ∧
    (l.foldl (fun s x => holdOn x s) s).spt.rx = s.spt.rx ∧
    (l.foldl (fun s x => holdOn x s) s).spt.stopped = s.spt.stopped ∧
    (l.foldl (fun s x => holdOn x s) s).spt.replies = s.spt.replies ∧
    (l.foldl (fun s x => holdOn x s) s).spt.badFrames = s.spt.badFrames ∧
    (l.foldl (fun s x => holdOn x s) s).spt.dropRequest = s.spt.dropRequest ∧
    (l.foldl (fun s x => holdOn x s) s).spt.tx = s.spt.tx := by
  induction l generalizing s with
  | nil => simp
  | cons x l ih => simp [ih]

theorem holdOff_fold_keeps (l : List (Cause × Bool × Detail)) (s : State) :
    (l.foldl (fun s x => holdOff x s) s).pins = s.pins ∧ (l.foldl (fun s x => holdOff x s) s).clock = s.clock ∧
    (l.foldl (fun s x => holdOff x s) s).supply = s.supply ∧
    (l.foldl (fun s x => holdOff x s) s).resetCause = s.resetCause ∧
    (l.foldl (fun s x => holdOff x s) s).loaded = s.loaded ∧ (l.foldl (fun s x => holdOff x s) s).rmu = s.rmu ∧
    (l.foldl (fun s x => holdOff x s) s).asc = s.asc ∧ (l.foldl (fun s x => holdOff x s) s).cabins = s.cabins ∧
    (l.foldl (fun s x => holdOff x s) s).lists = s.lists ∧ (l.foldl (fun s x => holdOff x s) s).stu = s.stu ∧
    (l.foldl (fun s x => holdOff x s) s).dru = s.dru ∧ (l.foldl (fun s x => holdOff x s) s).lnu = s.lnu ∧
    (l.foldl (fun s x => holdOff x s) s).ltu = s.ltu ∧ (l.foldl (fun s x => holdOff x s) s).lkc = s.lkc ∧
    (l.foldl (fun s x => holdOff x s) s).phn = s.phn ∧ (l.foldl (fun s x => holdOff x s) s).tal = s.tal ∧
    (l.foldl (fun s x => holdOff x s) s).pfs = s.pfs ∧ (l.foldl (fun s x => holdOff x s) s).free = s.free ∧
    (l.foldl (fun s x => holdOff x s) s).pending = s.pending ∧
    (l.foldl (fun s x => holdOff x s) s).ssv.mode = s.ssv.mode ∧
    (l.foldl (fun s x => holdOff x s) s).ssv.restricted = s.ssv.restricted ∧
    (l.foldl (fun s x => holdOff x s) s).ssv.lastKeep = s.ssv.lastKeep ∧
    (l.foldl (fun s x => holdOff x s) s).ssv.deadline = s.ssv.deadline ∧
    (l.foldl (fun s x => holdOff x s) s).spt.rx = s.spt.rx ∧
    (l.foldl (fun s x => holdOff x s) s).spt.stopped = s.spt.stopped ∧
    (l.foldl (fun s x => holdOff x s) s).spt.replies = s.spt.replies ∧
    (l.foldl (fun s x => holdOff x s) s).spt.badFrames = s.spt.badFrames ∧
    (l.foldl (fun s x => holdOff x s) s).spt.dropRequest = s.spt.dropRequest ∧
    (l.foldl (fun s x => holdOff x s) s).spt.tx = s.spt.tx := by
  induction l generalizing s with
  | nil => simp
  | cons x l ih => simp [ih]

@[simp] theorem holdEval_keeps (s : State) :
    (holdEval s).pins = s.pins ∧ (holdEval s).clock = s.clock ∧ (holdEval s).supply = s.supply ∧
    (holdEval s).resetCause = s.resetCause ∧ (holdEval s).loaded = s.loaded ∧ (holdEval s).rmu = s.rmu ∧
    (holdEval s).asc = s.asc ∧ (holdEval s).cabins = s.cabins ∧ (holdEval s).lists = s.lists ∧
    (holdEval s).stu = s.stu ∧ (holdEval s).dru = s.dru ∧ (holdEval s).ltu = s.ltu ∧ (holdEval s).lkc = s.lkc ∧
    (holdEval s).phn = s.phn ∧ (holdEval s).tal = s.tal ∧ (holdEval s).pfs = s.pfs ∧ (holdEval s).free = s.free ∧
    (holdEval s).pending = s.pending ∧ (holdEval s).ssv.mode = s.ssv.mode ∧
    (holdEval s).ssv.restricted = s.ssv.restricted ∧ (holdEval s).ssv.lastKeep = s.ssv.lastKeep ∧
    (holdEval s).ssv.deadline = s.ssv.deadline ∧ (holdEval s).spt.rx = s.spt.rx ∧
    (holdEval s).spt.stopped = s.spt.stopped ∧ (holdEval s).spt.replies = s.spt.replies ∧
    (holdEval s).spt.badFrames = s.spt.badFrames ∧ (holdEval s).spt.dropRequest = s.spt.dropRequest ∧
    (holdEval s).spt.tx = s.spt.tx := by
  simp [holdEval, holdOn_fold_keeps, holdOff_fold_keeps]

@[simp] theorem holdDistance_keeps (s : State) :
    (holdDistance s).pins = s.pins ∧ (holdDistance s).clock = s.clock ∧ (holdDistance s).supply = s.supply ∧
    (holdDistance s).resetCause = s.resetCause ∧ (holdDistance s).loaded = s.loaded ∧ (holdDistance s).rmu = s.rmu ∧
    (holdDistance s).asc = s.asc ∧ (holdDistance s).cabins = s.cabins ∧ (holdDistance s).lists = s.lists ∧
    (holdDistance s).stu = s.stu ∧ (holdDistance s).dru = s.dru ∧ (holdDistance s).ltu = s.ltu ∧
    (holdDistance s).lkc = s.lkc ∧ (holdDistance s).phn = s.phn ∧ (holdDistance s).tal = s.tal ∧
    (holdDistance s).pfs = s.pfs ∧ (holdDistance s).free = s.free ∧ (holdDistance s).pending = s.pending ∧
    (holdDistance s).ssv.mode = s.ssv.mode ∧ (holdDistance s).ssv.restricted = s.ssv.restricted ∧
    (holdDistance s).ssv.lastKeep = s.ssv.lastKeep ∧ (holdDistance s).ssv.deadline = s.ssv.deadline ∧
    (holdDistance s).spt.rx = s.spt.rx ∧ (holdDistance s).spt.stopped = s.spt.stopped ∧
    (holdDistance s).spt.replies = s.spt.replies ∧ (holdDistance s).spt.badFrames = s.spt.badFrames ∧
    (holdDistance s).spt.dropRequest = s.spt.dropRequest ∧ (holdDistance s).spt.tx = s.spt.tx := by
  generalize h : holdDistance s = t
  unfold holdDistance at h
  (try dsimp only at h)
  (repeat' split at h) <;> subst h <;> simp

@[simp] theorem stuckDistance_keeps (s : State) :
    (stuckDistance s).pins = s.pins ∧ (stuckDistance s).clock = s.clock ∧ (stuckDistance s).supply = s.supply ∧
    (stuckDistance s).resetCause = s.resetCause ∧ (stuckDistance s).loaded = s.loaded ∧
    (stuckDistance s).rmu = s.rmu ∧ (stuckDistance s).asc = s.asc ∧ (stuckDistance s).cabins = s.cabins ∧
    (stuckDistance s).lists = s.lists ∧ (stuckDistance s).stu = s.stu ∧ (stuckDistance s).dru = s.dru ∧
    (stuckDistance s).ltu = s.ltu ∧ (stuckDistance s).lkc = s.lkc ∧ (stuckDistance s).phn = s.phn ∧
    (stuckDistance s).tal = s.tal ∧ (stuckDistance s).pfs = s.pfs ∧ (stuckDistance s).free = s.free ∧
    (stuckDistance s).pending = s.pending ∧ (stuckDistance s).ssv.mode = s.ssv.mode ∧
    (stuckDistance s).ssv.restricted = s.ssv.restricted ∧ (stuckDistance s).ssv.lastKeep = s.ssv.lastKeep ∧
    (stuckDistance s).ssv.deadline = s.ssv.deadline ∧ (stuckDistance s).spt.rx = s.spt.rx ∧
    (stuckDistance s).spt.stopped = s.spt.stopped ∧ (stuckDistance s).spt.replies = s.spt.replies ∧
    (stuckDistance s).spt.badFrames = s.spt.badFrames ∧ (stuckDistance s).spt.dropRequest = s.spt.dropRequest ∧
    (stuckDistance s).spt.tx = s.spt.tx := by
  generalize h : stuckDistance s = t
  unfold stuckDistance at h
  (try dsimp only at h)
  (repeat' split at h) <;> subst h <;> simp

@[simp] theorem raiseInRun_keeps (c : Cause) (d : Detail) (s : State) :
    (raiseInRun c d s).pins = s.pins ∧ (raiseInRun c d s).clock = s.clock ∧ (raiseInRun c d s).supply = s.supply ∧
    (raiseInRun c d s).resetCause = s.resetCause ∧ (raiseInRun c d s).loaded = s.loaded ∧
    (raiseInRun c d s).rmu = s.rmu ∧ (raiseInRun c d s).asc = s.asc ∧ (raiseInRun c d s).cabins = s.cabins ∧
    (raiseInRun c d s).lists = s.lists ∧ (raiseInRun c d s).stu = s.stu ∧ (raiseInRun c d s).dru = s.dru ∧
    (raiseInRun c d s).lnu = s.lnu ∧ (raiseInRun c d s).ltu = s.ltu ∧ (raiseInRun c d s).lkc = s.lkc ∧
    (raiseInRun c d s).phn = s.phn ∧ (raiseInRun c d s).tal = s.tal ∧ (raiseInRun c d s).pfs = s.pfs ∧
    (raiseInRun c d s).free = s.free ∧ (raiseInRun c d s).pending = s.pending ∧
    (raiseInRun c d s).ssv.mode = s.ssv.mode ∧ (raiseInRun c d s).ssv.restricted = s.ssv.restricted ∧
    (raiseInRun c d s).ssv.lastKeep = s.ssv.lastKeep ∧ (raiseInRun c d s).ssv.deadline = s.ssv.deadline ∧
    (raiseInRun c d s).spt.rx = s.spt.rx ∧ (raiseInRun c d s).spt.stopped = s.spt.stopped ∧
    (raiseInRun c d s).spt.replies = s.spt.replies ∧ (raiseInRun c d s).spt.badFrames = s.spt.badFrames ∧
    (raiseInRun c d s).spt.dropRequest = s.spt.dropRequest ∧ (raiseInRun c d s).spt.tx = s.spt.tx := by
  generalize h : raiseInRun c d s = t
  unfold raiseInRun at h
  (try dsimp only at h)
  (repeat' split at h) <;> subst h <;> simp

@[simp] theorem launchLeaves_keeps (f : Flight) (s : State) :
    (launchLeaves f s).pins = s.pins ∧ (launchLeaves f s).clock = s.clock ∧ (launchLeaves f s).supply = s.supply ∧
    (launchLeaves f s).resetCause = s.resetCause ∧ (launchLeaves f s).loaded = s.loaded ∧
    (launchLeaves f s).rmu = s.rmu ∧ (launchLeaves f s).asc = s.asc ∧ (launchLeaves f s).cabins = s.cabins ∧
    (launchLeaves f s).stu = s.stu ∧ (launchLeaves f s).ltu = s.ltu ∧ (launchLeaves f s).lkc = s.lkc ∧
    (launchLeaves f s).phn = s.phn ∧ (launchLeaves f s).ssv = s.ssv ∧ (launchLeaves f s).tal = s.tal ∧
    (launchLeaves f s).pfs = s.pfs ∧ (launchLeaves f s).free = s.free ∧ (launchLeaves f s).pending = s.pending ∧
    (launchLeaves f s).spt.rx = s.spt.rx ∧ (launchLeaves f s).spt.stopped = s.spt.stopped ∧
    (launchLeaves f s).spt.replies = s.spt.replies ∧ (launchLeaves f s).spt.badFrames = s.spt.badFrames ∧
    (launchLeaves f s).spt.dropRequest = s.spt.dropRequest ∧ (launchLeaves f s).spt.tx = s.spt.tx := by
  generalize h : launchLeaves f s = t
  unfold launchLeaves at h
  (try dsimp only at h)
  (repeat' split at h) <;> subst h <;> simp

@[simp] theorem forcedPass_keeps (s : State) :
    (forcedPass s).pins = s.pins ∧ (forcedPass s).clock = s.clock ∧ (forcedPass s).supply = s.supply ∧
    (forcedPass s).resetCause = s.resetCause ∧ (forcedPass s).loaded = s.loaded ∧ (forcedPass s).rmu = s.rmu ∧
    (forcedPass s).asc = s.asc ∧ (forcedPass s).cabins = s.cabins ∧ (forcedPass s).stu = s.stu ∧
    (forcedPass s).dru = s.dru ∧ (forcedPass s).lnu = s.lnu ∧ (forcedPass s).ltu = s.ltu ∧
    (forcedPass s).lkc = s.lkc ∧ (forcedPass s).phn = s.phn ∧ (forcedPass s).tal = s.tal ∧
    (forcedPass s).pfs = s.pfs ∧ (forcedPass s).free = s.free ∧ (forcedPass s).pending = s.pending ∧
    (forcedPass s).ssv.mode = s.ssv.mode ∧ (forcedPass s).ssv.restricted = s.ssv.restricted ∧
    (forcedPass s).ssv.lastKeep = s.ssv.lastKeep ∧ (forcedPass s).ssv.deadline = s.ssv.deadline ∧
    (forcedPass s).spt.rx = s.spt.rx ∧ (forcedPass s).spt.stopped = s.spt.stopped ∧
    (forcedPass s).spt.replies = s.spt.replies ∧ (forcedPass s).spt.badFrames = s.spt.badFrames ∧
    (forcedPass s).spt.dropRequest = s.spt.dropRequest ∧ (forcedPass s).spt.tx = s.spt.tx := by
  generalize h : forcedPass s = t
  unfold forcedPass at h
  (try dsimp only at h)
  (repeat' split at h) <;> subst h <;> simp

@[simp] theorem gateTrailing_keeps (s : State) :
    (gateTrailing s).pins = s.pins ∧ (gateTrailing s).clock = s.clock ∧ (gateTrailing s).supply = s.supply ∧
    (gateTrailing s).resetCause = s.resetCause ∧ (gateTrailing s).loaded = s.loaded ∧ (gateTrailing s).rmu = s.rmu ∧
    (gateTrailing s).asc = s.asc ∧ (gateTrailing s).cabins = s.cabins ∧ (gateTrailing s).stu = s.stu ∧
    (gateTrailing s).ltu = s.ltu ∧ (gateTrailing s).lkc = s.lkc ∧ (gateTrailing s).phn = s.phn ∧
    (gateTrailing s).tal = s.tal ∧ (gateTrailing s).pfs = s.pfs ∧ (gateTrailing s).free = s.free ∧
    (gateTrailing s).pending = s.pending ∧ (gateTrailing s).ssv.mode = s.ssv.mode ∧
    (gateTrailing s).ssv.restricted = s.ssv.restricted ∧ (gateTrailing s).ssv.lastKeep = s.ssv.lastKeep ∧
    (gateTrailing s).ssv.deadline = s.ssv.deadline ∧ (gateTrailing s).spt.rx = s.spt.rx ∧
    (gateTrailing s).spt.stopped = s.spt.stopped ∧ (gateTrailing s).spt.replies = s.spt.replies ∧
    (gateTrailing s).spt.badFrames = s.spt.badFrames ∧ (gateTrailing s).spt.dropRequest = s.spt.dropRequest ∧
    (gateTrailing s).spt.tx = s.spt.tx := by
  generalize h : gateTrailing s = t
  unfold gateTrailing at h
  (try dsimp only at h)
  (repeat' split at h) <;> subst h <;> simp

@[simp] theorem gatePassage_keeps (s : State) :
    (gatePassage s).pins = s.pins ∧ (gatePassage s).clock = s.clock ∧ (gatePassage s).supply = s.supply ∧
    (gatePassage s).resetCause = s.resetCause ∧ (gatePassage s).loaded = s.loaded ∧ (gatePassage s).rmu = s.rmu ∧
    (gatePassage s).asc = s.asc ∧ (gatePassage s).cabins = s.cabins ∧ (gatePassage s).lists = s.lists ∧
    (gatePassage s).stu = s.stu ∧ (gatePassage s).dru = s.dru ∧ (gatePassage s).lnu = s.lnu ∧
    (gatePassage s).ltu = s.ltu ∧ (gatePassage s).lkc = s.lkc ∧ (gatePassage s).phn = s.phn ∧
    (gatePassage s).tal = s.tal ∧ (gatePassage s).pfs = s.pfs ∧ (gatePassage s).free = s.free ∧
    (gatePassage s).pending = s.pending ∧ (gatePassage s).ssv.mode = s.ssv.mode ∧
    (gatePassage s).ssv.restricted = s.ssv.restricted ∧ (gatePassage s).ssv.lastKeep = s.ssv.lastKeep ∧
    (gatePassage s).ssv.deadline = s.ssv.deadline ∧ (gatePassage s).spt.rx = s.spt.rx ∧
    (gatePassage s).spt.stopped = s.spt.stopped ∧ (gatePassage s).spt.replies = s.spt.replies ∧
    (gatePassage s).spt.badFrames = s.spt.badFrames ∧ (gatePassage s).spt.dropRequest = s.spt.dropRequest ∧
    (gatePassage s).spt.tx = s.spt.tx := by
  generalize h : gatePassage s = t
  unfold gatePassage at h
  (try dsimp only at h)
  (repeat' split at h) <;> subst h <;> simp

@[simp] theorem countLaunch_keeps (c : Cabin) (s : State) :
    (countLaunch c s).pins = s.pins ∧ (countLaunch c s).clock = s.clock ∧ (countLaunch c s).supply = s.supply ∧
    (countLaunch c s).resetCause = s.resetCause ∧ (countLaunch c s).loaded = s.loaded ∧
    (countLaunch c s).rmu = s.rmu ∧ (countLaunch c s).asc = s.asc ∧ (countLaunch c s).lists = s.lists ∧
    (countLaunch c s).stu = s.stu ∧ (countLaunch c s).dru = s.dru ∧ (countLaunch c s).lnu = s.lnu ∧
    (countLaunch c s).ltu = s.ltu ∧ (countLaunch c s).lkc = s.lkc ∧ (countLaunch c s).phn = s.phn ∧
    (countLaunch c s).ssv = s.ssv ∧ (countLaunch c s).tal = s.tal ∧ (countLaunch c s).pfs = s.pfs ∧
    (countLaunch c s).free = s.free ∧ (countLaunch c s).pending = s.pending ∧ (countLaunch c s).spt.rx = s.spt.rx ∧
    (countLaunch c s).spt.stopped = s.spt.stopped ∧ (countLaunch c s).spt.replies = s.spt.replies ∧
    (countLaunch c s).spt.badFrames = s.spt.badFrames ∧ (countLaunch c s).spt.dropRequest = s.spt.dropRequest ∧
    (countLaunch c s).spt.tx = s.spt.tx := by
  generalize h : countLaunch c s = t
  unfold countLaunch at h
  (try dsimp only at h)
  (repeat' split at h) <;> subst h <;> simp

@[simp] theorem completeLaunch_keeps (f : Flight) (s : State) :
    (completeLaunch f s).pins = s.pins ∧ (completeLaunch f s).clock = s.clock ∧
    (completeLaunch f s).supply = s.supply ∧ (completeLaunch f s).resetCause = s.resetCause ∧
    (completeLaunch f s).loaded = s.loaded ∧ (completeLaunch f s).rmu = s.rmu ∧ (completeLaunch f s).asc = s.asc ∧
    (completeLaunch f s).stu = s.stu ∧ (completeLaunch f s).dru = s.dru ∧ (completeLaunch f s).ltu = s.ltu ∧
    (completeLaunch f s).phn = s.phn ∧ (completeLaunch f s).ssv = s.ssv ∧ (completeLaunch f s).pfs = s.pfs ∧
    (completeLaunch f s).free = s.free ∧ (completeLaunch f s).pending = s.pending ∧
    (completeLaunch f s).spt.rx = s.spt.rx ∧ (completeLaunch f s).spt.stopped = s.spt.stopped ∧
    (completeLaunch f s).spt.replies = s.spt.replies ∧ (completeLaunch f s).spt.badFrames = s.spt.badFrames ∧
    (completeLaunch f s).spt.dropRequest = s.spt.dropRequest ∧ (completeLaunch f s).spt.tx = s.spt.tx ∧
    (completeLaunch f s).lkc.rx = s.lkc.rx ∧ (completeLaunch f s).lkc.towers = s.lkc.towers ∧
    (completeLaunch f s).lkc.ownNext = s.lkc.ownNext ∧ (completeLaunch f s).lkc.txCycle = s.lkc.txCycle := by
  generalize h : completeLaunch f s = t
  unfold completeLaunch at h
  (try dsimp only at h)
  (repeat' split at h) <;> subst h <;> simp

@[simp] theorem untrackedPass_keeps (s : State) :
    (untrackedPass s).pins = s.pins ∧ (untrackedPass s).clock = s.clock ∧ (untrackedPass s).supply = s.supply ∧
    (untrackedPass s).resetCause = s.resetCause ∧ (untrackedPass s).loaded = s.loaded ∧
    (untrackedPass s).rmu = s.rmu ∧ (untrackedPass s).asc = s.asc ∧ (untrackedPass s).stu = s.stu ∧
    (untrackedPass s).dru = s.dru ∧ (untrackedPass s).lnu = s.lnu ∧ (untrackedPass s).ltu = s.ltu ∧
    (untrackedPass s).lkc = s.lkc ∧ (untrackedPass s).phn = s.phn ∧ (untrackedPass s).tal = s.tal ∧
    (untrackedPass s).pfs = s.pfs ∧ (untrackedPass s).free = s.free ∧ (untrackedPass s).pending = s.pending ∧
    (untrackedPass s).ssv.mode = s.ssv.mode ∧ (untrackedPass s).ssv.restricted = s.ssv.restricted ∧
    (untrackedPass s).ssv.lastKeep = s.ssv.lastKeep ∧ (untrackedPass s).ssv.deadline = s.ssv.deadline ∧
    (untrackedPass s).spt.rx = s.spt.rx ∧ (untrackedPass s).spt.stopped = s.spt.stopped ∧
    (untrackedPass s).spt.replies = s.spt.replies ∧ (untrackedPass s).spt.badFrames = s.spt.badFrames ∧
    (untrackedPass s).spt.dropRequest = s.spt.dropRequest ∧ (untrackedPass s).spt.tx = s.spt.tx := by
  generalize h : untrackedPass s = t
  unfold untrackedPass at h
  (try dsimp only at h)
  (repeat' split at h) <;> subst h <;> simp

@[simp] theorem attPassage_keeps (s : State) :
    (attPassage s).pins = s.pins ∧ (attPassage s).clock = s.clock ∧ (attPassage s).supply = s.supply ∧
    (attPassage s).resetCause = s.resetCause ∧ (attPassage s).loaded = s.loaded ∧ (attPassage s).rmu = s.rmu ∧
    (attPassage s).asc = s.asc ∧ (attPassage s).stu = s.stu ∧ (attPassage s).dru = s.dru ∧
    (attPassage s).ltu = s.ltu ∧ (attPassage s).phn = s.phn ∧ (attPassage s).pfs = s.pfs ∧
    (attPassage s).free = s.free ∧ (attPassage s).pending = s.pending ∧ (attPassage s).ssv.mode = s.ssv.mode ∧
    (attPassage s).ssv.restricted = s.ssv.restricted ∧ (attPassage s).ssv.lastKeep = s.ssv.lastKeep ∧
    (attPassage s).ssv.deadline = s.ssv.deadline ∧ (attPassage s).spt.rx = s.spt.rx ∧
    (attPassage s).spt.stopped = s.spt.stopped ∧ (attPassage s).spt.replies = s.spt.replies ∧
    (attPassage s).spt.badFrames = s.spt.badFrames ∧ (attPassage s).spt.dropRequest = s.spt.dropRequest ∧
    (attPassage s).spt.tx = s.spt.tx ∧ (attPassage s).lkc.rx = s.lkc.rx ∧ (attPassage s).lkc.towers = s.lkc.towers ∧
    (attPassage s).lkc.ownNext = s.lkc.ownNext ∧ (attPassage s).lkc.txCycle = s.lkc.txCycle := by
  generalize h : attPassage s = t
  unfold attPassage at h
  (try dsimp only at h)
  (repeat' split at h) <;> subst h <;> simp

end Sys2Proof.Machine
end

