-- ==== Sys2Proof/Laws/Track.lean ====
section
/-! SUPPORT. What each operation of the Station Track Unit leaves unchanged: every field of the state that it does not write. -/

-- One lemma after the other: side by side, their proofs need more memory in the joined text than the check has.
set_option Elab.async false

namespace Sys2Proof.Machine

@[simp] theorem putInput_keeps (i : StationInput) (level : Bool) (s : State) :
    (putInput i level s).pins = s.pins ∧ (putInput i level s).clock = s.clock ∧
    (putInput i level s).supply = s.supply ∧ (putInput i level s).resetCause = s.resetCause ∧
    (putInput i level s).loaded = s.loaded ∧ (putInput i level s).rmu = s.rmu ∧ (putInput i level s).asc = s.asc ∧
    (putInput i level s).cabins = s.cabins ∧ (putInput i level s).lists = s.lists ∧
    (putInput i level s).dru = s.dru ∧ (putInput i level s).lnu = s.lnu ∧ (putInput i level s).ltu = s.ltu ∧
    (putInput i level s).lkc = s.lkc ∧ (putInput i level s).phn = s.phn ∧ (putInput i level s).ssv = s.ssv ∧
    (putInput i level s).tal = s.tal ∧ (putInput i level s).spt = s.spt ∧ (putInput i level s).pfs = s.pfs ∧
    (putInput i level s).free = s.free ∧ (putInput i level s).pending = s.pending := by
  generalize h : putInput i level s = t
  unfold putInput at h
  (try dsimp only at h)
  (repeat' split at h) <;> subst h <;> simp

@[simp] theorem passageAt_keeps (i : StationInput) (s : State) :
    (passageAt i s).pins = s.pins ∧ (passageAt i s).clock = s.clock ∧ (passageAt i s).supply = s.supply ∧
    (passageAt i s).resetCause = s.resetCause ∧ (passageAt i s).loaded = s.loaded ∧ (passageAt i s).rmu = s.rmu ∧
    (passageAt i s).asc = s.asc ∧ (passageAt i s).cabins = s.cabins ∧ (passageAt i s).lists = s.lists ∧
    (passageAt i s).dru = s.dru ∧ (passageAt i s).lnu = s.lnu ∧ (passageAt i s).ltu = s.ltu ∧
    (passageAt i s).lkc = s.lkc ∧ (passageAt i s).phn = s.phn ∧ (passageAt i s).ssv = s.ssv ∧
    (passageAt i s).pfs = s.pfs ∧ (passageAt i s).free = s.free ∧ (passageAt i s).pending = s.pending ∧
    (passageAt i s).spt.rx = s.spt.rx ∧ (passageAt i s).spt.stopped = s.spt.stopped ∧
    (passageAt i s).spt.replies = s.spt.replies ∧ (passageAt i s).spt.badFrames = s.spt.badFrames ∧
    (passageAt i s).spt.dropRequest = s.spt.dropRequest ∧ (passageAt i s).spt.tx = s.spt.tx := by
  generalize h : passageAt i s = t
  unfold passageAt at h
  (try dsimp only at h)
  (repeat' split at h) <;> subst h <;> simp

@[simp] theorem markThrow_keeps (s : State) :
    (markThrow s).pins = s.pins ∧ (markThrow s).clock = s.clock ∧ (markThrow s).supply = s.supply ∧
    (markThrow s).resetCause = s.resetCause ∧ (markThrow s).loaded = s.loaded ∧ (markThrow s).rmu = s.rmu ∧
    (markThrow s).asc = s.asc ∧ (markThrow s).cabins = s.cabins ∧ (markThrow s).lists = s.lists ∧
    (markThrow s).dru = s.dru ∧ (markThrow s).lnu = s.lnu ∧ (markThrow s).ltu = s.ltu ∧ (markThrow s).lkc = s.lkc ∧
    (markThrow s).phn = s.phn ∧ (markThrow s).ssv = s.ssv ∧ (markThrow s).tal = s.tal ∧ (markThrow s).spt = s.spt ∧
    (markThrow s).pfs = s.pfs ∧ (markThrow s).free = s.free ∧ (markThrow s).pending = s.pending := by
  generalize h : markThrow s = t
  unfold markThrow at h
  (try dsimp only at h)
  (repeat' split at h) <;> subst h <;> simp

@[simp] theorem throwEval_keeps (s : State) :
    (throwEval s).pins = s.pins ∧ (throwEval s).clock = s.clock ∧ (throwEval s).supply = s.supply ∧
    (throwEval s).resetCause = s.resetCause ∧ (throwEval s).loaded = s.loaded ∧ (throwEval s).rmu = s.rmu ∧
    (throwEval s).asc = s.asc ∧ (throwEval s).cabins = s.cabins ∧ (throwEval s).lists = s.lists ∧
    (throwEval s).lnu = s.lnu ∧ (throwEval s).ltu = s.ltu ∧ (throwEval s).lkc = s.lkc ∧ (throwEval s).phn = s.phn ∧
    (throwEval s).ssv = s.ssv ∧ (throwEval s).tal = s.tal ∧ (throwEval s).pfs = s.pfs ∧ (throwEval s).free = s.free ∧
    (throwEval s).pending = s.pending ∧ (throwEval s).spt.rx = s.spt.rx ∧ (throwEval s).spt.stopped = s.spt.stopped ∧
    (throwEval s).spt.replies = s.spt.replies ∧ (throwEval s).spt.badFrames = s.spt.badFrames ∧
    (throwEval s).spt.dropRequest = s.spt.dropRequest ∧ (throwEval s).spt.tx = s.spt.tx := by
  generalize h : throwEval s = t
  unfold throwEval at h
  (try dsimp only at h)
  (repeat' split at h) <;> subst h <;> simp

@[simp] theorem routeCompute_keeps (s : State) :
    (routeCompute s).pins = s.pins ∧ (routeCompute s).clock = s.clock ∧ (routeCompute s).supply = s.supply ∧
    (routeCompute s).resetCause = s.resetCause ∧ (routeCompute s).loaded = s.loaded ∧ (routeCompute s).rmu = s.rmu ∧
    (routeCompute s).asc = s.asc ∧ (routeCompute s).cabins = s.cabins ∧ (routeCompute s).lists = s.lists ∧
    (routeCompute s).lnu = s.lnu ∧ (routeCompute s).ltu = s.ltu ∧ (routeCompute s).lkc = s.lkc ∧
    (routeCompute s).phn = s.phn ∧ (routeCompute s).ssv = s.ssv ∧ (routeCompute s).tal = s.tal ∧
    (routeCompute s).pfs = s.pfs ∧ (routeCompute s).free = s.free ∧ (routeCompute s).pending = s.pending ∧
    (routeCompute s).spt.rx = s.spt.rx ∧ (routeCompute s).spt.stopped = s.spt.stopped ∧
    (routeCompute s).spt.replies = s.spt.replies ∧ (routeCompute s).spt.badFrames = s.spt.badFrames ∧
    (routeCompute s).spt.dropRequest = s.spt.dropRequest ∧ (routeCompute s).spt.tx = s.spt.tx := by
  generalize h : routeCompute s = t
  unfold routeCompute at h
  (try dsimp only at h)
  (repeat' split at h) <;> subst h <;> simp

@[simp] theorem routeDiscard_keeps (s : State) :
    (routeDiscard s).pins = s.pins ∧ (routeDiscard s).clock = s.clock ∧ (routeDiscard s).supply = s.supply ∧
    (routeDiscard s).resetCause = s.resetCause ∧ (routeDiscard s).loaded = s.loaded ∧ (routeDiscard s).rmu = s.rmu ∧
    (routeDiscard s).asc = s.asc ∧ (routeDiscard s).cabins = s.cabins ∧ (routeDiscard s).lists = s.lists ∧
    (routeDiscard s).dru = s.dru ∧ (routeDiscard s).lnu = s.lnu ∧ (routeDiscard s).ltu = s.ltu ∧
    (routeDiscard s).lkc = s.lkc ∧ (routeDiscard s).phn = s.phn ∧ (routeDiscard s).ssv = s.ssv ∧
    (routeDiscard s).tal = s.tal ∧ (routeDiscard s).spt = s.spt ∧ (routeDiscard s).pfs = s.pfs ∧
    (routeDiscard s).free = s.free ∧ (routeDiscard s).pending = s.pending := by
  generalize h : routeDiscard s = t
  unfold routeDiscard at h
  (try dsimp only at h)
  (repeat' split at h) <;> subst h <;> simp

@[simp] theorem createOrRaise_keeps (g : Segment) (atGate : Bool) (s : State) :
    (createOrRaise g atGate s).pins = s.pins ∧ (createOrRaise g atGate s).clock = s.clock ∧
    (createOrRaise g atGate s).supply = s.supply ∧ (createOrRaise g atGate s).resetCause = s.resetCause ∧
    (createOrRaise g atGate s).loaded = s.loaded ∧ (createOrRaise g atGate s).rmu = s.rmu ∧
    (createOrRaise g atGate s).asc = s.asc ∧ (createOrRaise g atGate s).cabins = s.cabins ∧
    (createOrRaise g atGate s).dru = s.dru ∧ (createOrRaise g atGate s).lnu = s.lnu ∧
    (createOrRaise g atGate s).ltu = s.ltu ∧ (createOrRaise g atGate s).lkc = s.lkc ∧
    (createOrRaise g atGate s).phn = s.phn ∧ (createOrRaise g atGate s).tal = s.tal ∧
    (createOrRaise g atGate s).pfs = s.pfs ∧ (createOrRaise g atGate s).free = s.free ∧
    (createOrRaise g atGate s).pending = s.pending ∧ (createOrRaise g atGate s).ssv.mode = s.ssv.mode ∧
    (createOrRaise g atGate s).ssv.restricted = s.ssv.restricted ∧
    (createOrRaise g atGate s).ssv.lastKeep = s.ssv.lastKeep ∧
    (createOrRaise g atGate s).ssv.deadline = s.ssv.deadline ∧ (createOrRaise g atGate s).spt.rx = s.spt.rx ∧
    (createOrRaise g atGate s).spt.stopped = s.spt.stopped ∧ (createOrRaise g atGate s).spt.replies = s.spt.replies ∧
    (createOrRaise g atGate s).spt.badFrames = s.spt.badFrames ∧
    (createOrRaise g atGate s).spt.dropRequest = s.spt.dropRequest ∧ (createOrRaise g atGate s).spt.tx = s.spt.tx := by
  generalize h : createOrRaise g atGate s = t
  unfold createOrRaise at h
  (try dsimp only at h)
  (repeat' split at h) <;> subst h <;> simp

@[simp] theorem advance_keeps (src dst : Segment) (s : State) :
    (advance src dst s).1.pins = s.pins ∧ (advance src dst s).1.clock = s.clock ∧
    (advance src dst s).1.supply = s.supply ∧ (advance src dst s).1.resetCause = s.resetCause ∧
    (advance src dst s).1.loaded = s.loaded ∧ (advance src dst s).1.rmu = s.rmu ∧ (advance src dst s).1.asc = s.asc ∧
    (advance src dst s).1.cabins = s.cabins ∧ (advance src dst s).1.dru = s.dru ∧ (advance src dst s).1.lnu = s.lnu ∧
    (advance src dst s).1.ltu = s.ltu ∧ (advance src dst s).1.lkc = s.lkc ∧ (advance src dst s).1.phn = s.phn ∧
    (advance src dst s).1.tal = s.tal ∧ (advance src dst s).1.pfs = s.pfs ∧ (advance src dst s).1.free = s.free ∧
    (advance src dst s).1.pending = s.pending ∧ (advance src dst s).1.ssv.mode = s.ssv.mode ∧
    (advance src dst s).1.ssv.restricted = s.ssv.restricted ∧ (advance src dst s).1.ssv.lastKeep = s.ssv.lastKeep ∧
    (advance src dst s).1.ssv.deadline = s.ssv.deadline ∧ (advance src dst s).1.spt.rx = s.spt.rx ∧
    (advance src dst s).1.spt.stopped = s.spt.stopped ∧ (advance src dst s).1.spt.replies = s.spt.replies ∧
    (advance src dst s).1.spt.badFrames = s.spt.badFrames ∧
    (advance src dst s).1.spt.dropRequest = s.spt.dropRequest ∧ (advance src dst s).1.spt.tx = s.spt.tx := by
  generalize h : advance src dst s = t
  unfold advance at h
  (try dsimp only at h)
  (repeat' split at h) <;> subst h <;> simp

@[simp] theorem opnPassage_keeps (s : State) :
    (opnPassage s).pins = s.pins ∧ (opnPassage s).clock = s.clock ∧ (opnPassage s).supply = s.supply ∧
    (opnPassage s).resetCause = s.resetCause ∧ (opnPassage s).loaded = s.loaded ∧ (opnPassage s).rmu = s.rmu ∧
    (opnPassage s).asc = s.asc ∧ (opnPassage s).lnu = s.lnu ∧ (opnPassage s).ltu = s.ltu ∧
    (opnPassage s).lkc = s.lkc ∧ (opnPassage s).phn = s.phn ∧ (opnPassage s).tal = s.tal ∧
    (opnPassage s).pfs = s.pfs ∧ (opnPassage s).free = s.free ∧ (opnPassage s).pending = s.pending ∧
    (opnPassage s).ssv.mode = s.ssv.mode ∧ (opnPassage s).ssv.restricted = s.ssv.restricted ∧
    (opnPassage s).ssv.lastKeep = s.ssv.lastKeep ∧ (opnPassage s).ssv.deadline = s.ssv.deadline ∧
    (opnPassage s).spt.rx = s.spt.rx ∧ (opnPassage s).spt.stopped = s.spt.stopped ∧
    (opnPassage s).spt.replies = s.spt.replies ∧ (opnPassage s).spt.badFrames = s.spt.badFrames ∧
    (opnPassage s).spt.dropRequest = s.spt.dropRequest ∧ (opnPassage s).spt.tx = s.spt.tx := by
  generalize h : opnPassage s = t
  have k := advance_keeps .opn .cls s
  unfold opnPassage at h
  generalize advance .opn .cls s = x at h k
  obtain ⟨u, p⟩ := x
  (repeat' split at h) <;> subst h <;> simp_all

@[simp] theorem clsPassage_keeps (s : State) :
    (clsPassage s).pins = s.pins ∧ (clsPassage s).clock = s.clock ∧ (clsPassage s).supply = s.supply ∧
    (clsPassage s).resetCause = s.resetCause ∧ (clsPassage s).loaded = s.loaded ∧ (clsPassage s).rmu = s.rmu ∧
    (clsPassage s).asc = s.asc ∧ (clsPassage s).lnu = s.lnu ∧ (clsPassage s).ltu = s.ltu ∧
    (clsPassage s).lkc = s.lkc ∧ (clsPassage s).phn = s.phn ∧ (clsPassage s).tal = s.tal ∧
    (clsPassage s).pfs = s.pfs ∧ (clsPassage s).free = s.free ∧ (clsPassage s).pending = s.pending ∧
    (clsPassage s).ssv.mode = s.ssv.mode ∧ (clsPassage s).ssv.restricted = s.ssv.restricted ∧
    (clsPassage s).ssv.lastKeep = s.ssv.lastKeep ∧ (clsPassage s).ssv.deadline = s.ssv.deadline ∧
    (clsPassage s).spt.rx = s.spt.rx ∧ (clsPassage s).spt.stopped = s.spt.stopped ∧
    (clsPassage s).spt.replies = s.spt.replies ∧ (clsPassage s).spt.badFrames = s.spt.badFrames ∧
    (clsPassage s).spt.dropRequest = s.spt.dropRequest ∧ (clsPassage s).spt.tx = s.spt.tx := by
  generalize h : clsPassage s = t
  have k := advance_keeps .cls .lck s
  unfold clsPassage at h
  generalize advance .cls .lck s = x at h k
  obtain ⟨u, p⟩ := x
  (repeat' split at h) <;> subst h <;> simp_all

@[simp] theorem lckPassage_keeps (s : State) :
    (lckPassage s).pins = s.pins ∧ (lckPassage s).clock = s.clock ∧ (lckPassage s).supply = s.supply ∧
    (lckPassage s).resetCause = s.resetCause ∧ (lckPassage s).loaded = s.loaded ∧ (lckPassage s).rmu = s.rmu ∧
    (lckPassage s).asc = s.asc ∧ (lckPassage s).dru = s.dru ∧ (lckPassage s).lnu = s.lnu ∧
    (lckPassage s).ltu = s.ltu ∧ (lckPassage s).lkc = s.lkc ∧ (lckPassage s).phn = s.phn ∧
    (lckPassage s).tal = s.tal ∧ (lckPassage s).pfs = s.pfs ∧ (lckPassage s).free = s.free ∧
    (lckPassage s).pending = s.pending ∧ (lckPassage s).ssv.mode = s.ssv.mode ∧
    (lckPassage s).ssv.restricted = s.ssv.restricted ∧ (lckPassage s).ssv.lastKeep = s.ssv.lastKeep ∧
    (lckPassage s).ssv.deadline = s.ssv.deadline ∧ (lckPassage s).spt.rx = s.spt.rx ∧
    (lckPassage s).spt.stopped = s.spt.stopped ∧ (lckPassage s).spt.replies = s.spt.replies ∧
    (lckPassage s).spt.badFrames = s.spt.badFrames ∧ (lckPassage s).spt.dropRequest = s.spt.dropRequest ∧
    (lckPassage s).spt.tx = s.spt.tx := by
  generalize h : lckPassage s = t
  have k := advance_keeps .lck .grp s
  unfold lckPassage at h
  generalize advance .lck .grp s = x at h k
  obtain ⟨u, p⟩ := x
  (repeat' split at h) <;> subst h <;> simp_all

@[simp] theorem grpPassage_keeps (s : State) :
    (grpPassage s).pins = s.pins ∧ (grpPassage s).clock = s.clock ∧ (grpPassage s).supply = s.supply ∧
    (grpPassage s).resetCause = s.resetCause ∧ (grpPassage s).loaded = s.loaded ∧ (grpPassage s).rmu = s.rmu ∧
    (grpPassage s).asc = s.asc ∧ (grpPassage s).dru = s.dru ∧ (grpPassage s).ltu = s.ltu ∧
    (grpPassage s).lkc = s.lkc ∧ (grpPassage s).phn = s.phn ∧ (grpPassage s).pfs = s.pfs ∧
    (grpPassage s).free = s.free ∧ (grpPassage s).pending = s.pending ∧ (grpPassage s).ssv.mode = s.ssv.mode ∧
    (grpPassage s).ssv.restricted = s.ssv.restricted ∧ (grpPassage s).ssv.lastKeep = s.ssv.lastKeep ∧
    (grpPassage s).ssv.deadline = s.ssv.deadline ∧ (grpPassage s).spt.rx = s.spt.rx ∧
    (grpPassage s).spt.stopped = s.spt.stopped ∧ (grpPassage s).spt.replies = s.spt.replies ∧
    (grpPassage s).spt.badFrames = s.spt.badFrames ∧ (grpPassage s).spt.dropRequest = s.spt.dropRequest ∧
    (grpPassage s).spt.tx = s.spt.tx := by
  generalize h : grpPassage s = t
  have k := advance_keeps .grp .gat s
  unfold grpPassage at h
  generalize advance .grp .gat s = x at h k
  obtain ⟨u, p⟩ := x
  (repeat' split at h) <;> subst h <;> simp_all

@[simp] theorem gatPassage_keeps (s : State) :
    (gatPassage s).pins = s.pins ∧ (gatPassage s).clock = s.clock ∧ (gatPassage s).supply = s.supply ∧
    (gatPassage s).resetCause = s.resetCause ∧ (gatPassage s).loaded = s.loaded ∧ (gatPassage s).rmu = s.rmu ∧
    (gatPassage s).asc = s.asc ∧ (gatPassage s).cabins = s.cabins ∧ (gatPassage s).dru = s.dru ∧
    (gatPassage s).lnu = s.lnu ∧ (gatPassage s).ltu = s.ltu ∧ (gatPassage s).lkc = s.lkc ∧
    (gatPassage s).phn = s.phn ∧ (gatPassage s).tal = s.tal ∧ (gatPassage s).pfs = s.pfs ∧
    (gatPassage s).free = s.free ∧ (gatPassage s).pending = s.pending ∧ (gatPassage s).ssv.mode = s.ssv.mode ∧
    (gatPassage s).ssv.restricted = s.ssv.restricted ∧ (gatPassage s).ssv.lastKeep = s.ssv.lastKeep ∧
    (gatPassage s).ssv.deadline = s.ssv.deadline ∧ (gatPassage s).spt.rx = s.spt.rx ∧
    (gatPassage s).spt.stopped = s.spt.stopped ∧ (gatPassage s).spt.replies = s.spt.replies ∧
    (gatPassage s).spt.badFrames = s.spt.badFrames ∧ (gatPassage s).spt.dropRequest = s.spt.dropRequest ∧
    (gatPassage s).spt.tx = s.spt.tx := by
  generalize h : gatPassage s = t
  unfold gatPassage at h
  (try dsimp only at h)
  (repeat' split at h) <;> subst h <;> simp

@[simp] theorem intoStorage_keeps (c : Cabin) (s : State) :
    (intoStorage c s).pins = s.pins ∧ (intoStorage c s).clock = s.clock ∧ (intoStorage c s).supply = s.supply ∧
    (intoStorage c s).resetCause = s.resetCause ∧ (intoStorage c s).loaded = s.loaded ∧
    (intoStorage c s).rmu = s.rmu ∧ (intoStorage c s).asc = s.asc ∧ (intoStorage c s).stu = s.stu ∧
    (intoStorage c s).dru = s.dru ∧ (intoStorage c s).lnu = s.lnu ∧ (intoStorage c s).ltu = s.ltu ∧
    (intoStorage c s).lkc = s.lkc ∧ (intoStorage c s).phn = s.phn ∧ (intoStorage c s).ssv = s.ssv ∧
    (intoStorage c s).tal = s.tal ∧ (intoStorage c s).spt = s.spt ∧ (intoStorage c s).pfs = s.pfs ∧
    (intoStorage c s).free = s.free ∧ (intoStorage c s).pending = s.pending := by
  generalize h : intoStorage c s = t
  unfold intoStorage at h
  (try dsimp only at h)
  (repeat' split at h) <;> subst h <;> simp

@[simp] theorem stiPassage_keeps (s : State) :
    (stiPassage s).pins = s.pins ∧ (stiPassage s).clock = s.clock ∧ (stiPassage s).supply = s.supply ∧
    (stiPassage s).resetCause = s.resetCause ∧ (stiPassage s).loaded = s.loaded ∧ (stiPassage s).rmu = s.rmu ∧
    (stiPassage s).asc = s.asc ∧ (stiPassage s).stu = s.stu ∧ (stiPassage s).dru = s.dru ∧
    (stiPassage s).lnu = s.lnu ∧ (stiPassage s).ltu = s.ltu ∧ (stiPassage s).lkc = s.lkc ∧
    (stiPassage s).phn = s.phn ∧ (stiPassage s).tal = s.tal ∧ (stiPassage s).pfs = s.pfs ∧
    (stiPassage s).free = s.free ∧ (stiPassage s).pending = s.pending ∧ (stiPassage s).ssv.mode = s.ssv.mode ∧
    (stiPassage s).ssv.restricted = s.ssv.restricted ∧ (stiPassage s).ssv.lastKeep = s.ssv.lastKeep ∧
    (stiPassage s).ssv.deadline = s.ssv.deadline ∧ (stiPassage s).spt.rx = s.spt.rx ∧
    (stiPassage s).spt.stopped = s.spt.stopped ∧ (stiPassage s).spt.replies = s.spt.replies ∧
    (stiPassage s).spt.badFrames = s.spt.badFrames ∧ (stiPassage s).spt.dropRequest = s.spt.dropRequest ∧
    (stiPassage s).spt.tx = s.spt.tx := by
  generalize h : stiPassage s = t
  unfold stiPassage at h
  (try dsimp only at h)
  (repeat' split at h) <;> subst h <;> simp

@[simp] theorem endRelease_keeps (s : State) :
    (endRelease s).pins = s.pins ∧ (endRelease s).clock = s.clock ∧ (endRelease s).supply = s.supply ∧
    (endRelease s).resetCause = s.resetCause ∧ (endRelease s).loaded = s.loaded ∧ (endRelease s).rmu = s.rmu ∧
    (endRelease s).asc = s.asc ∧ (endRelease s).cabins = s.cabins ∧ (endRelease s).lists = s.lists ∧
    (endRelease s).dru = s.dru ∧ (endRelease s).lnu = s.lnu ∧ (endRelease s).ltu = s.ltu ∧
    (endRelease s).lkc = s.lkc ∧ (endRelease s).phn = s.phn ∧ (endRelease s).ssv = s.ssv ∧
    (endRelease s).tal = s.tal ∧ (endRelease s).spt = s.spt ∧ (endRelease s).pfs = s.pfs ∧
    (endRelease s).free = s.free ∧ (endRelease s).pending = s.pending := by
  generalize h : endRelease s = t
  unfold endRelease at h
  (try dsimp only at h)
  (repeat' split at h) <;> subst h <;> simp

@[simp] theorem storageToStation_keeps (s : State) :
    (storageToStation s).pins = s.pins ∧ (storageToStation s).clock = s.clock ∧
    (storageToStation s).supply = s.supply ∧ (storageToStation s).resetCause = s.resetCause ∧
    (storageToStation s).loaded = s.loaded ∧ (storageToStation s).rmu = s.rmu ∧ (storageToStation s).asc = s.asc ∧
    (storageToStation s).dru = s.dru ∧ (storageToStation s).lnu = s.lnu ∧ (storageToStation s).ltu = s.ltu ∧
    (storageToStation s).lkc = s.lkc ∧ (storageToStation s).phn = s.phn ∧ (storageToStation s).ssv = s.ssv ∧
    (storageToStation s).tal = s.tal ∧ (storageToStation s).spt = s.spt ∧ (storageToStation s).pfs = s.pfs ∧
    (storageToStation s).free = s.free ∧ (storageToStation s).pending = s.pending := by
  generalize h : storageToStation s = t
  unfold storageToStation at h
  (try dsimp only at h)
  (repeat' split at h) <;> subst h <;> simp

@[simp] theorem stmPassage_keeps (s : State) :
    (stmPassage s).pins = s.pins ∧ (stmPassage s).clock = s.clock ∧ (stmPassage s).supply = s.supply ∧
    (stmPassage s).resetCause = s.resetCause ∧ (stmPassage s).loaded = s.loaded ∧ (stmPassage s).rmu = s.rmu ∧
    (stmPassage s).asc = s.asc ∧ (stmPassage s).lnu = s.lnu ∧ (stmPassage s).ltu = s.ltu ∧
    (stmPassage s).lkc = s.lkc ∧ (stmPassage s).phn = s.phn ∧ (stmPassage s).tal = s.tal ∧
    (stmPassage s).pfs = s.pfs ∧ (stmPassage s).free = s.free ∧ (stmPassage s).pending = s.pending ∧
    (stmPassage s).ssv.mode = s.ssv.mode ∧ (stmPassage s).ssv.restricted = s.ssv.restricted ∧
    (stmPassage s).ssv.lastKeep = s.ssv.lastKeep ∧ (stmPassage s).ssv.deadline = s.ssv.deadline ∧
    (stmPassage s).spt.rx = s.spt.rx ∧ (stmPassage s).spt.stopped = s.spt.stopped ∧
    (stmPassage s).spt.replies = s.spt.replies ∧ (stmPassage s).spt.badFrames = s.spt.badFrames ∧
    (stmPassage s).spt.dropRequest = s.spt.dropRequest ∧ (stmPassage s).spt.tx = s.spt.tx := by
  generalize h : stmPassage s = t
  unfold stmPassage at h
  (try dsimp only at h)
  (repeat' split at h) <;> subst h <;> simp

@[simp] theorem releaseDistance_keeps (s : State) :
    (releaseDistance s).pins = s.pins ∧ (releaseDistance s).clock = s.clock ∧ (releaseDistance s).supply = s.supply ∧
    (releaseDistance s).resetCause = s.resetCause ∧ (releaseDistance s).loaded = s.loaded ∧
    (releaseDistance s).rmu = s.rmu ∧ (releaseDistance s).asc = s.asc ∧ (releaseDistance s).cabins = s.cabins ∧
    (releaseDistance s).lists = s.lists ∧ (releaseDistance s).lnu = s.lnu ∧ (releaseDistance s).ltu = s.ltu ∧
    (releaseDistance s).lkc = s.lkc ∧ (releaseDistance s).phn = s.phn ∧ (releaseDistance s).tal = s.tal ∧
    (releaseDistance s).pfs = s.pfs ∧ (releaseDistance s).free = s.free ∧ (releaseDistance s).pending = s.pending ∧
    (releaseDistance s).ssv.mode = s.ssv.mode ∧ (releaseDistance s).ssv.restricted = s.ssv.restricted ∧
    (releaseDistance s).ssv.lastKeep = s.ssv.lastKeep ∧ (releaseDistance s).ssv.deadline = s.ssv.deadline ∧
    (releaseDistance s).spt.rx = s.spt.rx ∧ (releaseDistance s).spt.stopped = s.spt.stopped ∧
    (releaseDistance s).spt.replies = s.spt.replies ∧ (releaseDistance s).spt.badFrames = s.spt.badFrames ∧
    (releaseDistance s).spt.dropRequest = s.spt.dropRequest ∧ (releaseDistance s).spt.tx = s.spt.tx := by
  generalize h : releaseDistance s = t
  unfold releaseDistance at h
  (try dsimp only at h)
  (repeat' split at h) <;> subst h <;> simp

@[simp] theorem consumeLatch_keeps (s : State) :
    (consumeLatch s).pins = s.pins ∧ (consumeLatch s).clock = s.clock ∧ (consumeLatch s).supply = s.supply ∧
    (consumeLatch s).resetCause = s.resetCause ∧ (consumeLatch s).loaded = s.loaded ∧ (consumeLatch s).rmu = s.rmu ∧
    (consumeLatch s).asc = s.asc ∧ (consumeLatch s).cabins = s.cabins ∧ (consumeLatch s).lists = s.lists ∧
    (consumeLatch s).dru = s.dru ∧ (consumeLatch s).lnu = s.lnu ∧ (consumeLatch s).ltu = s.ltu ∧
    (consumeLatch s).lkc = s.lkc ∧ (consumeLatch s).phn = s.phn ∧ (consumeLatch s).ssv = s.ssv ∧
    (consumeLatch s).pfs = s.pfs ∧ (consumeLatch s).free = s.free ∧ (consumeLatch s).pending = s.pending ∧
    (consumeLatch s).spt.rx = s.spt.rx ∧ (consumeLatch s).spt.stopped = s.spt.stopped ∧
    (consumeLatch s).spt.replies = s.spt.replies ∧ (consumeLatch s).spt.badFrames = s.spt.badFrames ∧
    (consumeLatch s).spt.dropRequest = s.spt.dropRequest ∧ (consumeLatch s).spt.tx = s.spt.tx := by
  generalize h : consumeLatch s = t
  unfold consumeLatch at h
  (try dsimp only at h)
  (repeat' split at h) <;> subst h <;> simp

@[simp] theorem takeCabin_keeps (c : Cabin) (s : State) :
    (takeCabin c s).pins = s.pins ∧ (takeCabin c s).clock = s.clock ∧ (takeCabin c s).supply = s.supply ∧
    (takeCabin c s).resetCause = s.resetCause ∧ (takeCabin c s).loaded = s.loaded ∧ (takeCabin c s).rmu = s.rmu ∧
    (takeCabin c s).asc = s.asc ∧ (takeCabin c s).stu = s.stu ∧ (takeCabin c s).dru = s.dru ∧
    (takeCabin c s).lnu = s.lnu ∧ (takeCabin c s).ltu = s.ltu ∧ (takeCabin c s).lkc = s.lkc ∧
    (takeCabin c s).phn = s.phn ∧ (takeCabin c s).ssv = s.ssv ∧ (takeCabin c s).tal = s.tal ∧
    (takeCabin c s).spt = s.spt ∧ (takeCabin c s).pfs = s.pfs ∧ (takeCabin c s).free = s.free ∧
    (takeCabin c s).pending = s.pending := by
  generalize h : takeCabin c s = t
  unfold takeCabin at h
  (try dsimp only at h)
  (repeat' split at h) <;> subst h <;> simp

@[simp] theorem routeArrival_keeps (w : Occupant) (s : State) :
    (routeArrival w s).pins = s.pins ∧ (routeArrival w s).clock = s.clock ∧ (routeArrival w s).supply = s.supply ∧
    (routeArrival w s).resetCause = s.resetCause ∧ (routeArrival w s).loaded = s.loaded ∧
    (routeArrival w s).rmu = s.rmu ∧ (routeArrival w s).asc = s.asc ∧ (routeArrival w s).cabins = s.cabins ∧
    (routeArrival w s).dru = s.dru ∧ (routeArrival w s).lnu = s.lnu ∧ (routeArrival w s).ltu = s.ltu ∧
    (routeArrival w s).lkc = s.lkc ∧ (routeArrival w s).phn = s.phn ∧ (routeArrival w s).tal = s.tal ∧
    (routeArrival w s).pfs = s.pfs ∧ (routeArrival w s).free = s.free ∧ (routeArrival w s).pending = s.pending ∧
    (routeArrival w s).ssv.mode = s.ssv.mode ∧ (routeArrival w s).ssv.restricted = s.ssv.restricted ∧
    (routeArrival w s).ssv.lastKeep = s.ssv.lastKeep ∧ (routeArrival w s).ssv.deadline = s.ssv.deadline ∧
    (routeArrival w s).spt.rx = s.spt.rx ∧ (routeArrival w s).spt.stopped = s.spt.stopped ∧
    (routeArrival w s).spt.replies = s.spt.replies ∧ (routeArrival w s).spt.badFrames = s.spt.badFrames ∧
    (routeArrival w s).spt.dropRequest = s.spt.dropRequest ∧ (routeArrival w s).spt.tx = s.spt.tx := by
  generalize h : routeArrival w s = t
  unfold routeArrival at h
  (try dsimp only at h)
  (repeat' split at h) <;> subst h <;> simp

@[simp] theorem resolveHead_keeps (r : Reading) (s : State) :
    (resolveHead r s).1.pins = s.pins ∧ (resolveHead r s).1.clock = s.clock ∧ (resolveHead r s).1.supply = s.supply ∧
    (resolveHead r s).1.resetCause = s.resetCause ∧ (resolveHead r s).1.loaded = s.loaded ∧
    (resolveHead r s).1.rmu = s.rmu ∧ (resolveHead r s).1.asc = s.asc ∧ (resolveHead r s).1.stu = s.stu ∧
    (resolveHead r s).1.dru = s.dru ∧ (resolveHead r s).1.lnu = s.lnu ∧ (resolveHead r s).1.ltu = s.ltu ∧
    (resolveHead r s).1.lkc = s.lkc ∧ (resolveHead r s).1.phn = s.phn ∧ (resolveHead r s).1.tal = s.tal ∧
    (resolveHead r s).1.pfs = s.pfs ∧ (resolveHead r s).1.free = s.free ∧ (resolveHead r s).1.pending = s.pending ∧
    (resolveHead r s).1.ssv.mode = s.ssv.mode ∧ (resolveHead r s).1.ssv.restricted = s.ssv.restricted ∧
    (resolveHead r s).1.ssv.lastKeep = s.ssv.lastKeep ∧ (resolveHead r s).1.ssv.deadline = s.ssv.deadline ∧
    (resolveHead r s).1.spt.rx = s.spt.rx ∧ (resolveHead r s).1.spt.stopped = s.spt.stopped ∧
    (resolveHead r s).1.spt.replies = s.spt.replies ∧ (resolveHead r s).1.spt.badFrames = s.spt.badFrames ∧
    (resolveHead r s).1.spt.dropRequest = s.spt.dropRequest ∧ (resolveHead r s).1.spt.tx = s.spt.tx := by
  generalize h : resolveHead r s = t
  unfold resolveHead at h
  (try dsimp only at h)
  (repeat' split at h) <;> subst h <;> simp

@[simp] theorem resolveArrival_keeps (r : Reading) (s : State) :
    (resolveArrival r s).1.pins = s.pins ∧ (resolveArrival r s).1.clock = s.clock ∧
    (resolveArrival r s).1.supply = s.supply ∧ (resolveArrival r s).1.resetCause = s.resetCause ∧
    (resolveArrival r s).1.loaded = s.loaded ∧ (resolveArrival r s).1.rmu = s.rmu ∧
    (resolveArrival r s).1.asc = s.asc ∧ (resolveArrival r s).1.stu = s.stu ∧ (resolveArrival r s).1.dru = s.dru ∧
    (resolveArrival r s).1.lnu = s.lnu ∧ (resolveArrival r s).1.ltu = s.ltu ∧ (resolveArrival r s).1.lkc = s.lkc ∧
    (resolveArrival r s).1.phn = s.phn ∧ (resolveArrival r s).1.tal = s.tal ∧ (resolveArrival r s).1.pfs = s.pfs ∧
    (resolveArrival r s).1.free = s.free ∧ (resolveArrival r s).1.pending = s.pending ∧
    (resolveArrival r s).1.ssv.mode = s.ssv.mode ∧ (resolveArrival r s).1.ssv.restricted = s.ssv.restricted ∧
    (resolveArrival r s).1.ssv.lastKeep = s.ssv.lastKeep ∧ (resolveArrival r s).1.ssv.deadline = s.ssv.deadline ∧
    (resolveArrival r s).1.spt.rx = s.spt.rx ∧ (resolveArrival r s).1.spt.stopped = s.spt.stopped ∧
    (resolveArrival r s).1.spt.replies = s.spt.replies ∧ (resolveArrival r s).1.spt.badFrames = s.spt.badFrames ∧
    (resolveArrival r s).1.spt.dropRequest = s.spt.dropRequest ∧ (resolveArrival r s).1.spt.tx = s.spt.tx := by
  generalize h : resolveArrival r s = t
  unfold resolveArrival at h
  (try dsimp only at h)
  (repeat' split at h) <;> subst h <;> simp

@[simp] theorem arrive_keeps (r : Reading) (s : State) :
    (arrive r s).pins = s.pins ∧ (arrive r s).clock = s.clock ∧ (arrive r s).supply = s.supply ∧
    (arrive r s).resetCause = s.resetCause ∧ (arrive r s).loaded = s.loaded ∧ (arrive r s).rmu = s.rmu ∧
    (arrive r s).asc = s.asc ∧ (arrive r s).dru = s.dru ∧ (arrive r s).lnu = s.lnu ∧ (arrive r s).ltu = s.ltu ∧
    (arrive r s).lkc = s.lkc ∧ (arrive r s).phn = s.phn ∧ (arrive r s).tal = s.tal ∧ (arrive r s).pfs = s.pfs ∧
    (arrive r s).free = s.free ∧ (arrive r s).pending = s.pending ∧ (arrive r s).ssv.mode = s.ssv.mode ∧
    (arrive r s).ssv.restricted = s.ssv.restricted ∧ (arrive r s).ssv.lastKeep = s.ssv.lastKeep ∧
    (arrive r s).ssv.deadline = s.ssv.deadline ∧ (arrive r s).spt.rx = s.spt.rx ∧
    (arrive r s).spt.stopped = s.spt.stopped ∧ (arrive r s).spt.replies = s.spt.replies ∧
    (arrive r s).spt.badFrames = s.spt.badFrames ∧ (arrive r s).spt.dropRequest = s.spt.dropRequest ∧
    (arrive r s).spt.tx = s.spt.tx := by
  generalize h : arrive r s = t
  unfold arrive at h
  (try dsimp only at h)
  (repeat' split at h) <;> subst h <;> simp

@[simp] theorem arrPassage_keeps (s : State) :
    (arrPassage s).pins = s.pins ∧ (arrPassage s).clock = s.clock ∧ (arrPassage s).supply = s.supply ∧
    (arrPassage s).resetCause = s.resetCause ∧ (arrPassage s).loaded = s.loaded ∧ (arrPassage s).rmu = s.rmu ∧
    (arrPassage s).asc = s.asc ∧ (arrPassage s).lnu = s.lnu ∧ (arrPassage s).ltu = s.ltu ∧
    (arrPassage s).lkc = s.lkc ∧ (arrPassage s).phn = s.phn ∧ (arrPassage s).pfs = s.pfs ∧
    (arrPassage s).free = s.free ∧ (arrPassage s).pending = s.pending ∧ (arrPassage s).ssv.mode = s.ssv.mode ∧
    (arrPassage s).ssv.restricted = s.ssv.restricted ∧ (arrPassage s).ssv.lastKeep = s.ssv.lastKeep ∧
    (arrPassage s).ssv.deadline = s.ssv.deadline ∧ (arrPassage s).spt.rx = s.spt.rx ∧
    (arrPassage s).spt.stopped = s.spt.stopped ∧ (arrPassage s).spt.replies = s.spt.replies ∧
    (arrPassage s).spt.badFrames = s.spt.badFrames ∧ (arrPassage s).spt.dropRequest = s.spt.dropRequest ∧
    (arrPassage s).spt.tx = s.spt.tx := by
  generalize h : arrPassage s = t
  unfold arrPassage at h
  (try dsimp only at h)
  (repeat' split at h) <;> subst h <;> simp

@[simp] theorem readerStrobe_keeps (code : BitVec 7) (s : State) :
    (readerStrobe code s).pins = s.pins ∧ (readerStrobe code s).clock = s.clock ∧
    (readerStrobe code s).supply = s.supply ∧ (readerStrobe code s).resetCause = s.resetCause ∧
    (readerStrobe code s).loaded = s.loaded ∧ (readerStrobe code s).rmu = s.rmu ∧ (readerStrobe code s).asc = s.asc ∧
    (readerStrobe code s).cabins = s.cabins ∧ (readerStrobe code s).lists = s.lists ∧
    (readerStrobe code s).dru = s.dru ∧ (readerStrobe code s).lnu = s.lnu ∧ (readerStrobe code s).ltu = s.ltu ∧
    (readerStrobe code s).lkc = s.lkc ∧ (readerStrobe code s).phn = s.phn ∧ (readerStrobe code s).ssv = s.ssv ∧
    (readerStrobe code s).tal = s.tal ∧ (readerStrobe code s).spt = s.spt ∧ (readerStrobe code s).pfs = s.pfs ∧
    (readerStrobe code s).free = s.free ∧ (readerStrobe code s).pending = s.pending := by
  generalize h : readerStrobe code s = t
  unfold readerStrobe at h
  (try dsimp only at h)
  (repeat' split at h) <;> subst h <;> simp

@[simp] theorem bindTask_keeps (ch : Channel) (id : Nat) (c : Cabin) (s : State) :
    (bindTask ch id c s).pins = s.pins ∧ (bindTask ch id c s).clock = s.clock ∧
    (bindTask ch id c s).supply = s.supply ∧ (bindTask ch id c s).resetCause = s.resetCause ∧
    (bindTask ch id c s).loaded = s.loaded ∧ (bindTask ch id c s).rmu = s.rmu ∧ (bindTask ch id c s).asc = s.asc ∧
    (bindTask ch id c s).cabins = s.cabins ∧ (bindTask ch id c s).lists = s.lists ∧
    (bindTask ch id c s).stu = s.stu ∧ (bindTask ch id c s).lnu = s.lnu ∧ (bindTask ch id c s).ltu = s.ltu ∧
    (bindTask ch id c s).lkc = s.lkc ∧ (bindTask ch id c s).phn = s.phn ∧ (bindTask ch id c s).ssv = s.ssv ∧
    (bindTask ch id c s).tal = s.tal ∧ (bindTask ch id c s).spt = s.spt ∧ (bindTask ch id c s).pfs = s.pfs ∧
    (bindTask ch id c s).free = s.free ∧ (bindTask ch id c s).pending = s.pending := by
  generalize h : bindTask ch id c s = t
  unfold bindTask at h
  (try dsimp only at h)
  (repeat' split at h) <;> subst h <;> simp

@[simp] theorem bindWindow_keeps (id : Nat) (c : Cabin) (s : State) :
    (bindWindow id c s).pins = s.pins ∧ (bindWindow id c s).clock = s.clock ∧ (bindWindow id c s).supply = s.supply ∧
    (bindWindow id c s).resetCause = s.resetCause ∧ (bindWindow id c s).loaded = s.loaded ∧
    (bindWindow id c s).rmu = s.rmu ∧ (bindWindow id c s).asc = s.asc ∧ (bindWindow id c s).cabins = s.cabins ∧
    (bindWindow id c s).lists = s.lists ∧ (bindWindow id c s).stu = s.stu ∧ (bindWindow id c s).dru = s.dru ∧
    (bindWindow id c s).ltu = s.ltu ∧ (bindWindow id c s).lkc = s.lkc ∧ (bindWindow id c s).phn = s.phn ∧
    (bindWindow id c s).ssv = s.ssv ∧ (bindWindow id c s).tal = s.tal ∧ (bindWindow id c s).spt = s.spt ∧
    (bindWindow id c s).pfs = s.pfs ∧ (bindWindow id c s).free = s.free ∧ (bindWindow id c s).pending = s.pending := by
  generalize h : bindWindow id c s = t
  unfold bindWindow at h
  (try dsimp only at h)
  (repeat' split at h) <;> subst h <;> simp

@[simp] theorem bindEntry_keeps (e : StationEntry) (grip : GripResult) (force : Nat) (c : Cabin) (s : State) :
    (bindEntry e grip force c s).pins = s.pins ∧ (bindEntry e grip force c s).clock = s.clock ∧
    (bindEntry e grip force c s).supply = s.supply ∧ (bindEntry e grip force c s).resetCause = s.resetCause ∧
    (bindEntry e grip force c s).loaded = s.loaded ∧ (bindEntry e grip force c s).rmu = s.rmu ∧
    (bindEntry e grip force c s).asc = s.asc ∧ (bindEntry e grip force c s).stu = s.stu ∧
    (bindEntry e grip force c s).ltu = s.ltu ∧ (bindEntry e grip force c s).lkc = s.lkc ∧
    (bindEntry e grip force c s).phn = s.phn ∧ (bindEntry e grip force c s).ssv = s.ssv ∧
    (bindEntry e grip force c s).tal = s.tal ∧ (bindEntry e grip force c s).pfs = s.pfs ∧
    (bindEntry e grip force c s).free = s.free ∧ (bindEntry e grip force c s).pending = s.pending ∧
    (bindEntry e grip force c s).spt.rx = s.spt.rx ∧ (bindEntry e grip force c s).spt.stopped = s.spt.stopped ∧
    (bindEntry e grip force c s).spt.replies = s.spt.replies ∧
    (bindEntry e grip force c s).spt.badFrames = s.spt.badFrames ∧
    (bindEntry e grip force c s).spt.dropRequest = s.spt.dropRequest ∧ (bindEntry e grip force c s).spt.tx = s.spt.tx := by
  generalize h : bindEntry e grip force c s = t
  unfold bindEntry at h
  (try dsimp only at h)
  (repeat' split at h) <;> subst h <;> simp

end Sys2Proof.Machine
end

