-- ==== Sys2Proof/Laws/Line.lean ====
section
/-! SUPPORT. What each operation of the Line Tracking Unit leaves unchanged: every field of the state that it does not write. -/

-- One lemma after the other: side by side, their proofs need more memory in the joined text than the check has.
set_option Elab.async false

namespace Sys2Proof.Machine

@[simp] theorem toSummit_keeps (c : Cabin) (s : State) :
    (toSummit c s).pins = s.pins ∧ (toSummit c s).clock = s.clock ∧ (toSummit c s).supply = s.supply ∧
    (toSummit c s).resetCause = s.resetCause ∧ (toSummit c s).loaded = s.loaded ∧ (toSummit c s).rmu = s.rmu ∧
    (toSummit c s).asc = s.asc ∧ (toSummit c s).stu = s.stu ∧ (toSummit c s).dru = s.dru ∧
    (toSummit c s).lnu = s.lnu ∧ (toSummit c s).ltu = s.ltu ∧ (toSummit c s).lkc = s.lkc ∧
    (toSummit c s).phn = s.phn ∧ (toSummit c s).ssv = s.ssv ∧ (toSummit c s).tal = s.tal ∧
    (toSummit c s).spt = s.spt ∧ (toSummit c s).pfs = s.pfs ∧ (toSummit c s).free = s.free ∧
    (toSummit c s).pending = s.pending := by
  generalize h : toSummit c s = t
  unfold toSummit at h
  (try dsimp only at h)
  (repeat' split at h) <;> subst h <;> simp

@[simp] theorem toDownLine_keeps (c : Cabin) (s : State) :
    (toDownLine c s).pins = s.pins ∧ (toDownLine c s).clock = s.clock ∧ (toDownLine c s).supply = s.supply ∧
    (toDownLine c s).resetCause = s.resetCause ∧ (toDownLine c s).loaded = s.loaded ∧ (toDownLine c s).rmu = s.rmu ∧
    (toDownLine c s).asc = s.asc ∧ (toDownLine c s).stu = s.stu ∧ (toDownLine c s).dru = s.dru ∧
    (toDownLine c s).lnu = s.lnu ∧ (toDownLine c s).ltu = s.ltu ∧ (toDownLine c s).lkc = s.lkc ∧
    (toDownLine c s).phn = s.phn ∧ (toDownLine c s).ssv = s.ssv ∧ (toDownLine c s).tal = s.tal ∧
    (toDownLine c s).spt = s.spt ∧ (toDownLine c s).pfs = s.pfs ∧ (toDownLine c s).free = s.free ∧
    (toDownLine c s).pending = s.pending := by
  generalize h : toDownLine c s = t
  unfold toDownLine at h
  (try dsimp only at h)
  (repeat' split at h) <;> subst h <;> simp

@[simp] theorem noticeFound_keeps (c : Cabin) (s : State) :
    (noticeFound c s).pins = s.pins ∧ (noticeFound c s).clock = s.clock ∧ (noticeFound c s).supply = s.supply ∧
    (noticeFound c s).resetCause = s.resetCause ∧ (noticeFound c s).loaded = s.loaded ∧
    (noticeFound c s).rmu = s.rmu ∧ (noticeFound c s).asc = s.asc ∧ (noticeFound c s).cabins = s.cabins ∧
    (noticeFound c s).lists = s.lists ∧ (noticeFound c s).stu = s.stu ∧ (noticeFound c s).dru = s.dru ∧
    (noticeFound c s).lnu = s.lnu ∧ (noticeFound c s).ltu = s.ltu ∧ (noticeFound c s).lkc = s.lkc ∧
    (noticeFound c s).phn = s.phn ∧ (noticeFound c s).ssv = s.ssv ∧ (noticeFound c s).tal = s.tal ∧
    (noticeFound c s).pfs = s.pfs ∧ (noticeFound c s).free = s.free ∧ (noticeFound c s).pending = s.pending ∧
    (noticeFound c s).spt.rx = s.spt.rx ∧ (noticeFound c s).spt.stopped = s.spt.stopped ∧
    (noticeFound c s).spt.replies = s.spt.replies ∧ (noticeFound c s).spt.badFrames = s.spt.badFrames ∧
    (noticeFound c s).spt.dropRequest = s.spt.dropRequest ∧ (noticeFound c s).spt.tx = s.spt.tx := by
  generalize h : noticeFound c s = t
  unfold noticeFound at h
  (try dsimp only at h)
  (repeat' split at h) <;> subst h <;> simp

@[simp] theorem raiseWhen_keeps (b : Bool) (c : Cause) (d : Detail) (s : State) :
    (raiseWhen b c d s).pins = s.pins ∧ (raiseWhen b c d s).clock = s.clock ∧ (raiseWhen b c d s).supply = s.supply ∧
    (raiseWhen b c d s).resetCause = s.resetCause ∧ (raiseWhen b c d s).loaded = s.loaded ∧
    (raiseWhen b c d s).rmu = s.rmu ∧ (raiseWhen b c d s).asc = s.asc ∧ (raiseWhen b c d s).cabins = s.cabins ∧
    (raiseWhen b c d s).lists = s.lists ∧ (raiseWhen b c d s).stu = s.stu ∧ (raiseWhen b c d s).dru = s.dru ∧
    (raiseWhen b c d s).lnu = s.lnu ∧ (raiseWhen b c d s).ltu = s.ltu ∧ (raiseWhen b c d s).lkc = s.lkc ∧
    (raiseWhen b c d s).phn = s.phn ∧ (raiseWhen b c d s).tal = s.tal ∧ (raiseWhen b c d s).pfs = s.pfs ∧
    (raiseWhen b c d s).free = s.free ∧ (raiseWhen b c d s).pending = s.pending ∧
    (raiseWhen b c d s).ssv.mode = s.ssv.mode ∧ (raiseWhen b c d s).ssv.restricted = s.ssv.restricted ∧
    (raiseWhen b c d s).ssv.lastKeep = s.ssv.lastKeep ∧ (raiseWhen b c d s).ssv.deadline = s.ssv.deadline ∧
    (raiseWhen b c d s).spt.rx = s.spt.rx ∧ (raiseWhen b c d s).spt.stopped = s.spt.stopped ∧
    (raiseWhen b c d s).spt.replies = s.spt.replies ∧ (raiseWhen b c d s).spt.badFrames = s.spt.badFrames ∧
    (raiseWhen b c d s).spt.dropRequest = s.spt.dropRequest ∧ (raiseWhen b c d s).spt.tx = s.spt.tx := by
  generalize h : raiseWhen b c d s = t
  unfold raiseWhen at h
  (try dsimp only at h)
  (repeat' split at h) <;> subst h <;> simp

@[simp] theorem applyArrived_keeps (c : Cabin) (s : State) :
    (applyArrived c s).pins = s.pins ∧ (applyArrived c s).clock = s.clock ∧ (applyArrived c s).supply = s.supply ∧
    (applyArrived c s).resetCause = s.resetCause ∧ (applyArrived c s).loaded = s.loaded ∧
    (applyArrived c s).rmu = s.rmu ∧ (applyArrived c s).asc = s.asc ∧ (applyArrived c s).stu = s.stu ∧
    (applyArrived c s).dru = s.dru ∧ (applyArrived c s).lnu = s.lnu ∧ (applyArrived c s).ltu = s.ltu ∧
    (applyArrived c s).lkc = s.lkc ∧ (applyArrived c s).phn = s.phn ∧ (applyArrived c s).tal = s.tal ∧
    (applyArrived c s).pfs = s.pfs ∧ (applyArrived c s).free = s.free ∧ (applyArrived c s).pending = s.pending ∧
    (applyArrived c s).ssv.mode = s.ssv.mode ∧ (applyArrived c s).ssv.restricted = s.ssv.restricted ∧
    (applyArrived c s).ssv.lastKeep = s.ssv.lastKeep ∧ (applyArrived c s).ssv.deadline = s.ssv.deadline ∧
    (applyArrived c s).spt.rx = s.spt.rx ∧ (applyArrived c s).spt.stopped = s.spt.stopped ∧
    (applyArrived c s).spt.replies = s.spt.replies ∧ (applyArrived c s).spt.badFrames = s.spt.badFrames ∧
    (applyArrived c s).spt.dropRequest = s.spt.dropRequest ∧ (applyArrived c s).spt.tx = s.spt.tx := by
  generalize h : applyArrived c s = t
  unfold applyArrived at h
  (try dsimp only at h)
  (repeat' split at h) <;> subst h <;> simp

@[simp] theorem applyDeparted_keeps (c : Cabin) (s : State) :
    (applyDeparted c s).pins = s.pins ∧ (applyDeparted c s).clock = s.clock ∧ (applyDeparted c s).supply = s.supply ∧
    (applyDeparted c s).resetCause = s.resetCause ∧ (applyDeparted c s).loaded = s.loaded ∧
    (applyDeparted c s).rmu = s.rmu ∧ (applyDeparted c s).asc = s.asc ∧ (applyDeparted c s).stu = s.stu ∧
    (applyDeparted c s).dru = s.dru ∧ (applyDeparted c s).lnu = s.lnu ∧ (applyDeparted c s).ltu = s.ltu ∧
    (applyDeparted c s).lkc = s.lkc ∧ (applyDeparted c s).phn = s.phn ∧ (applyDeparted c s).tal = s.tal ∧
    (applyDeparted c s).pfs = s.pfs ∧ (applyDeparted c s).free = s.free ∧ (applyDeparted c s).pending = s.pending ∧
    (applyDeparted c s).ssv.mode = s.ssv.mode ∧ (applyDeparted c s).ssv.restricted = s.ssv.restricted ∧
    (applyDeparted c s).ssv.lastKeep = s.ssv.lastKeep ∧ (applyDeparted c s).ssv.deadline = s.ssv.deadline ∧
    (applyDeparted c s).spt.rx = s.spt.rx ∧ (applyDeparted c s).spt.stopped = s.spt.stopped ∧
    (applyDeparted c s).spt.replies = s.spt.replies ∧ (applyDeparted c s).spt.badFrames = s.spt.badFrames ∧
    (applyDeparted c s).spt.dropRequest = s.spt.dropRequest ∧ (applyDeparted c s).spt.tx = s.spt.tx := by
  generalize h : applyDeparted c s = t
  unfold applyDeparted at h
  (try dsimp only at h)
  (repeat' split at h) <;> subst h <;> simp

@[simp] theorem censusListed_keeps (s : State) (n : Nat) :
    (censusListed s n).pins = s.pins ∧ (censusListed s n).clock = s.clock ∧ (censusListed s n).supply = s.supply ∧
    (censusListed s n).resetCause = s.resetCause ∧ (censusListed s n).loaded = s.loaded ∧
    (censusListed s n).rmu = s.rmu ∧ (censusListed s n).asc = s.asc ∧ (censusListed s n).stu = s.stu ∧
    (censusListed s n).dru = s.dru ∧ (censusListed s n).lnu = s.lnu ∧ (censusListed s n).ltu = s.ltu ∧
    (censusListed s n).lkc = s.lkc ∧ (censusListed s n).phn = s.phn ∧ (censusListed s n).tal = s.tal ∧
    (censusListed s n).pfs = s.pfs ∧ (censusListed s n).free = s.free ∧ (censusListed s n).pending = s.pending ∧
    (censusListed s n).ssv.mode = s.ssv.mode ∧ (censusListed s n).ssv.restricted = s.ssv.restricted ∧
    (censusListed s n).ssv.lastKeep = s.ssv.lastKeep ∧ (censusListed s n).ssv.deadline = s.ssv.deadline ∧
    (censusListed s n).spt.rx = s.spt.rx ∧ (censusListed s n).spt.stopped = s.spt.stopped ∧
    (censusListed s n).spt.replies = s.spt.replies ∧ (censusListed s n).spt.badFrames = s.spt.badFrames ∧
    (censusListed s n).spt.dropRequest = s.spt.dropRequest ∧ (censusListed s n).spt.tx = s.spt.tx := by
  generalize h : censusListed s n = t
  unfold censusListed at h
  (try dsimp only at h)
  (repeat' split at h) <;> subst h <;> simp

@[simp] theorem censusMissing_keeps (s : State) (c : Cabin) :
    (censusMissing s c).pins = s.pins ∧ (censusMissing s c).clock = s.clock ∧ (censusMissing s c).supply = s.supply ∧
    (censusMissing s c).resetCause = s.resetCause ∧ (censusMissing s c).loaded = s.loaded ∧
    (censusMissing s c).rmu = s.rmu ∧ (censusMissing s c).asc = s.asc ∧ (censusMissing s c).stu = s.stu ∧
    (censusMissing s c).dru = s.dru ∧ (censusMissing s c).lnu = s.lnu ∧ (censusMissing s c).ltu = s.ltu ∧
    (censusMissing s c).lkc = s.lkc ∧ (censusMissing s c).phn = s.phn ∧ (censusMissing s c).tal = s.tal ∧
    (censusMissing s c).pfs = s.pfs ∧ (censusMissing s c).free = s.free ∧ (censusMissing s c).pending = s.pending ∧
    (censusMissing s c).ssv.mode = s.ssv.mode ∧ (censusMissing s c).ssv.restricted = s.ssv.restricted ∧
    (censusMissing s c).ssv.lastKeep = s.ssv.lastKeep ∧ (censusMissing s c).ssv.deadline = s.ssv.deadline ∧
    (censusMissing s c).spt.rx = s.spt.rx ∧ (censusMissing s c).spt.stopped = s.spt.stopped ∧
    (censusMissing s c).spt.replies = s.spt.replies ∧ (censusMissing s c).spt.badFrames = s.spt.badFrames ∧
    (censusMissing s c).spt.dropRequest = s.spt.dropRequest ∧ (censusMissing s c).spt.tx = s.spt.tx := by
  generalize h : censusMissing s c = t
  unfold censusMissing at h
  (try dsimp only at h)
  (repeat' split at h) <;> subst h <;> simp

@[simp] theorem endWait_keeps (o : CensusOutcome) (s : State) :
    (endWait o s).pins = s.pins ∧ (endWait o s).clock = s.clock ∧ (endWait o s).supply = s.supply ∧
    (endWait o s).resetCause = s.resetCause ∧ (endWait o s).loaded = s.loaded ∧ (endWait o s).rmu = s.rmu ∧
    (endWait o s).asc = s.asc ∧ (endWait o s).cabins = s.cabins ∧ (endWait o s).lists = s.lists ∧
    (endWait o s).stu = s.stu ∧ (endWait o s).dru = s.dru ∧ (endWait o s).lnu = s.lnu ∧ (endWait o s).lkc = s.lkc ∧
    (endWait o s).phn = s.phn ∧ (endWait o s).ssv = s.ssv ∧ (endWait o s).tal = s.tal ∧ (endWait o s).spt = s.spt ∧
    (endWait o s).pfs = s.pfs ∧ (endWait o s).free = s.free ∧ (endWait o s).pending = s.pending := by
  generalize h : endWait o s = t
  unfold endWait at h
  (try dsimp only at h)
  (repeat' split at h) <;> subst h <;> simp

theorem censusListed_fold_keeps (l : List Nat) (s : State) :
    (l.foldl censusListed s).pins = s.pins ∧ (l.foldl censusListed s).clock = s.clock ∧
    (l.foldl censusListed s).supply = s.supply ∧ (l.foldl censusListed s).resetCause = s.resetCause ∧
    (l.foldl censusListed s).loaded = s.loaded ∧ (l.foldl censusListed s).rmu = s.rmu ∧
    (l.foldl censusListed s).asc = s.asc ∧ (l.foldl censusListed s).stu = s.stu ∧
    (l.foldl censusListed s).dru = s.dru ∧ (l.foldl censusListed s).lnu = s.lnu ∧
    (l.foldl censusListed s).ltu = s.ltu ∧ (l.foldl censusListed s).lkc = s.lkc ∧
    (l.foldl censusListed s).phn = s.phn ∧ (l.foldl censusListed s).tal = s.tal ∧
    (l.foldl censusListed s).pfs = s.pfs ∧ (l.foldl censusListed s).free = s.free ∧
    (l.foldl censusListed s).pending = s.pending ∧ (l.foldl censusListed s).ssv.mode = s.ssv.mode ∧
    (l.foldl censusListed s).ssv.restricted = s.ssv.restricted ∧
    (l.foldl censusListed s).ssv.lastKeep = s.ssv.lastKeep ∧ (l.foldl censusListed s).ssv.deadline = s.ssv.deadline ∧
    (l.foldl censusListed s).spt.rx = s.spt.rx ∧ (l.foldl censusListed s).spt.stopped = s.spt.stopped ∧
    (l.foldl censusListed s).spt.replies = s.spt.replies ∧ (l.foldl censusListed s).spt.badFrames = s.spt.badFrames ∧
    (l.foldl censusListed s).spt.dropRequest = s.spt.dropRequest ∧ (l.foldl censusListed s).spt.tx = s.spt.tx := by
  induction l generalizing s with
  | nil => simp
  | cons x l ih => simp [ih]

theorem censusMissing_fold_keeps (l : List Cabin) (s : State) :
    (l.foldl censusMissing s).pins = s.pins ∧ (l.foldl censusMissing s).clock = s.clock ∧
    (l.foldl censusMissing s).supply = s.supply ∧ (l.foldl censusMissing s).resetCause = s.resetCause ∧
    (l.foldl censusMissing s).loaded = s.loaded ∧ (l.foldl censusMissing s).rmu = s.rmu ∧
    (l.foldl censusMissing s).asc = s.asc ∧ (l.foldl censusMissing s).stu = s.stu ∧
    (l.foldl censusMissing s).dru = s.dru ∧ (l.foldl censusMissing s).lnu = s.lnu ∧
    (l.foldl censusMissing s).ltu = s.ltu ∧ (l.foldl censusMissing s).lkc = s.lkc ∧
    (l.foldl censusMissing s).phn = s.phn ∧ (l.foldl censusMissing s).tal = s.tal ∧
    (l.foldl censusMissing s).pfs = s.pfs ∧ (l.foldl censusMissing s).free = s.free ∧
    (l.foldl censusMissing s).pending = s.pending ∧ (l.foldl censusMissing s).ssv.mode = s.ssv.mode ∧
    (l.foldl censusMissing s).ssv.restricted = s.ssv.restricted ∧
    (l.foldl censusMissing s).ssv.lastKeep = s.ssv.lastKeep ∧
    (l.foldl censusMissing s).ssv.deadline = s.ssv.deadline ∧ (l.foldl censusMissing s).spt.rx = s.spt.rx ∧
    (l.foldl censusMissing s).spt.stopped = s.spt.stopped ∧ (l.foldl censusMissing s).spt.replies = s.spt.replies ∧
    (l.foldl censusMissing s).spt.badFrames = s.spt.badFrames ∧
    (l.foldl censusMissing s).spt.dropRequest = s.spt.dropRequest ∧ (l.foldl censusMissing s).spt.tx = s.spt.tx := by
  induction l generalizing s with
  | nil => simp
  | cons x l ih => simp [ih]

@[simp] theorem applyCensus_keeps (numbers : List Nat) (s : State) :
    (applyCensus numbers s).pins = s.pins ∧ (applyCensus numbers s).clock = s.clock ∧
    (applyCensus numbers s).supply = s.supply ∧ (applyCensus numbers s).resetCause = s.resetCause ∧
    (applyCensus numbers s).loaded = s.loaded ∧ (applyCensus numbers s).rmu = s.rmu ∧
    (applyCensus numbers s).asc = s.asc ∧ (applyCensus numbers s).stu = s.stu ∧ (applyCensus numbers s).dru = s.dru ∧
    (applyCensus numbers s).lnu = s.lnu ∧ (applyCensus numbers s).lkc = s.lkc ∧ (applyCensus numbers s).phn = s.phn ∧
    (applyCensus numbers s).tal = s.tal ∧ (applyCensus numbers s).pfs = s.pfs ∧
    (applyCensus numbers s).free = s.free ∧ (applyCensus numbers s).pending = s.pending ∧
    (applyCensus numbers s).ssv.mode = s.ssv.mode ∧ (applyCensus numbers s).ssv.restricted = s.ssv.restricted ∧
    (applyCensus numbers s).ssv.lastKeep = s.ssv.lastKeep ∧ (applyCensus numbers s).ssv.deadline = s.ssv.deadline ∧
    (applyCensus numbers s).spt.rx = s.spt.rx ∧ (applyCensus numbers s).spt.stopped = s.spt.stopped ∧
    (applyCensus numbers s).spt.replies = s.spt.replies ∧ (applyCensus numbers s).spt.badFrames = s.spt.badFrames ∧
    (applyCensus numbers s).spt.dropRequest = s.spt.dropRequest ∧ (applyCensus numbers s).spt.tx = s.spt.tx := by
  generalize h : applyCensus numbers s = t
  unfold applyCensus at h
  dsimp only at h
  (repeat' split at h) <;> subst h <;> simp [censusListed_fold_keeps, censusMissing_fold_keeps]

@[simp] theorem placeCensus_keeps (s : State) :
    (placeCensus s).pins = s.pins ∧ (placeCensus s).clock = s.clock ∧ (placeCensus s).supply = s.supply ∧
    (placeCensus s).resetCause = s.resetCause ∧ (placeCensus s).loaded = s.loaded ∧ (placeCensus s).rmu = s.rmu ∧
    (placeCensus s).asc = s.asc ∧ (placeCensus s).cabins = s.cabins ∧ (placeCensus s).lists = s.lists ∧
    (placeCensus s).stu = s.stu ∧ (placeCensus s).dru = s.dru ∧ (placeCensus s).lnu = s.lnu ∧
    (placeCensus s).phn = s.phn ∧ (placeCensus s).ssv = s.ssv ∧ (placeCensus s).tal = s.tal ∧
    (placeCensus s).spt = s.spt ∧ (placeCensus s).pfs = s.pfs ∧ (placeCensus s).free = s.free ∧
    (placeCensus s).pending = s.pending ∧ (placeCensus s).lkc.rx = s.lkc.rx ∧
    (placeCensus s).lkc.towers = s.lkc.towers ∧ (placeCensus s).lkc.ownNext = s.lkc.ownNext ∧
    (placeCensus s).lkc.txCycle = s.lkc.txCycle := by
  generalize h : placeCensus s = t
  unfold placeCensus at h
  (try dsimp only at h)
  (repeat' split at h) <;> subst h <;> simp

@[simp] theorem startWait_keeps (s : State) :
    (startWait s).pins = s.pins ∧ (startWait s).clock = s.clock ∧ (startWait s).supply = s.supply ∧
    (startWait s).resetCause = s.resetCause ∧ (startWait s).loaded = s.loaded ∧ (startWait s).rmu = s.rmu ∧
    (startWait s).asc = s.asc ∧ (startWait s).cabins = s.cabins ∧ (startWait s).lists = s.lists ∧
    (startWait s).stu = s.stu ∧ (startWait s).dru = s.dru ∧ (startWait s).lnu = s.lnu ∧ (startWait s).phn = s.phn ∧
    (startWait s).ssv = s.ssv ∧ (startWait s).tal = s.tal ∧ (startWait s).spt = s.spt ∧ (startWait s).pfs = s.pfs ∧
    (startWait s).free = s.free ∧ (startWait s).pending = s.pending ∧ (startWait s).lkc.rx = s.lkc.rx ∧
    (startWait s).lkc.towers = s.lkc.towers ∧ (startWait s).lkc.ownNext = s.lkc.ownNext ∧
    (startWait s).lkc.txCycle = s.lkc.txCycle := by
  generalize h : startWait s = t
  unfold startWait at h
  (try dsimp only at h)
  (repeat' split at h) <;> subst h <;> simp

@[simp] theorem lockedEntry_keeps (s : State) :
    (lockedEntry s).pins = s.pins ∧ (lockedEntry s).clock = s.clock ∧ (lockedEntry s).supply = s.supply ∧
    (lockedEntry s).resetCause = s.resetCause ∧ (lockedEntry s).loaded = s.loaded ∧ (lockedEntry s).rmu = s.rmu ∧
    (lockedEntry s).asc = s.asc ∧ (lockedEntry s).cabins = s.cabins ∧ (lockedEntry s).lists = s.lists ∧
    (lockedEntry s).stu = s.stu ∧ (lockedEntry s).dru = s.dru ∧ (lockedEntry s).lnu = s.lnu ∧
    (lockedEntry s).phn = s.phn ∧ (lockedEntry s).ssv = s.ssv ∧ (lockedEntry s).tal = s.tal ∧
    (lockedEntry s).spt = s.spt ∧ (lockedEntry s).pfs = s.pfs ∧ (lockedEntry s).free = s.free ∧
    (lockedEntry s).pending = s.pending ∧ (lockedEntry s).lkc.rx = s.lkc.rx ∧
    (lockedEntry s).lkc.towers = s.lkc.towers ∧ (lockedEntry s).lkc.ownNext = s.lkc.ownNext ∧
    (lockedEntry s).lkc.txCycle = s.lkc.txCycle := by
  generalize h : lockedEntry s = t
  unfold lockedEntry at h
  (try dsimp only at h)
  (repeat' split at h) <;> subst h <;> simp

@[simp] theorem lineLinkLost_keeps (s : State) :
    (lineLinkLost s).pins = s.pins ∧ (lineLinkLost s).clock = s.clock ∧ (lineLinkLost s).supply = s.supply ∧
    (lineLinkLost s).resetCause = s.resetCause ∧ (lineLinkLost s).loaded = s.loaded ∧ (lineLinkLost s).rmu = s.rmu ∧
    (lineLinkLost s).asc = s.asc ∧ (lineLinkLost s).cabins = s.cabins ∧ (lineLinkLost s).lists = s.lists ∧
    (lineLinkLost s).stu = s.stu ∧ (lineLinkLost s).dru = s.dru ∧ (lineLinkLost s).lnu = s.lnu ∧
    (lineLinkLost s).lkc = s.lkc ∧ (lineLinkLost s).phn = s.phn ∧ (lineLinkLost s).ssv = s.ssv ∧
    (lineLinkLost s).tal = s.tal ∧ (lineLinkLost s).spt = s.spt ∧ (lineLinkLost s).pfs = s.pfs ∧
    (lineLinkLost s).free = s.free ∧ (lineLinkLost s).pending = s.pending := by
  generalize h : lineLinkLost s = t
  unfold lineLinkLost at h
  (try dsimp only at h)
  (repeat' split at h) <;> subst h <;> simp

@[simp] theorem censusExpiry_keeps (s : State) :
    (censusExpiry s).pins = s.pins ∧ (censusExpiry s).clock = s.clock ∧ (censusExpiry s).supply = s.supply ∧
    (censusExpiry s).resetCause = s.resetCause ∧ (censusExpiry s).loaded = s.loaded ∧ (censusExpiry s).rmu = s.rmu ∧
    (censusExpiry s).asc = s.asc ∧ (censusExpiry s).cabins = s.cabins ∧ (censusExpiry s).lists = s.lists ∧
    (censusExpiry s).stu = s.stu ∧ (censusExpiry s).dru = s.dru ∧ (censusExpiry s).lnu = s.lnu ∧
    (censusExpiry s).lkc = s.lkc ∧ (censusExpiry s).phn = s.phn ∧ (censusExpiry s).tal = s.tal ∧
    (censusExpiry s).pfs = s.pfs ∧ (censusExpiry s).free = s.free ∧ (censusExpiry s).pending = s.pending ∧
    (censusExpiry s).ssv.mode = s.ssv.mode ∧ (censusExpiry s).ssv.restricted = s.ssv.restricted ∧
    (censusExpiry s).ssv.lastKeep = s.ssv.lastKeep ∧ (censusExpiry s).ssv.deadline = s.ssv.deadline ∧
    (censusExpiry s).spt.rx = s.spt.rx ∧ (censusExpiry s).spt.stopped = s.spt.stopped ∧
    (censusExpiry s).spt.replies = s.spt.replies ∧ (censusExpiry s).spt.badFrames = s.spt.badFrames ∧
    (censusExpiry s).spt.dropRequest = s.spt.dropRequest ∧ (censusExpiry s).spt.tx = s.spt.tx := by
  generalize h : censusExpiry s = t
  unfold censusExpiry at h
  (try dsimp only at h)
  (repeat' split at h) <;> subst h <;> simp

@[simp] theorem declareLost_keeps (c : Cabin) (s : State) :
    (declareLost c s).pins = s.pins ∧ (declareLost c s).clock = s.clock ∧ (declareLost c s).supply = s.supply ∧
    (declareLost c s).resetCause = s.resetCause ∧ (declareLost c s).loaded = s.loaded ∧
    (declareLost c s).rmu = s.rmu ∧ (declareLost c s).asc = s.asc ∧ (declareLost c s).stu = s.stu ∧
    (declareLost c s).dru = s.dru ∧ (declareLost c s).lnu = s.lnu ∧ (declareLost c s).ltu = s.ltu ∧
    (declareLost c s).lkc = s.lkc ∧ (declareLost c s).phn = s.phn ∧ (declareLost c s).ssv = s.ssv ∧
    (declareLost c s).tal = s.tal ∧ (declareLost c s).spt = s.spt ∧ (declareLost c s).pfs = s.pfs ∧
    (declareLost c s).free = s.free ∧ (declareLost c s).pending = s.pending := by
  generalize h : declareLost c s = t
  unfold declareLost at h
  (try dsimp only at h)
  (repeat' split at h) <;> subst h <;> simp

@[simp] theorem discardUp_keeps (s : State) :
    (discardUp s).pins = s.pins ∧ (discardUp s).clock = s.clock ∧ (discardUp s).supply = s.supply ∧
    (discardUp s).resetCause = s.resetCause ∧ (discardUp s).loaded = s.loaded ∧ (discardUp s).rmu = s.rmu ∧
    (discardUp s).asc = s.asc ∧ (discardUp s).cabins = s.cabins ∧ (discardUp s).lists = s.lists ∧
    (discardUp s).stu = s.stu ∧ (discardUp s).dru = s.dru ∧ (discardUp s).lnu = s.lnu ∧ (discardUp s).lkc = s.lkc ∧
    (discardUp s).phn = s.phn ∧ (discardUp s).tal = s.tal ∧ (discardUp s).pfs = s.pfs ∧ (discardUp s).free = s.free ∧
    (discardUp s).pending = s.pending ∧ (discardUp s).ssv.mode = s.ssv.mode ∧
    (discardUp s).ssv.restricted = s.ssv.restricted ∧ (discardUp s).ssv.lastKeep = s.ssv.lastKeep ∧
    (discardUp s).ssv.deadline = s.ssv.deadline ∧ (discardUp s).spt.rx = s.spt.rx ∧
    (discardUp s).spt.stopped = s.spt.stopped ∧ (discardUp s).spt.replies = s.spt.replies ∧
    (discardUp s).spt.badFrames = s.spt.badFrames ∧ (discardUp s).spt.dropRequest = s.spt.dropRequest ∧
    (discardUp s).spt.tx = s.spt.tx := by
  generalize h : discardUp s = t
  unfold discardUp at h
  (try dsimp only at h)
  (repeat' split at h) <;> subst h <;> simp

@[simp] theorem discardDown_keeps (s : State) :
    (discardDown s).pins = s.pins ∧ (discardDown s).clock = s.clock ∧ (discardDown s).supply = s.supply ∧
    (discardDown s).resetCause = s.resetCause ∧ (discardDown s).loaded = s.loaded ∧ (discardDown s).rmu = s.rmu ∧
    (discardDown s).asc = s.asc ∧ (discardDown s).cabins = s.cabins ∧ (discardDown s).lists = s.lists ∧
    (discardDown s).stu = s.stu ∧ (discardDown s).dru = s.dru ∧ (discardDown s).lnu = s.lnu ∧
    (discardDown s).lkc = s.lkc ∧ (discardDown s).phn = s.phn ∧ (discardDown s).tal = s.tal ∧
    (discardDown s).pfs = s.pfs ∧ (discardDown s).free = s.free ∧ (discardDown s).pending = s.pending ∧
    (discardDown s).ssv.mode = s.ssv.mode ∧ (discardDown s).ssv.restricted = s.ssv.restricted ∧
    (discardDown s).ssv.lastKeep = s.ssv.lastKeep ∧ (discardDown s).ssv.deadline = s.ssv.deadline ∧
    (discardDown s).spt.rx = s.spt.rx ∧ (discardDown s).spt.stopped = s.spt.stopped ∧
    (discardDown s).spt.replies = s.spt.replies ∧ (discardDown s).spt.badFrames = s.spt.badFrames ∧
    (discardDown s).spt.dropRequest = s.spt.dropRequest ∧ (discardDown s).spt.tx = s.spt.tx := by
  generalize h : discardDown s = t
  unfold discardDown at h
  (try dsimp only at h)
  (repeat' split at h) <;> subst h <;> simp

@[simp] theorem checkUp_keeps (s : State) :
    (checkUp s).pins = s.pins ∧ (checkUp s).clock = s.clock ∧ (checkUp s).supply = s.supply ∧
    (checkUp s).resetCause = s.resetCause ∧ (checkUp s).loaded = s.loaded ∧ (checkUp s).rmu = s.rmu ∧
    (checkUp s).asc = s.asc ∧ (checkUp s).cabins = s.cabins ∧ (checkUp s).lists = s.lists ∧ (checkUp s).stu = s.stu ∧
    (checkUp s).dru = s.dru ∧ (checkUp s).lnu = s.lnu ∧ (checkUp s).lkc = s.lkc ∧ (checkUp s).phn = s.phn ∧
    (checkUp s).tal = s.tal ∧ (checkUp s).pfs = s.pfs ∧ (checkUp s).free = s.free ∧ (checkUp s).pending = s.pending ∧
    (checkUp s).ssv.mode = s.ssv.mode ∧ (checkUp s).ssv.restricted = s.ssv.restricted ∧
    (checkUp s).ssv.lastKeep = s.ssv.lastKeep ∧ (checkUp s).ssv.deadline = s.ssv.deadline ∧
    (checkUp s).spt.rx = s.spt.rx ∧ (checkUp s).spt.stopped = s.spt.stopped ∧
    (checkUp s).spt.replies = s.spt.replies ∧ (checkUp s).spt.badFrames = s.spt.badFrames ∧
    (checkUp s).spt.dropRequest = s.spt.dropRequest ∧ (checkUp s).spt.tx = s.spt.tx := by
  generalize h : checkUp s = t
  unfold checkUp at h
  (try dsimp only at h)
  (repeat' split at h) <;> subst h <;> simp

@[simp] theorem checkDown_keeps (s : State) :
    (checkDown s).pins = s.pins ∧ (checkDown s).clock = s.clock ∧ (checkDown s).supply = s.supply ∧
    (checkDown s).resetCause = s.resetCause ∧ (checkDown s).loaded = s.loaded ∧ (checkDown s).rmu = s.rmu ∧
    (checkDown s).asc = s.asc ∧ (checkDown s).cabins = s.cabins ∧ (checkDown s).lists = s.lists ∧
    (checkDown s).stu = s.stu ∧ (checkDown s).dru = s.dru ∧ (checkDown s).lnu = s.lnu ∧ (checkDown s).lkc = s.lkc ∧
    (checkDown s).phn = s.phn ∧ (checkDown s).tal = s.tal ∧ (checkDown s).pfs = s.pfs ∧ (checkDown s).free = s.free ∧
    (checkDown s).pending = s.pending ∧ (checkDown s).ssv.mode = s.ssv.mode ∧
    (checkDown s).ssv.restricted = s.ssv.restricted ∧ (checkDown s).ssv.lastKeep = s.ssv.lastKeep ∧
    (checkDown s).ssv.deadline = s.ssv.deadline ∧ (checkDown s).spt.rx = s.spt.rx ∧
    (checkDown s).spt.stopped = s.spt.stopped ∧ (checkDown s).spt.replies = s.spt.replies ∧
    (checkDown s).spt.badFrames = s.spt.badFrames ∧ (checkDown s).spt.dropRequest = s.spt.dropRequest ∧
    (checkDown s).spt.tx = s.spt.tx := by
  generalize h : checkDown s = t
  unfold checkDown at h
  (try dsimp only at h)
  (repeat' split at h) <;> subst h <;> simp

end Sys2Proof.Machine
end

