-- ==== Sys2Proof/Laws/Settle.lean ====
section
/-! SUPPORT. What each operation of the end of every event leaves unchanged: every field of the state that it does not write. -/

-- One lemma after the other: side by side, their proofs need more memory in the joined text than the check has.
set_option Elab.async false

namespace Sys2Proof.Machine

@[simp] theorem handUp_keeps (old : Lists) (s : State) :
    (handUp old s).pins = s.pins ∧ (handUp old s).clock = s.clock ∧ (handUp old s).supply = s.supply ∧
    (handUp old s).resetCause = s.resetCause ∧ (handUp old s).loaded = s.loaded ∧ (handUp old s).rmu = s.rmu ∧
    (handUp old s).asc = s.asc ∧ (handUp old s).cabins = s.cabins ∧ (handUp old s).lists = s.lists ∧
    (handUp old s).stu = s.stu ∧ (handUp old s).dru = s.dru ∧ (handUp old s).lnu = s.lnu ∧
    (handUp old s).lkc = s.lkc ∧ (handUp old s).phn = s.phn ∧ (handUp old s).tal = s.tal ∧
    (handUp old s).pfs = s.pfs ∧ (handUp old s).free = s.free ∧ (handUp old s).pending = s.pending ∧
    (handUp old s).ssv.mode = s.ssv.mode ∧ (handUp old s).ssv.restricted = s.ssv.restricted ∧
    (handUp old s).ssv.lastKeep = s.ssv.lastKeep ∧ (handUp old s).ssv.deadline = s.ssv.deadline ∧
    (handUp old s).spt.rx = s.spt.rx ∧ (handUp old s).spt.stopped = s.spt.stopped ∧
    (handUp old s).spt.replies = s.spt.replies ∧ (handUp old s).spt.badFrames = s.spt.badFrames ∧
    (handUp old s).spt.dropRequest = s.spt.dropRequest ∧ (handUp old s).spt.tx = s.spt.tx := by
  generalize h : handUp old s = t
  unfold handUp at h
  (try dsimp only at h)
  (repeat' split at h) <;> subst h <;> simp

@[simp] theorem handDown_keeps (old : Lists) (s : State) :
    (handDown old s).pins = s.pins ∧ (handDown old s).clock = s.clock ∧ (handDown old s).supply = s.supply ∧
    (handDown old s).resetCause = s.resetCause ∧ (handDown old s).loaded = s.loaded ∧ (handDown old s).rmu = s.rmu ∧
    (handDown old s).asc = s.asc ∧ (handDown old s).cabins = s.cabins ∧ (handDown old s).lists = s.lists ∧
    (handDown old s).lnu = s.lnu ∧ (handDown old s).lkc = s.lkc ∧ (handDown old s).phn = s.phn ∧
    (handDown old s).tal = s.tal ∧ (handDown old s).pfs = s.pfs ∧ (handDown old s).free = s.free ∧
    (handDown old s).pending = s.pending ∧ (handDown old s).ssv.mode = s.ssv.mode ∧
    (handDown old s).ssv.restricted = s.ssv.restricted ∧ (handDown old s).ssv.lastKeep = s.ssv.lastKeep ∧
    (handDown old s).ssv.deadline = s.ssv.deadline ∧ (handDown old s).spt.rx = s.spt.rx ∧
    (handDown old s).spt.stopped = s.spt.stopped ∧ (handDown old s).spt.replies = s.spt.replies ∧
    (handDown old s).spt.badFrames = s.spt.badFrames ∧ (handDown old s).spt.dropRequest = s.spt.dropRequest ∧
    (handDown old s).spt.tx = s.spt.tx := by
  generalize h : handDown old s = t
  unfold handDown at h
  (try dsimp only at h)
  (repeat' split at h) <;> subst h <;> simp

@[simp] theorem trackEval_keeps (s : State) :
    (trackEval s).pins = s.pins ∧ (trackEval s).clock = s.clock ∧ (trackEval s).supply = s.supply ∧
    (trackEval s).resetCause = s.resetCause ∧ (trackEval s).loaded = s.loaded ∧ (trackEval s).rmu = s.rmu ∧
    (trackEval s).asc = s.asc ∧ (trackEval s).cabins = s.cabins ∧ (trackEval s).lists = s.lists ∧
    (trackEval s).stu = s.stu ∧ (trackEval s).dru = s.dru ∧ (trackEval s).lnu = s.lnu ∧ (trackEval s).ltu = s.ltu ∧
    (trackEval s).lkc = s.lkc ∧ (trackEval s).phn = s.phn ∧ (trackEval s).tal = s.tal ∧ (trackEval s).pfs = s.pfs ∧
    (trackEval s).free = s.free ∧ (trackEval s).pending = s.pending ∧ (trackEval s).ssv.mode = s.ssv.mode ∧
    (trackEval s).ssv.restricted = s.ssv.restricted ∧ (trackEval s).ssv.lastKeep = s.ssv.lastKeep ∧
    (trackEval s).ssv.deadline = s.ssv.deadline ∧ (trackEval s).spt.rx = s.spt.rx ∧
    (trackEval s).spt.stopped = s.spt.stopped ∧ (trackEval s).spt.replies = s.spt.replies ∧
    (trackEval s).spt.badFrames = s.spt.badFrames ∧ (trackEval s).spt.dropRequest = s.spt.dropRequest ∧
    (trackEval s).spt.tx = s.spt.tx := by
  generalize h : trackEval s = t
  unfold trackEval at h
  (try dsimp only at h)
  (repeat' split at h) <;> subst h <;> simp

@[simp] theorem settleCounts_keeps (old : Lists) (s : State) :
    (settleCounts old s).pins = s.pins ∧ (settleCounts old s).clock = s.clock ∧
    (settleCounts old s).supply = s.supply ∧ (settleCounts old s).resetCause = s.resetCause ∧
    (settleCounts old s).loaded = s.loaded ∧ (settleCounts old s).rmu = s.rmu ∧ (settleCounts old s).asc = s.asc ∧
    (settleCounts old s).cabins = s.cabins ∧ (settleCounts old s).stu = s.stu ∧ (settleCounts old s).dru = s.dru ∧
    (settleCounts old s).lnu = s.lnu ∧ (settleCounts old s).ltu = s.ltu ∧ (settleCounts old s).lkc = s.lkc ∧
    (settleCounts old s).phn = s.phn ∧ (settleCounts old s).ssv = s.ssv ∧ (settleCounts old s).tal = s.tal ∧
    (settleCounts old s).spt = s.spt ∧ (settleCounts old s).pfs = s.pfs ∧ (settleCounts old s).free = s.free ∧
    (settleCounts old s).pending = s.pending := by
  generalize h : settleCounts old s = t
  unfold settleCounts at h
  (try dsimp only at h)
  (repeat' split at h) <;> subst h <;> simp

@[simp] theorem settle_keeps (old : Lists) (s : State) :
    (settle old s).pins = s.pins ∧ (settle old s).clock = s.clock ∧ (settle old s).supply = s.supply ∧
    (settle old s).resetCause = s.resetCause ∧ (settle old s).loaded = s.loaded ∧ (settle old s).rmu = s.rmu ∧
    (settle old s).asc = s.asc ∧ (settle old s).cabins = s.cabins ∧ (settle old s).phn = s.phn ∧
    (settle old s).tal = s.tal ∧ (settle old s).pfs = s.pfs ∧ (settle old s).free = s.free ∧
    (settle old s).pending = s.pending ∧ (settle old s).ssv.mode = s.ssv.mode ∧
    (settle old s).ssv.restricted = s.ssv.restricted ∧ (settle old s).ssv.lastKeep = s.ssv.lastKeep ∧
    (settle old s).ssv.deadline = s.ssv.deadline ∧ (settle old s).spt.rx = s.spt.rx ∧
    (settle old s).spt.stopped = s.spt.stopped ∧ (settle old s).spt.replies = s.spt.replies ∧
    (settle old s).spt.badFrames = s.spt.badFrames ∧ (settle old s).spt.dropRequest = s.spt.dropRequest ∧
    (settle old s).spt.tx = s.spt.tx ∧ (settle old s).lkc.rx = s.lkc.rx ∧ (settle old s).lkc.towers = s.lkc.towers ∧
    (settle old s).lkc.ownNext = s.lkc.ownNext ∧ (settle old s).lkc.txCycle = s.lkc.txCycle := by
  generalize h : settle old s = t
  unfold settle at h
  (try dsimp only at h)
  (repeat' split at h) <;> subst h <;> simp

@[simp] theorem rdChanged_keeps (s : State) :
    (rdChanged s).pins = s.pins ∧ (rdChanged s).clock = s.clock ∧ (rdChanged s).supply = s.supply ∧
    (rdChanged s).resetCause = s.resetCause ∧ (rdChanged s).loaded = s.loaded ∧ (rdChanged s).rmu = s.rmu ∧
    (rdChanged s).asc = s.asc ∧ (rdChanged s).ltu = s.ltu ∧ (rdChanged s).lkc = s.lkc ∧ (rdChanged s).phn = s.phn ∧
    (rdChanged s).pfs = s.pfs ∧ (rdChanged s).free = s.free ∧ (rdChanged s).pending = s.pending ∧
    (rdChanged s).ssv.mode = s.ssv.mode ∧ (rdChanged s).ssv.restricted = s.ssv.restricted ∧
    (rdChanged s).ssv.lastKeep = s.ssv.lastKeep ∧ (rdChanged s).ssv.deadline = s.ssv.deadline ∧
    (rdChanged s).spt.rx = s.spt.rx ∧ (rdChanged s).spt.stopped = s.spt.stopped ∧
    (rdChanged s).spt.replies = s.spt.replies ∧ (rdChanged s).spt.badFrames = s.spt.badFrames ∧
    (rdChanged s).spt.dropRequest = s.spt.dropRequest ∧ (rdChanged s).spt.tx = s.spt.tx := by
  generalize h : rdChanged s = t
  unfold rdChanged at h
  (try dsimp only at h)
  (repeat' split at h) <;> subst h <;> simp

@[simp] theorem wheelPulse_keeps (s : State) :
    (wheelPulse s).pins = s.pins ∧ (wheelPulse s).clock = s.clock ∧ (wheelPulse s).supply = s.supply ∧
    (wheelPulse s).resetCause = s.resetCause ∧ (wheelPulse s).loaded = s.loaded ∧ (wheelPulse s).asc = s.asc ∧
    (wheelPulse s).ltu = s.ltu ∧ (wheelPulse s).lkc = s.lkc ∧ (wheelPulse s).phn = s.phn ∧
    (wheelPulse s).pfs = s.pfs ∧ (wheelPulse s).free = s.free ∧ (wheelPulse s).pending = s.pending ∧
    (wheelPulse s).ssv.mode = s.ssv.mode ∧ (wheelPulse s).ssv.restricted = s.ssv.restricted ∧
    (wheelPulse s).ssv.lastKeep = s.ssv.lastKeep ∧ (wheelPulse s).ssv.deadline = s.ssv.deadline ∧
    (wheelPulse s).spt.rx = s.spt.rx ∧ (wheelPulse s).spt.stopped = s.spt.stopped ∧
    (wheelPulse s).spt.replies = s.spt.replies ∧ (wheelPulse s).spt.badFrames = s.spt.badFrames ∧
    (wheelPulse s).spt.dropRequest = s.spt.dropRequest ∧ (wheelPulse s).spt.tx = s.spt.tx := by
  generalize h : wheelPulse s = t
  unfold wheelPulse at h
  (try dsimp only at h)
  (repeat' split at h) <;> subst h <;> simp

end Sys2Proof.Machine
end

