-- ==== Sys2Proof/Laws/Phone.lean ====
section
/-! SUPPORT. What each operation of the Phone Unit leaves unchanged: every field of the state that it does not write. -/

-- One lemma after the other: side by side, their proofs need more memory in the joined text than the check has.
set_option Elab.async false

namespace Sys2Proof.Machine

@[simp] theorem putCall_keeps (ch : CallChannel) (r : CallRecord) (s : State) :
    (putCall ch r s).pins = s.pins ∧ (putCall ch r s).clock = s.clock ∧ (putCall ch r s).supply = s.supply ∧
    (putCall ch r s).resetCause = s.resetCause ∧ (putCall ch r s).loaded = s.loaded ∧ (putCall ch r s).rmu = s.rmu ∧
    (putCall ch r s).asc = s.asc ∧ (putCall ch r s).cabins = s.cabins ∧ (putCall ch r s).lists = s.lists ∧
    (putCall ch r s).stu = s.stu ∧ (putCall ch r s).dru = s.dru ∧ (putCall ch r s).lnu = s.lnu ∧
    (putCall ch r s).ltu = s.ltu ∧ (putCall ch r s).lkc = s.lkc ∧ (putCall ch r s).ssv = s.ssv ∧
    (putCall ch r s).tal = s.tal ∧ (putCall ch r s).spt = s.spt ∧ (putCall ch r s).pfs = s.pfs ∧
    (putCall ch r s).free = s.free ∧ (putCall ch r s).pending = s.pending := by
  generalize h : putCall ch r s = t
  unfold putCall at h
  (try dsimp only at h)
  (repeat' split at h) <;> subst h <;> simp

@[simp] theorem enterCall_keeps (ch : CallChannel) (st : CallState) (o : Option CallOrigin) (t : Option TimerKind) (why : CallReason)
    (s : State) :
    (enterCall ch st o t why s).pins = s.pins ∧ (enterCall ch st o t why s).clock = s.clock ∧
    (enterCall ch st o t why s).supply = s.supply ∧ (enterCall ch st o t why s).resetCause = s.resetCause ∧
    (enterCall ch st o t why s).loaded = s.loaded ∧ (enterCall ch st o t why s).rmu = s.rmu ∧
    (enterCall ch st o t why s).asc = s.asc ∧ (enterCall ch st o t why s).cabins = s.cabins ∧
    (enterCall ch st o t why s).lists = s.lists ∧ (enterCall ch st o t why s).stu = s.stu ∧
    (enterCall ch st o t why s).dru = s.dru ∧ (enterCall ch st o t why s).lnu = s.lnu ∧
    (enterCall ch st o t why s).ltu = s.ltu ∧ (enterCall ch st o t why s).lkc = s.lkc ∧
    (enterCall ch st o t why s).ssv = s.ssv ∧ (enterCall ch st o t why s).tal = s.tal ∧
    (enterCall ch st o t why s).pfs = s.pfs ∧ (enterCall ch st o t why s).free = s.free ∧
    (enterCall ch st o t why s).pending = s.pending ∧ (enterCall ch st o t why s).spt.rx = s.spt.rx ∧
    (enterCall ch st o t why s).spt.stopped = s.spt.stopped ∧
    (enterCall ch st o t why s).spt.replies = s.spt.replies ∧
    (enterCall ch st o t why s).spt.badFrames = s.spt.badFrames ∧
    (enterCall ch st o t why s).spt.dropRequest = s.spt.dropRequest ∧ (enterCall ch st o t why s).spt.tx = s.spt.tx := by
  generalize h : enterCall ch st o t why s = t
  unfold enterCall at h
  (try dsimp only at h)
  (repeat' split at h) <;> subst h <;> simp

@[simp] theorem toIdle_keeps (ch : CallChannel) (why : CallReason) (s : State) :
    (toIdle ch why s).pins = s.pins ∧ (toIdle ch why s).clock = s.clock ∧ (toIdle ch why s).supply = s.supply ∧
    (toIdle ch why s).resetCause = s.resetCause ∧ (toIdle ch why s).loaded = s.loaded ∧
    (toIdle ch why s).rmu = s.rmu ∧ (toIdle ch why s).asc = s.asc ∧ (toIdle ch why s).cabins = s.cabins ∧
    (toIdle ch why s).lists = s.lists ∧ (toIdle ch why s).stu = s.stu ∧ (toIdle ch why s).dru = s.dru ∧
    (toIdle ch why s).lnu = s.lnu ∧ (toIdle ch why s).ltu = s.ltu ∧ (toIdle ch why s).lkc = s.lkc ∧
    (toIdle ch why s).ssv = s.ssv ∧ (toIdle ch why s).tal = s.tal ∧ (toIdle ch why s).pfs = s.pfs ∧
    (toIdle ch why s).free = s.free ∧ (toIdle ch why s).pending = s.pending ∧ (toIdle ch why s).spt.rx = s.spt.rx ∧
    (toIdle ch why s).spt.stopped = s.spt.stopped ∧ (toIdle ch why s).spt.replies = s.spt.replies ∧
    (toIdle ch why s).spt.badFrames = s.spt.badFrames ∧ (toIdle ch why s).spt.dropRequest = s.spt.dropRequest ∧
    (toIdle ch why s).spt.tx = s.spt.tx := by
  generalize h : toIdle ch why s = t
  unfold toIdle at h
  (try dsimp only at h)
  (repeat' split at h) <;> subst h <;> simp

@[simp] theorem toRinging_keeps (ch : CallChannel) (why : CallReason) (s : State) :
    (toRinging ch why s).pins = s.pins ∧ (toRinging ch why s).clock = s.clock ∧
    (toRinging ch why s).supply = s.supply ∧ (toRinging ch why s).resetCause = s.resetCause ∧
    (toRinging ch why s).loaded = s.loaded ∧ (toRinging ch why s).rmu = s.rmu ∧ (toRinging ch why s).asc = s.asc ∧
    (toRinging ch why s).cabins = s.cabins ∧ (toRinging ch why s).lists = s.lists ∧
    (toRinging ch why s).stu = s.stu ∧ (toRinging ch why s).dru = s.dru ∧ (toRinging ch why s).lnu = s.lnu ∧
    (toRinging ch why s).ltu = s.ltu ∧ (toRinging ch why s).lkc = s.lkc ∧ (toRinging ch why s).ssv = s.ssv ∧
    (toRinging ch why s).tal = s.tal ∧ (toRinging ch why s).pfs = s.pfs ∧ (toRinging ch why s).free = s.free ∧
    (toRinging ch why s).pending = s.pending ∧ (toRinging ch why s).spt.rx = s.spt.rx ∧
    (toRinging ch why s).spt.stopped = s.spt.stopped ∧ (toRinging ch why s).spt.replies = s.spt.replies ∧
    (toRinging ch why s).spt.badFrames = s.spt.badFrames ∧ (toRinging ch why s).spt.dropRequest = s.spt.dropRequest ∧
    (toRinging ch why s).spt.tx = s.spt.tx := by
  generalize h : toRinging ch why s = t
  unfold toRinging at h
  (try dsimp only at h)
  (repeat' split at h) <;> subst h <;> simp

@[simp] theorem toConnected_keeps (ch : CallChannel) (s : State) :
    (toConnected ch s).pins = s.pins ∧ (toConnected ch s).clock = s.clock ∧ (toConnected ch s).supply = s.supply ∧
    (toConnected ch s).resetCause = s.resetCause ∧ (toConnected ch s).loaded = s.loaded ∧
    (toConnected ch s).rmu = s.rmu ∧ (toConnected ch s).asc = s.asc ∧ (toConnected ch s).cabins = s.cabins ∧
    (toConnected ch s).lists = s.lists ∧ (toConnected ch s).stu = s.stu ∧ (toConnected ch s).dru = s.dru ∧
    (toConnected ch s).lnu = s.lnu ∧ (toConnected ch s).ltu = s.ltu ∧ (toConnected ch s).lkc = s.lkc ∧
    (toConnected ch s).ssv = s.ssv ∧ (toConnected ch s).tal = s.tal ∧ (toConnected ch s).pfs = s.pfs ∧
    (toConnected ch s).free = s.free ∧ (toConnected ch s).pending = s.pending ∧
    (toConnected ch s).spt.rx = s.spt.rx ∧ (toConnected ch s).spt.stopped = s.spt.stopped ∧
    (toConnected ch s).spt.replies = s.spt.replies ∧ (toConnected ch s).spt.badFrames = s.spt.badFrames ∧
    (toConnected ch s).spt.dropRequest = s.spt.dropRequest ∧ (toConnected ch s).spt.tx = s.spt.tx := by
  generalize h : toConnected ch s = t
  unfold toConnected at h
  (try dsimp only at h)
  (repeat' split at h) <;> subst h <;> simp

@[simp] theorem toClearing_keeps (ch : CallChannel) (why : CallReason) (s : State) :
    (toClearing ch why s).pins = s.pins ∧ (toClearing ch why s).clock = s.clock ∧
    (toClearing ch why s).supply = s.supply ∧ (toClearing ch why s).resetCause = s.resetCause ∧
    (toClearing ch why s).loaded = s.loaded ∧ (toClearing ch why s).rmu = s.rmu ∧ (toClearing ch why s).asc = s.asc ∧
    (toClearing ch why s).cabins = s.cabins ∧ (toClearing ch why s).lists = s.lists ∧
    (toClearing ch why s).stu = s.stu ∧ (toClearing ch why s).dru = s.dru ∧ (toClearing ch why s).lnu = s.lnu ∧
    (toClearing ch why s).ltu = s.ltu ∧ (toClearing ch why s).lkc = s.lkc ∧ (toClearing ch why s).ssv = s.ssv ∧
    (toClearing ch why s).tal = s.tal ∧ (toClearing ch why s).pfs = s.pfs ∧ (toClearing ch why s).free = s.free ∧
    (toClearing ch why s).pending = s.pending ∧ (toClearing ch why s).spt.rx = s.spt.rx ∧
    (toClearing ch why s).spt.stopped = s.spt.stopped ∧ (toClearing ch why s).spt.replies = s.spt.replies ∧
    (toClearing ch why s).spt.badFrames = s.spt.badFrames ∧
    (toClearing ch why s).spt.dropRequest = s.spt.dropRequest ∧ (toClearing ch why s).spt.tx = s.spt.tx := by
  generalize h : toClearing ch why s = t
  unfold toClearing at h
  (try dsimp only at h)
  (repeat' split at h) <;> subst h <;> simp

@[simp] theorem placeCall_keeps (ch : CallChannel) (s : State) :
    (placeCall ch s).pins = s.pins ∧ (placeCall ch s).clock = s.clock ∧ (placeCall ch s).supply = s.supply ∧
    (placeCall ch s).resetCause = s.resetCause ∧ (placeCall ch s).loaded = s.loaded ∧ (placeCall ch s).rmu = s.rmu ∧
    (placeCall ch s).asc = s.asc ∧ (placeCall ch s).cabins = s.cabins ∧ (placeCall ch s).lists = s.lists ∧
    (placeCall ch s).stu = s.stu ∧ (placeCall ch s).dru = s.dru ∧ (placeCall ch s).lnu = s.lnu ∧
    (placeCall ch s).ltu = s.ltu ∧ (placeCall ch s).lkc = s.lkc ∧ (placeCall ch s).ssv = s.ssv ∧
    (placeCall ch s).tal = s.tal ∧ (placeCall ch s).pfs = s.pfs ∧ (placeCall ch s).free = s.free ∧
    (placeCall ch s).pending = s.pending ∧ (placeCall ch s).spt.rx = s.spt.rx ∧
    (placeCall ch s).spt.stopped = s.spt.stopped ∧ (placeCall ch s).spt.replies = s.spt.replies ∧
    (placeCall ch s).spt.badFrames = s.spt.badFrames ∧ (placeCall ch s).spt.dropRequest = s.spt.dropRequest ∧
    (placeCall ch s).spt.tx = s.spt.tx := by
  generalize h : placeCall ch s = t
  unfold placeCall at h
  (try dsimp only at h)
  (repeat' split at h) <;> subst h <;> simp

@[simp] theorem farEvent_keeps (ch : CallChannel) (c : CallCode) (s : State) :
    (farEvent ch c s).pins = s.pins ∧ (farEvent ch c s).clock = s.clock ∧ (farEvent ch c s).supply = s.supply ∧
    (farEvent ch c s).resetCause = s.resetCause ∧ (farEvent ch c s).loaded = s.loaded ∧
    (farEvent ch c s).rmu = s.rmu ∧ (farEvent ch c s).asc = s.asc ∧ (farEvent ch c s).cabins = s.cabins ∧
    (farEvent ch c s).lists = s.lists ∧ (farEvent ch c s).stu = s.stu ∧ (farEvent ch c s).dru = s.dru ∧
    (farEvent ch c s).lnu = s.lnu ∧ (farEvent ch c s).ltu = s.ltu ∧ (farEvent ch c s).lkc = s.lkc ∧
    (farEvent ch c s).ssv = s.ssv ∧ (farEvent ch c s).tal = s.tal ∧ (farEvent ch c s).pfs = s.pfs ∧
    (farEvent ch c s).free = s.free ∧ (farEvent ch c s).pending = s.pending ∧ (farEvent ch c s).spt.rx = s.spt.rx ∧
    (farEvent ch c s).spt.stopped = s.spt.stopped ∧ (farEvent ch c s).spt.replies = s.spt.replies ∧
    (farEvent ch c s).spt.badFrames = s.spt.badFrames ∧ (farEvent ch c s).spt.dropRequest = s.spt.dropRequest ∧
    (farEvent ch c s).spt.tx = s.spt.tx := by
  generalize h : farEvent ch c s = t
  unfold farEvent at h
  (try dsimp only at h)
  (repeat' split at h) <;> subst h <;> simp

@[simp] theorem farCode_keeps (ch : CallChannel) (old new : BitVec 3) (s : State) :
    (farCode ch old new s).pins = s.pins ∧ (farCode ch old new s).clock = s.clock ∧
    (farCode ch old new s).supply = s.supply ∧ (farCode ch old new s).resetCause = s.resetCause ∧
    (farCode ch old new s).loaded = s.loaded ∧ (farCode ch old new s).rmu = s.rmu ∧
    (farCode ch old new s).asc = s.asc ∧ (farCode ch old new s).cabins = s.cabins ∧
    (farCode ch old new s).lists = s.lists ∧ (farCode ch old new s).stu = s.stu ∧
    (farCode ch old new s).dru = s.dru ∧ (farCode ch old new s).lnu = s.lnu ∧ (farCode ch old new s).ltu = s.ltu ∧
    (farCode ch old new s).lkc = s.lkc ∧ (farCode ch old new s).ssv = s.ssv ∧ (farCode ch old new s).tal = s.tal ∧
    (farCode ch old new s).pfs = s.pfs ∧ (farCode ch old new s).free = s.free ∧
    (farCode ch old new s).pending = s.pending ∧ (farCode ch old new s).spt.rx = s.spt.rx ∧
    (farCode ch old new s).spt.stopped = s.spt.stopped ∧ (farCode ch old new s).spt.replies = s.spt.replies ∧
    (farCode ch old new s).spt.badFrames = s.spt.badFrames ∧
    (farCode ch old new s).spt.dropRequest = s.spt.dropRequest ∧ (farCode ch old new s).spt.tx = s.spt.tx := by
  generalize h : farCode ch old new s = t
  unfold farCode at h
  (try dsimp only at h)
  (repeat' split at h) <;> subst h <;> simp

@[simp] theorem callLost_keeps (ch : CallChannel) (s : State) :
    (callLost ch s).pins = s.pins ∧ (callLost ch s).clock = s.clock ∧ (callLost ch s).supply = s.supply ∧
    (callLost ch s).resetCause = s.resetCause ∧ (callLost ch s).loaded = s.loaded ∧ (callLost ch s).rmu = s.rmu ∧
    (callLost ch s).asc = s.asc ∧ (callLost ch s).cabins = s.cabins ∧ (callLost ch s).lists = s.lists ∧
    (callLost ch s).stu = s.stu ∧ (callLost ch s).dru = s.dru ∧ (callLost ch s).lnu = s.lnu ∧
    (callLost ch s).ltu = s.ltu ∧ (callLost ch s).lkc = s.lkc ∧ (callLost ch s).ssv = s.ssv ∧
    (callLost ch s).tal = s.tal ∧ (callLost ch s).pfs = s.pfs ∧ (callLost ch s).free = s.free ∧
    (callLost ch s).pending = s.pending ∧ (callLost ch s).spt.rx = s.spt.rx ∧
    (callLost ch s).spt.stopped = s.spt.stopped ∧ (callLost ch s).spt.replies = s.spt.replies ∧
    (callLost ch s).spt.badFrames = s.spt.badFrames ∧ (callLost ch s).spt.dropRequest = s.spt.dropRequest ∧
    (callLost ch s).spt.tx = s.spt.tx := by
  generalize h : callLost ch s = t
  unfold callLost at h
  (try dsimp only at h)
  (repeat' split at h) <;> subst h <;> simp

@[simp] theorem seizeExpiry_keeps (ch : CallChannel) (s : State) :
    (seizeExpiry ch s).pins = s.pins ∧ (seizeExpiry ch s).clock = s.clock ∧ (seizeExpiry ch s).supply = s.supply ∧
    (seizeExpiry ch s).resetCause = s.resetCause ∧ (seizeExpiry ch s).loaded = s.loaded ∧
    (seizeExpiry ch s).rmu = s.rmu ∧ (seizeExpiry ch s).asc = s.asc ∧ (seizeExpiry ch s).cabins = s.cabins ∧
    (seizeExpiry ch s).lists = s.lists ∧ (seizeExpiry ch s).stu = s.stu ∧ (seizeExpiry ch s).dru = s.dru ∧
    (seizeExpiry ch s).lnu = s.lnu ∧ (seizeExpiry ch s).ltu = s.ltu ∧ (seizeExpiry ch s).lkc = s.lkc ∧
    (seizeExpiry ch s).ssv = s.ssv ∧ (seizeExpiry ch s).tal = s.tal ∧ (seizeExpiry ch s).pfs = s.pfs ∧
    (seizeExpiry ch s).free = s.free ∧ (seizeExpiry ch s).pending = s.pending ∧
    (seizeExpiry ch s).spt.rx = s.spt.rx ∧ (seizeExpiry ch s).spt.stopped = s.spt.stopped ∧
    (seizeExpiry ch s).spt.replies = s.spt.replies ∧ (seizeExpiry ch s).spt.badFrames = s.spt.badFrames ∧
    (seizeExpiry ch s).spt.dropRequest = s.spt.dropRequest ∧ (seizeExpiry ch s).spt.tx = s.spt.tx := by
  generalize h : seizeExpiry ch s = t
  unfold seizeExpiry at h
  (try dsimp only at h)
  (repeat' split at h) <;> subst h <;> simp

@[simp] theorem ringExpiry_keeps (ch : CallChannel) (s : State) :
    (ringExpiry ch s).pins = s.pins ∧ (ringExpiry ch s).clock = s.clock ∧ (ringExpiry ch s).supply = s.supply ∧
    (ringExpiry ch s).resetCause = s.resetCause ∧ (ringExpiry ch s).loaded = s.loaded ∧
    (ringExpiry ch s).rmu = s.rmu ∧ (ringExpiry ch s).asc = s.asc ∧ (ringExpiry ch s).cabins = s.cabins ∧
    (ringExpiry ch s).lists = s.lists ∧ (ringExpiry ch s).stu = s.stu ∧ (ringExpiry ch s).dru = s.dru ∧
    (ringExpiry ch s).lnu = s.lnu ∧ (ringExpiry ch s).ltu = s.ltu ∧ (ringExpiry ch s).lkc = s.lkc ∧
    (ringExpiry ch s).ssv = s.ssv ∧ (ringExpiry ch s).tal = s.tal ∧ (ringExpiry ch s).pfs = s.pfs ∧
    (ringExpiry ch s).free = s.free ∧ (ringExpiry ch s).pending = s.pending ∧ (ringExpiry ch s).spt.rx = s.spt.rx ∧
    (ringExpiry ch s).spt.stopped = s.spt.stopped ∧ (ringExpiry ch s).spt.replies = s.spt.replies ∧
    (ringExpiry ch s).spt.badFrames = s.spt.badFrames ∧ (ringExpiry ch s).spt.dropRequest = s.spt.dropRequest ∧
    (ringExpiry ch s).spt.tx = s.spt.tx := by
  generalize h : ringExpiry ch s = t
  unfold ringExpiry at h
  (try dsimp only at h)
  (repeat' split at h) <;> subst h <;> simp

@[simp] theorem guardExpiry_keeps (ch : CallChannel) (s : State) :
    (guardExpiry ch s).pins = s.pins ∧ (guardExpiry ch s).clock = s.clock ∧ (guardExpiry ch s).supply = s.supply ∧
    (guardExpiry ch s).resetCause = s.resetCause ∧ (guardExpiry ch s).loaded = s.loaded ∧
    (guardExpiry ch s).rmu = s.rmu ∧ (guardExpiry ch s).asc = s.asc ∧ (guardExpiry ch s).cabins = s.cabins ∧
    (guardExpiry ch s).lists = s.lists ∧ (guardExpiry ch s).stu = s.stu ∧ (guardExpiry ch s).dru = s.dru ∧
    (guardExpiry ch s).lnu = s.lnu ∧ (guardExpiry ch s).ltu = s.ltu ∧ (guardExpiry ch s).lkc = s.lkc ∧
    (guardExpiry ch s).ssv = s.ssv ∧ (guardExpiry ch s).tal = s.tal ∧ (guardExpiry ch s).pfs = s.pfs ∧
    (guardExpiry ch s).free = s.free ∧ (guardExpiry ch s).pending = s.pending ∧
    (guardExpiry ch s).spt.rx = s.spt.rx ∧ (guardExpiry ch s).spt.stopped = s.spt.stopped ∧
    (guardExpiry ch s).spt.replies = s.spt.replies ∧ (guardExpiry ch s).spt.badFrames = s.spt.badFrames ∧
    (guardExpiry ch s).spt.dropRequest = s.spt.dropRequest ∧ (guardExpiry ch s).spt.tx = s.spt.tx := by
  generalize h : guardExpiry ch s = t
  unfold guardExpiry at h
  (try dsimp only at h)
  (repeat' split at h) <;> subst h <;> simp

@[simp] theorem goodVoice_keeps (ch : CallChannel) (v : Voice) (s : State) :
    (goodVoice ch v s).pins = s.pins ∧ (goodVoice ch v s).clock = s.clock ∧ (goodVoice ch v s).supply = s.supply ∧
    (goodVoice ch v s).resetCause = s.resetCause ∧ (goodVoice ch v s).loaded = s.loaded ∧
    (goodVoice ch v s).rmu = s.rmu ∧ (goodVoice ch v s).asc = s.asc ∧ (goodVoice ch v s).cabins = s.cabins ∧
    (goodVoice ch v s).lists = s.lists ∧ (goodVoice ch v s).stu = s.stu ∧ (goodVoice ch v s).dru = s.dru ∧
    (goodVoice ch v s).lnu = s.lnu ∧ (goodVoice ch v s).ltu = s.ltu ∧ (goodVoice ch v s).lkc = s.lkc ∧
    (goodVoice ch v s).ssv = s.ssv ∧ (goodVoice ch v s).tal = s.tal ∧ (goodVoice ch v s).spt = s.spt ∧
    (goodVoice ch v s).pfs = s.pfs ∧ (goodVoice ch v s).free = s.free ∧ (goodVoice ch v s).pending = s.pending := by
  generalize h : goodVoice ch v s = t
  unfold goodVoice at h
  (try dsimp only at h)
  (repeat' split at h) <;> subst h <;> simp

@[simp] theorem badMark_keeps (ch : CallChannel) (s : State) :
    (badMark ch s).pins = s.pins ∧ (badMark ch s).clock = s.clock ∧ (badMark ch s).supply = s.supply ∧
    (badMark ch s).resetCause = s.resetCause ∧ (badMark ch s).loaded = s.loaded ∧ (badMark ch s).rmu = s.rmu ∧
    (badMark ch s).asc = s.asc ∧ (badMark ch s).cabins = s.cabins ∧ (badMark ch s).lists = s.lists ∧
    (badMark ch s).stu = s.stu ∧ (badMark ch s).dru = s.dru ∧ (badMark ch s).lnu = s.lnu ∧
    (badMark ch s).ltu = s.ltu ∧ (badMark ch s).lkc = s.lkc ∧ (badMark ch s).ssv = s.ssv ∧
    (badMark ch s).tal = s.tal ∧ (badMark ch s).spt = s.spt ∧ (badMark ch s).pfs = s.pfs ∧
    (badMark ch s).free = s.free ∧ (badMark ch s).pending = s.pending := by
  generalize h : badMark ch s = t
  unfold badMark at h
  (try dsimp only at h)
  (repeat' split at h) <;> subst h <;> simp

@[simp] theorem badMarks_keeps (s : State) :
    (badMarks s).pins = s.pins ∧ (badMarks s).clock = s.clock ∧ (badMarks s).supply = s.supply ∧
    (badMarks s).resetCause = s.resetCause ∧ (badMarks s).loaded = s.loaded ∧ (badMarks s).rmu = s.rmu ∧
    (badMarks s).asc = s.asc ∧ (badMarks s).cabins = s.cabins ∧ (badMarks s).lists = s.lists ∧
    (badMarks s).stu = s.stu ∧ (badMarks s).dru = s.dru ∧ (badMarks s).lnu = s.lnu ∧ (badMarks s).ltu = s.ltu ∧
    (badMarks s).lkc = s.lkc ∧ (badMarks s).ssv = s.ssv ∧ (badMarks s).tal = s.tal ∧ (badMarks s).spt = s.spt ∧
    (badMarks s).pfs = s.pfs ∧ (badMarks s).free = s.free ∧ (badMarks s).pending = s.pending := by
  generalize h : badMarks s = t
  unfold badMarks at h
  (try dsimp only at h)
  (repeat' split at h) <;> subst h <;> simp

@[simp] theorem portFrame_keeps (ch : CallChannel) (v : Voice) (s : State) :
    (portFrame ch v s).pins = s.pins ∧ (portFrame ch v s).clock = s.clock ∧ (portFrame ch v s).supply = s.supply ∧
    (portFrame ch v s).resetCause = s.resetCause ∧ (portFrame ch v s).loaded = s.loaded ∧
    (portFrame ch v s).rmu = s.rmu ∧ (portFrame ch v s).asc = s.asc ∧ (portFrame ch v s).cabins = s.cabins ∧
    (portFrame ch v s).lists = s.lists ∧ (portFrame ch v s).stu = s.stu ∧ (portFrame ch v s).dru = s.dru ∧
    (portFrame ch v s).lnu = s.lnu ∧ (portFrame ch v s).ltu = s.ltu ∧ (portFrame ch v s).lkc = s.lkc ∧
    (portFrame ch v s).ssv = s.ssv ∧ (portFrame ch v s).tal = s.tal ∧ (portFrame ch v s).spt = s.spt ∧
    (portFrame ch v s).pfs = s.pfs ∧ (portFrame ch v s).free = s.free ∧ (portFrame ch v s).pending = s.pending := by
  generalize h : portFrame ch v s = t
  unfold portFrame at h
  (try dsimp only at h)
  (repeat' split at h) <;> subst h <;> simp

end Sys2Proof.Machine
end

