-- ==== Sys2Proof/Laws/Records.lean ====
section
/-! SUPPORT. What each operation of the record channel leaves unchanged: every field of the state that it does not write. -/

-- One lemma after the other: side by side, their proofs need more memory in the joined text than the check has.
set_option Elab.async false

namespace Sys2Proof.Machine

@[simp] theorem slotEmptied_keeps (s : State) :
    (slotEmptied s).pins = s.pins ∧ (slotEmptied s).clock = s.clock ∧ (slotEmptied s).supply = s.supply ∧
    (slotEmptied s).resetCause = s.resetCause ∧ (slotEmptied s).loaded = s.loaded ∧ (slotEmptied s).rmu = s.rmu ∧
    (slotEmptied s).asc = s.asc ∧ (slotEmptied s).cabins = s.cabins ∧ (slotEmptied s).lists = s.lists ∧
    (slotEmptied s).stu = s.stu ∧ (slotEmptied s).dru = s.dru ∧ (slotEmptied s).lnu = s.lnu ∧
    (slotEmptied s).phn = s.phn ∧ (slotEmptied s).ssv = s.ssv ∧ (slotEmptied s).tal = s.tal ∧
    (slotEmptied s).spt = s.spt ∧ (slotEmptied s).pfs = s.pfs ∧ (slotEmptied s).free = s.free ∧
    (slotEmptied s).pending = s.pending ∧ (slotEmptied s).lkc.rx = s.lkc.rx ∧
    (slotEmptied s).lkc.towers = s.lkc.towers ∧ (slotEmptied s).lkc.ownNext = s.lkc.ownNext ∧
    (slotEmptied s).lkc.txCycle = s.lkc.txCycle := by
  generalize h : slotEmptied s = t
  unfold slotEmptied at h
  (try dsimp only at h)
  (repeat' split at h) <;> subst h <;> simp

@[simp] theorem evalPause_keeps (s : State) :
    (evalPause s).pins = s.pins ∧ (evalPause s).clock = s.clock ∧ (evalPause s).supply = s.supply ∧
    (evalPause s).resetCause = s.resetCause ∧ (evalPause s).loaded = s.loaded ∧ (evalPause s).rmu = s.rmu ∧
    (evalPause s).asc = s.asc ∧ (evalPause s).cabins = s.cabins ∧ (evalPause s).lists = s.lists ∧
    (evalPause s).stu = s.stu ∧ (evalPause s).dru = s.dru ∧ (evalPause s).lnu = s.lnu ∧ (evalPause s).ltu = s.ltu ∧
    (evalPause s).phn = s.phn ∧ (evalPause s).ssv = s.ssv ∧ (evalPause s).tal = s.tal ∧ (evalPause s).spt = s.spt ∧
    (evalPause s).pfs = s.pfs ∧ (evalPause s).free = s.free ∧ (evalPause s).pending = s.pending ∧
    (evalPause s).lkc.rx = s.lkc.rx ∧ (evalPause s).lkc.towers = s.lkc.towers ∧
    (evalPause s).lkc.ownNext = s.lkc.ownNext ∧ (evalPause s).lkc.txCycle = s.lkc.txCycle := by
  generalize h : evalPause s = t
  unfold evalPause at h
  (try dsimp only at h)
  (repeat' split at h) <;> subst h <;> simp

@[simp] theorem discardRecord_keeps (s : State) :
    (discardRecord s).pins = s.pins ∧ (discardRecord s).clock = s.clock ∧ (discardRecord s).supply = s.supply ∧
    (discardRecord s).resetCause = s.resetCause ∧ (discardRecord s).loaded = s.loaded ∧
    (discardRecord s).rmu = s.rmu ∧ (discardRecord s).asc = s.asc ∧ (discardRecord s).cabins = s.cabins ∧
    (discardRecord s).lists = s.lists ∧ (discardRecord s).stu = s.stu ∧ (discardRecord s).dru = s.dru ∧
    (discardRecord s).lnu = s.lnu ∧ (discardRecord s).ltu = s.ltu ∧ (discardRecord s).phn = s.phn ∧
    (discardRecord s).ssv = s.ssv ∧ (discardRecord s).tal = s.tal ∧ (discardRecord s).spt = s.spt ∧
    (discardRecord s).pfs = s.pfs ∧ (discardRecord s).free = s.free ∧ (discardRecord s).pending = s.pending ∧
    (discardRecord s).lkc.rx = s.lkc.rx ∧ (discardRecord s).lkc.towers = s.lkc.towers ∧
    (discardRecord s).lkc.ownNext = s.lkc.ownNext ∧ (discardRecord s).lkc.txCycle = s.lkc.txCycle := by
  generalize h : discardRecord s = t
  unfold discardRecord at h
  (try dsimp only at h)
  (repeat' split at h) <;> subst h <;> simp

@[simp] theorem applyNamedArrived_keeps (n : Nat) (s : State) :
    (applyNamed applyArrived n s).pins = s.pins ∧ (applyNamed applyArrived n s).clock = s.clock ∧
    (applyNamed applyArrived n s).supply = s.supply ∧ (applyNamed applyArrived n s).resetCause = s.resetCause ∧
    (applyNamed applyArrived n s).loaded = s.loaded ∧ (applyNamed applyArrived n s).rmu = s.rmu ∧
    (applyNamed applyArrived n s).asc = s.asc ∧ (applyNamed applyArrived n s).stu = s.stu ∧
    (applyNamed applyArrived n s).dru = s.dru ∧ (applyNamed applyArrived n s).lnu = s.lnu ∧
    (applyNamed applyArrived n s).ltu = s.ltu ∧ (applyNamed applyArrived n s).lkc = s.lkc ∧
    (applyNamed applyArrived n s).phn = s.phn ∧ (applyNamed applyArrived n s).tal = s.tal ∧
    (applyNamed applyArrived n s).pfs = s.pfs ∧ (applyNamed applyArrived n s).free = s.free ∧
    (applyNamed applyArrived n s).pending = s.pending ∧ (applyNamed applyArrived n s).ssv.mode = s.ssv.mode ∧
    (applyNamed applyArrived n s).ssv.restricted = s.ssv.restricted ∧
    (applyNamed applyArrived n s).ssv.lastKeep = s.ssv.lastKeep ∧
    (applyNamed applyArrived n s).ssv.deadline = s.ssv.deadline ∧ (applyNamed applyArrived n s).spt.rx = s.spt.rx ∧
    (applyNamed applyArrived n s).spt.stopped = s.spt.stopped ∧
    (applyNamed applyArrived n s).spt.replies = s.spt.replies ∧
    (applyNamed applyArrived n s).spt.badFrames = s.spt.badFrames ∧
    (applyNamed applyArrived n s).spt.dropRequest = s.spt.dropRequest ∧
    (applyNamed applyArrived n s).spt.tx = s.spt.tx := by
  generalize h : applyNamed applyArrived n s = t
  unfold applyNamed at h
  (try dsimp only at h)
  (repeat' split at h) <;> subst h <;> simp

@[simp] theorem applyNamedDeparted_keeps (n : Nat) (s : State) :
    (applyNamed applyDeparted n s).pins = s.pins ∧ (applyNamed applyDeparted n s).clock = s.clock ∧
    (applyNamed applyDeparted n s).supply = s.supply ∧ (applyNamed applyDeparted n s).resetCause = s.resetCause ∧
    (applyNamed applyDeparted n s).loaded = s.loaded ∧ (applyNamed applyDeparted n s).rmu = s.rmu ∧
    (applyNamed applyDeparted n s).asc = s.asc ∧ (applyNamed applyDeparted n s).stu = s.stu ∧
    (applyNamed applyDeparted n s).dru = s.dru ∧ (applyNamed applyDeparted n s).lnu = s.lnu ∧
    (applyNamed applyDeparted n s).ltu = s.ltu ∧ (applyNamed applyDeparted n s).lkc = s.lkc ∧
    (applyNamed applyDeparted n s).phn = s.phn ∧ (applyNamed applyDeparted n s).tal = s.tal ∧
    (applyNamed applyDeparted n s).pfs = s.pfs ∧ (applyNamed applyDeparted n s).free = s.free ∧
    (applyNamed applyDeparted n s).pending = s.pending ∧ (applyNamed applyDeparted n s).ssv.mode = s.ssv.mode ∧
    (applyNamed applyDeparted n s).ssv.restricted = s.ssv.restricted ∧
    (applyNamed applyDeparted n s).ssv.lastKeep = s.ssv.lastKeep ∧
    (applyNamed applyDeparted n s).ssv.deadline = s.ssv.deadline ∧ (applyNamed applyDeparted n s).spt.rx = s.spt.rx ∧
    (applyNamed applyDeparted n s).spt.stopped = s.spt.stopped ∧
    (applyNamed applyDeparted n s).spt.replies = s.spt.replies ∧
    (applyNamed applyDeparted n s).spt.badFrames = s.spt.badFrames ∧
    (applyNamed applyDeparted n s).spt.dropRequest = s.spt.dropRequest ∧
    (applyNamed applyDeparted n s).spt.tx = s.spt.tx := by
  generalize h : applyNamed applyDeparted n s = t
  unfold applyNamed at h
  (try dsimp only at h)
  (repeat' split at h) <;> subst h <;> simp

@[simp] theorem handRecord_keeps (k : RecordKind) (body : List Byte) (s : State) :
    (handRecord k body s).pins = s.pins ∧ (handRecord k body s).clock = s.clock ∧
    (handRecord k body s).supply = s.supply ∧ (handRecord k body s).resetCause = s.resetCause ∧
    (handRecord k body s).loaded = s.loaded ∧ (handRecord k body s).rmu = s.rmu ∧ (handRecord k body s).asc = s.asc ∧
    (handRecord k body s).stu = s.stu ∧ (handRecord k body s).dru = s.dru ∧ (handRecord k body s).lnu = s.lnu ∧
    (handRecord k body s).phn = s.phn ∧ (handRecord k body s).tal = s.tal ∧ (handRecord k body s).pfs = s.pfs ∧
    (handRecord k body s).free = s.free ∧ (handRecord k body s).pending = s.pending ∧
    (handRecord k body s).ssv.mode = s.ssv.mode ∧ (handRecord k body s).ssv.restricted = s.ssv.restricted ∧
    (handRecord k body s).ssv.lastKeep = s.ssv.lastKeep ∧ (handRecord k body s).ssv.deadline = s.ssv.deadline ∧
    (handRecord k body s).spt.rx = s.spt.rx ∧ (handRecord k body s).spt.stopped = s.spt.stopped ∧
    (handRecord k body s).spt.replies = s.spt.replies ∧ (handRecord k body s).spt.badFrames = s.spt.badFrames ∧
    (handRecord k body s).spt.dropRequest = s.spt.dropRequest ∧ (handRecord k body s).spt.tx = s.spt.tx ∧
    (handRecord k body s).lkc.rx = s.lkc.rx ∧ (handRecord k body s).lkc.towers = s.lkc.towers ∧
    (handRecord k body s).lkc.ownNext = s.lkc.ownNext ∧ (handRecord k body s).lkc.txCycle = s.lkc.txCycle := by
  generalize h : handRecord k body s = t
  unfold handRecord at h
  (try dsimp only at h)
  (repeat' split at h) <;> subst h <;> simp

@[simp] theorem dispose_keeps (a : Assembly) (s : State) :
    (dispose a s).pins = s.pins ∧ (dispose a s).clock = s.clock ∧ (dispose a s).supply = s.supply ∧
    (dispose a s).resetCause = s.resetCause ∧ (dispose a s).loaded = s.loaded ∧ (dispose a s).rmu = s.rmu ∧
    (dispose a s).asc = s.asc ∧ (dispose a s).stu = s.stu ∧ (dispose a s).dru = s.dru ∧ (dispose a s).lnu = s.lnu ∧
    (dispose a s).phn = s.phn ∧ (dispose a s).pfs = s.pfs ∧ (dispose a s).free = s.free ∧
    (dispose a s).pending = s.pending ∧ (dispose a s).ssv.mode = s.ssv.mode ∧
    (dispose a s).ssv.restricted = s.ssv.restricted ∧ (dispose a s).ssv.lastKeep = s.ssv.lastKeep ∧
    (dispose a s).ssv.deadline = s.ssv.deadline ∧ (dispose a s).spt.rx = s.spt.rx ∧
    (dispose a s).spt.stopped = s.spt.stopped ∧ (dispose a s).spt.replies = s.spt.replies ∧
    (dispose a s).spt.badFrames = s.spt.badFrames ∧ (dispose a s).spt.dropRequest = s.spt.dropRequest ∧
    (dispose a s).spt.tx = s.spt.tx ∧ (dispose a s).lkc.rx = s.lkc.rx ∧ (dispose a s).lkc.towers = s.lkc.towers ∧
    (dispose a s).lkc.ownNext = s.lkc.ownNext ∧ (dispose a s).lkc.txCycle = s.lkc.txCycle := by
  generalize h : dispose a s = t
  unfold dispose at h
  (try dsimp only at h)
  (repeat' split at h) <;> subst h <;> simp

@[simp] theorem takeByte_keeps (b : Byte) (s : State) :
    (takeByte b s).pins = s.pins ∧ (takeByte b s).clock = s.clock ∧ (takeByte b s).supply = s.supply ∧
    (takeByte b s).resetCause = s.resetCause ∧ (takeByte b s).loaded = s.loaded ∧ (takeByte b s).rmu = s.rmu ∧
    (takeByte b s).asc = s.asc ∧ (takeByte b s).cabins = s.cabins ∧ (takeByte b s).lists = s.lists ∧
    (takeByte b s).stu = s.stu ∧ (takeByte b s).dru = s.dru ∧ (takeByte b s).lnu = s.lnu ∧
    (takeByte b s).ltu = s.ltu ∧ (takeByte b s).phn = s.phn ∧ (takeByte b s).tal = s.tal ∧
    (takeByte b s).pfs = s.pfs ∧ (takeByte b s).free = s.free ∧ (takeByte b s).pending = s.pending ∧
    (takeByte b s).ssv.mode = s.ssv.mode ∧ (takeByte b s).ssv.restricted = s.ssv.restricted ∧
    (takeByte b s).ssv.lastKeep = s.ssv.lastKeep ∧ (takeByte b s).ssv.deadline = s.ssv.deadline ∧
    (takeByte b s).spt.rx = s.spt.rx ∧ (takeByte b s).spt.stopped = s.spt.stopped ∧
    (takeByte b s).spt.replies = s.spt.replies ∧ (takeByte b s).spt.badFrames = s.spt.badFrames ∧
    (takeByte b s).spt.dropRequest = s.spt.dropRequest ∧ (takeByte b s).spt.tx = s.spt.tx ∧
    (takeByte b s).lkc.rx = s.lkc.rx ∧ (takeByte b s).lkc.towers = s.lkc.towers ∧
    (takeByte b s).lkc.ownNext = s.lkc.ownNext ∧ (takeByte b s).lkc.txCycle = s.lkc.txCycle := by
  generalize h : takeByte b s = t
  unfold takeByte at h
  (try dsimp only at h)
  (repeat' split at h) <;> subst h <;> simp

@[simp] theorem takeSlot_keeps (w : Word16) (s : State) :
    (takeSlot w s).pins = s.pins ∧ (takeSlot w s).clock = s.clock ∧ (takeSlot w s).supply = s.supply ∧
    (takeSlot w s).resetCause = s.resetCause ∧ (takeSlot w s).loaded = s.loaded ∧ (takeSlot w s).rmu = s.rmu ∧
    (takeSlot w s).asc = s.asc ∧ (takeSlot w s).stu = s.stu ∧ (takeSlot w s).dru = s.dru ∧
    (takeSlot w s).lnu = s.lnu ∧ (takeSlot w s).phn = s.phn ∧ (takeSlot w s).pfs = s.pfs ∧
    (takeSlot w s).free = s.free ∧ (takeSlot w s).pending = s.pending ∧ (takeSlot w s).ssv.mode = s.ssv.mode ∧
    (takeSlot w s).ssv.restricted = s.ssv.restricted ∧ (takeSlot w s).ssv.lastKeep = s.ssv.lastKeep ∧
    (takeSlot w s).ssv.deadline = s.ssv.deadline ∧ (takeSlot w s).spt.rx = s.spt.rx ∧
    (takeSlot w s).spt.stopped = s.spt.stopped ∧ (takeSlot w s).spt.replies = s.spt.replies ∧
    (takeSlot w s).spt.badFrames = s.spt.badFrames ∧ (takeSlot w s).spt.dropRequest = s.spt.dropRequest ∧
    (takeSlot w s).spt.tx = s.spt.tx ∧ (takeSlot w s).lkc.rx = s.lkc.rx ∧ (takeSlot w s).lkc.towers = s.lkc.towers ∧
    (takeSlot w s).lkc.ownNext = s.lkc.ownNext ∧ (takeSlot w s).lkc.txCycle = s.lkc.txCycle := by
  generalize h : takeSlot w s = t
  unfold takeSlot at h
  (try dsimp only at h)
  (repeat' split at h) <;> subst h <;> simp

@[simp] theorem recordBreak_keeps (s : State) :
    (recordBreak s).pins = s.pins ∧ (recordBreak s).clock = s.clock ∧ (recordBreak s).supply = s.supply ∧
    (recordBreak s).resetCause = s.resetCause ∧ (recordBreak s).loaded = s.loaded ∧ (recordBreak s).rmu = s.rmu ∧
    (recordBreak s).asc = s.asc ∧ (recordBreak s).cabins = s.cabins ∧ (recordBreak s).lists = s.lists ∧
    (recordBreak s).stu = s.stu ∧ (recordBreak s).dru = s.dru ∧ (recordBreak s).lnu = s.lnu ∧
    (recordBreak s).ltu = s.ltu ∧ (recordBreak s).phn = s.phn ∧ (recordBreak s).tal = s.tal ∧
    (recordBreak s).pfs = s.pfs ∧ (recordBreak s).free = s.free ∧ (recordBreak s).pending = s.pending ∧
    (recordBreak s).ssv.mode = s.ssv.mode ∧ (recordBreak s).ssv.restricted = s.ssv.restricted ∧
    (recordBreak s).ssv.lastKeep = s.ssv.lastKeep ∧ (recordBreak s).ssv.deadline = s.ssv.deadline ∧
    (recordBreak s).spt.rx = s.spt.rx ∧ (recordBreak s).spt.stopped = s.spt.stopped ∧
    (recordBreak s).spt.replies = s.spt.replies ∧ (recordBreak s).spt.badFrames = s.spt.badFrames ∧
    (recordBreak s).spt.dropRequest = s.spt.dropRequest ∧ (recordBreak s).spt.tx = s.spt.tx ∧
    (recordBreak s).lkc.rx = s.lkc.rx ∧ (recordBreak s).lkc.towers = s.lkc.towers ∧
    (recordBreak s).lkc.ownNext = s.lkc.ownNext ∧ (recordBreak s).lkc.txCycle = s.lkc.txCycle := by
  generalize h : recordBreak s = t
  unfold recordBreak at h
  (try dsimp only at h)
  (repeat' split at h) <;> subst h <;> simp

@[simp] theorem freeText_keeps (s : State) :
    (freeText s).pins = s.pins ∧ (freeText s).clock = s.clock ∧ (freeText s).supply = s.supply ∧
    (freeText s).resetCause = s.resetCause ∧ (freeText s).loaded = s.loaded ∧ (freeText s).rmu = s.rmu ∧
    (freeText s).asc = s.asc ∧ (freeText s).cabins = s.cabins ∧ (freeText s).lists = s.lists ∧
    (freeText s).stu = s.stu ∧ (freeText s).dru = s.dru ∧ (freeText s).lnu = s.lnu ∧ (freeText s).ltu = s.ltu ∧
    (freeText s).phn = s.phn ∧ (freeText s).ssv = s.ssv ∧ (freeText s).tal = s.tal ∧ (freeText s).spt = s.spt ∧
    (freeText s).pfs = s.pfs ∧ (freeText s).free = s.free ∧ (freeText s).pending = s.pending ∧
    (freeText s).lkc.rx = s.lkc.rx ∧ (freeText s).lkc.towers = s.lkc.towers ∧
    (freeText s).lkc.ownNext = s.lkc.ownNext ∧ (freeText s).lkc.txCycle = s.lkc.txCycle := by
  generalize h : freeText s = t
  unfold freeText at h
  (try dsimp only at h)
  (repeat' split at h) <;> subst h <;> simp

end Sys2Proof.Machine
end

