-- ==== Sys2Proof/Laws/Link.lean ====
section
/-! SUPPORT. What each operation of the Line Link Controller leaves unchanged: every field of the state that it does not write. -/

-- One lemma after the other: side by side, their proofs need more memory in the joined text than the check has.
set_option Elab.async false

namespace Sys2Proof.Machine

@[simp] theorem linkState_keeps (s : State) :
    (linkState s).pins = s.pins ∧ (linkState s).clock = s.clock ∧ (linkState s).supply = s.supply ∧
    (linkState s).resetCause = s.resetCause ∧ (linkState s).loaded = s.loaded ∧ (linkState s).rmu = s.rmu ∧
    (linkState s).asc = s.asc ∧ (linkState s).cabins = s.cabins ∧ (linkState s).lists = s.lists ∧
    (linkState s).stu = s.stu ∧ (linkState s).dru = s.dru ∧ (linkState s).lnu = s.lnu ∧ (linkState s).ltu = s.ltu ∧
    (linkState s).lkc = s.lkc ∧ (linkState s).phn = s.phn ∧ (linkState s).ssv = s.ssv ∧ (linkState s).tal = s.tal ∧
    (linkState s).pfs = s.pfs ∧ (linkState s).free = s.free ∧ (linkState s).pending = s.pending ∧
    (linkState s).spt.rx = s.spt.rx ∧ (linkState s).spt.stopped = s.spt.stopped ∧
    (linkState s).spt.replies = s.spt.replies ∧ (linkState s).spt.badFrames = s.spt.badFrames ∧
    (linkState s).spt.dropRequest = s.spt.dropRequest ∧ (linkState s).spt.tx = s.spt.tx := by
  generalize h : linkState s = t
  unfold linkState at h
  (try dsimp only at h)
  (repeat' split at h) <;> subst h <;> simp

@[simp] theorem towerEval_keeps (s : State) :
    (towerEval s).pins = s.pins ∧ (towerEval s).clock = s.clock ∧ (towerEval s).supply = s.supply ∧
    (towerEval s).resetCause = s.resetCause ∧ (towerEval s).loaded = s.loaded ∧ (towerEval s).rmu = s.rmu ∧
    (towerEval s).asc = s.asc ∧ (towerEval s).cabins = s.cabins ∧ (towerEval s).lists = s.lists ∧
    (towerEval s).stu = s.stu ∧ (towerEval s).dru = s.dru ∧ (towerEval s).lnu = s.lnu ∧ (towerEval s).ltu = s.ltu ∧
    (towerEval s).lkc = s.lkc ∧ (towerEval s).phn = s.phn ∧ (towerEval s).tal = s.tal ∧ (towerEval s).pfs = s.pfs ∧
    (towerEval s).free = s.free ∧ (towerEval s).pending = s.pending ∧ (towerEval s).ssv.mode = s.ssv.mode ∧
    (towerEval s).ssv.restricted = s.ssv.restricted ∧ (towerEval s).ssv.lastKeep = s.ssv.lastKeep ∧
    (towerEval s).ssv.deadline = s.ssv.deadline ∧ (towerEval s).spt.rx = s.spt.rx ∧
    (towerEval s).spt.stopped = s.spt.stopped ∧ (towerEval s).spt.replies = s.spt.replies ∧
    (towerEval s).spt.badFrames = s.spt.badFrames ∧ (towerEval s).spt.dropRequest = s.spt.dropRequest ∧
    (towerEval s).spt.tx = s.spt.tx := by
  generalize h : towerEval s = t
  unfold towerEval at h
  (try dsimp only at h)
  (repeat' split at h) <;> subst h <;> simp

@[simp] theorem takeTower_keeps (w : Word16) (s : State) :
    (takeTower w s).pins = s.pins ∧ (takeTower w s).clock = s.clock ∧ (takeTower w s).supply = s.supply ∧
    (takeTower w s).resetCause = s.resetCause ∧ (takeTower w s).loaded = s.loaded ∧ (takeTower w s).rmu = s.rmu ∧
    (takeTower w s).asc = s.asc ∧ (takeTower w s).cabins = s.cabins ∧ (takeTower w s).lists = s.lists ∧
    (takeTower w s).stu = s.stu ∧ (takeTower w s).dru = s.dru ∧ (takeTower w s).lnu = s.lnu ∧
    (takeTower w s).ltu = s.ltu ∧ (takeTower w s).phn = s.phn ∧ (takeTower w s).tal = s.tal ∧
    (takeTower w s).pfs = s.pfs ∧ (takeTower w s).free = s.free ∧ (takeTower w s).pending = s.pending ∧
    (takeTower w s).ssv.mode = s.ssv.mode ∧ (takeTower w s).ssv.restricted = s.ssv.restricted ∧
    (takeTower w s).ssv.lastKeep = s.ssv.lastKeep ∧ (takeTower w s).ssv.deadline = s.ssv.deadline ∧
    (takeTower w s).spt.rx = s.spt.rx ∧ (takeTower w s).spt.stopped = s.spt.stopped ∧
    (takeTower w s).spt.replies = s.spt.replies ∧ (takeTower w s).spt.badFrames = s.spt.badFrames ∧
    (takeTower w s).spt.dropRequest = s.spt.dropRequest ∧ (takeTower w s).spt.tx = s.spt.tx ∧
    (takeTower w s).lkc.rx = s.lkc.rx ∧ (takeTower w s).lkc.chan = s.lkc.chan ∧
    (takeTower w s).lkc.ownNext = s.lkc.ownNext ∧ (takeTower w s).lkc.txCycle = s.lkc.txCycle := by
  generalize h : takeTower w s = t
  unfold takeTower at h
  (try dsimp only at h)
  (repeat' split at h) <;> subst h <;> simp

@[simp] theorem findStale_keeps (s : State) :
    (findStale s).pins = s.pins ∧ (findStale s).clock = s.clock ∧ (findStale s).supply = s.supply ∧
    (findStale s).resetCause = s.resetCause ∧ (findStale s).loaded = s.loaded ∧ (findStale s).rmu = s.rmu ∧
    (findStale s).asc = s.asc ∧ (findStale s).cabins = s.cabins ∧ (findStale s).lists = s.lists ∧
    (findStale s).stu = s.stu ∧ (findStale s).dru = s.dru ∧ (findStale s).lnu = s.lnu ∧ (findStale s).ltu = s.ltu ∧
    (findStale s).phn = s.phn ∧ (findStale s).tal = s.tal ∧ (findStale s).pfs = s.pfs ∧ (findStale s).free = s.free ∧
    (findStale s).pending = s.pending ∧ (findStale s).ssv.mode = s.ssv.mode ∧
    (findStale s).ssv.restricted = s.ssv.restricted ∧ (findStale s).ssv.lastKeep = s.ssv.lastKeep ∧
    (findStale s).ssv.deadline = s.ssv.deadline ∧ (findStale s).spt.rx = s.spt.rx ∧
    (findStale s).spt.stopped = s.spt.stopped ∧ (findStale s).spt.replies = s.spt.replies ∧
    (findStale s).spt.badFrames = s.spt.badFrames ∧ (findStale s).spt.dropRequest = s.spt.dropRequest ∧
    (findStale s).spt.tx = s.spt.tx ∧ (findStale s).lkc.rx = s.lkc.rx ∧ (findStale s).lkc.chan = s.lkc.chan ∧
    (findStale s).lkc.ownNext = s.lkc.ownNext ∧ (findStale s).lkc.txCycle = s.lkc.txCycle := by
  generalize h : findStale s = t
  unfold findStale at h
  (try dsimp only at h)
  (repeat' split at h) <;> subst h <;> simp

@[simp] theorem ageTowers_keeps (s : State) :
    (ageTowers s).pins = s.pins ∧ (ageTowers s).clock = s.clock ∧ (ageTowers s).supply = s.supply ∧
    (ageTowers s).resetCause = s.resetCause ∧ (ageTowers s).loaded = s.loaded ∧ (ageTowers s).rmu = s.rmu ∧
    (ageTowers s).asc = s.asc ∧ (ageTowers s).cabins = s.cabins ∧ (ageTowers s).lists = s.lists ∧
    (ageTowers s).stu = s.stu ∧ (ageTowers s).dru = s.dru ∧ (ageTowers s).lnu = s.lnu ∧ (ageTowers s).ltu = s.ltu ∧
    (ageTowers s).phn = s.phn ∧ (ageTowers s).tal = s.tal ∧ (ageTowers s).pfs = s.pfs ∧ (ageTowers s).free = s.free ∧
    (ageTowers s).pending = s.pending ∧ (ageTowers s).ssv.mode = s.ssv.mode ∧
    (ageTowers s).ssv.restricted = s.ssv.restricted ∧ (ageTowers s).ssv.lastKeep = s.ssv.lastKeep ∧
    (ageTowers s).ssv.deadline = s.ssv.deadline ∧ (ageTowers s).spt.rx = s.spt.rx ∧
    (ageTowers s).spt.stopped = s.spt.stopped ∧ (ageTowers s).spt.replies = s.spt.replies ∧
    (ageTowers s).spt.badFrames = s.spt.badFrames ∧ (ageTowers s).spt.dropRequest = s.spt.dropRequest ∧
    (ageTowers s).spt.tx = s.spt.tx ∧ (ageTowers s).lkc.rx = s.lkc.rx ∧ (ageTowers s).lkc.chan = s.lkc.chan ∧
    (ageTowers s).lkc.ownNext = s.lkc.ownNext ∧ (ageTowers s).lkc.txCycle = s.lkc.txCycle := by
  generalize h : ageTowers s = t
  unfold ageTowers at h
  (try dsimp only at h)
  (repeat' split at h) <;> subst h <;> simp

@[simp] theorem towerStale_keeps (i : Nat) (s : State) :
    (towerStale i s).pins = s.pins ∧ (towerStale i s).clock = s.clock ∧ (towerStale i s).supply = s.supply ∧
    (towerStale i s).resetCause = s.resetCause ∧ (towerStale i s).loaded = s.loaded ∧ (towerStale i s).rmu = s.rmu ∧
    (towerStale i s).asc = s.asc ∧ (towerStale i s).cabins = s.cabins ∧ (towerStale i s).lists = s.lists ∧
    (towerStale i s).stu = s.stu ∧ (towerStale i s).dru = s.dru ∧ (towerStale i s).lnu = s.lnu ∧
    (towerStale i s).ltu = s.ltu ∧ (towerStale i s).phn = s.phn ∧ (towerStale i s).tal = s.tal ∧
    (towerStale i s).pfs = s.pfs ∧ (towerStale i s).free = s.free ∧ (towerStale i s).pending = s.pending ∧
    (towerStale i s).ssv.mode = s.ssv.mode ∧ (towerStale i s).ssv.restricted = s.ssv.restricted ∧
    (towerStale i s).ssv.lastKeep = s.ssv.lastKeep ∧ (towerStale i s).ssv.deadline = s.ssv.deadline ∧
    (towerStale i s).spt.rx = s.spt.rx ∧ (towerStale i s).spt.stopped = s.spt.stopped ∧
    (towerStale i s).spt.replies = s.spt.replies ∧ (towerStale i s).spt.badFrames = s.spt.badFrames ∧
    (towerStale i s).spt.dropRequest = s.spt.dropRequest ∧ (towerStale i s).spt.tx = s.spt.tx ∧
    (towerStale i s).lkc.rx = s.lkc.rx ∧ (towerStale i s).lkc.chan = s.lkc.chan ∧
    (towerStale i s).lkc.ownNext = s.lkc.ownNext ∧ (towerStale i s).lkc.txCycle = s.lkc.txCycle := by
  generalize h : towerStale i s = t
  unfold towerStale at h
  (try dsimp only at h)
  (repeat' split at h) <;> subst h <;> simp

@[simp] theorem fillSlot_keeps (s : State) :
    (fillSlot s).1.pins = s.pins ∧ (fillSlot s).1.clock = s.clock ∧ (fillSlot s).1.supply = s.supply ∧
    (fillSlot s).1.resetCause = s.resetCause ∧ (fillSlot s).1.loaded = s.loaded ∧ (fillSlot s).1.rmu = s.rmu ∧
    (fillSlot s).1.asc = s.asc ∧ (fillSlot s).1.cabins = s.cabins ∧ (fillSlot s).1.lists = s.lists ∧
    (fillSlot s).1.stu = s.stu ∧ (fillSlot s).1.dru = s.dru ∧ (fillSlot s).1.lnu = s.lnu ∧
    (fillSlot s).1.phn = s.phn ∧ (fillSlot s).1.ssv = s.ssv ∧ (fillSlot s).1.pfs = s.pfs ∧
    (fillSlot s).1.free = s.free ∧ (fillSlot s).1.pending = s.pending ∧ (fillSlot s).1.spt.rx = s.spt.rx ∧
    (fillSlot s).1.spt.stopped = s.spt.stopped ∧ (fillSlot s).1.spt.replies = s.spt.replies ∧
    (fillSlot s).1.spt.badFrames = s.spt.badFrames ∧ (fillSlot s).1.spt.dropRequest = s.spt.dropRequest ∧
    (fillSlot s).1.spt.tx = s.spt.tx ∧ (fillSlot s).1.lkc.rx = s.lkc.rx ∧ (fillSlot s).1.lkc.towers = s.lkc.towers ∧
    (fillSlot s).1.lkc.ownNext = s.lkc.ownNext ∧ (fillSlot s).1.lkc.txCycle = s.lkc.txCycle := by
  generalize h : fillSlot s = t
  unfold fillSlot at h
  (try dsimp only at h)
  (repeat' split at h) <;> subst h <;> simp

@[simp] theorem fillSlots_keeps (s : State) :
    (fillSlots s).1.pins = s.pins ∧ (fillSlots s).1.clock = s.clock ∧ (fillSlots s).1.supply = s.supply ∧
    (fillSlots s).1.resetCause = s.resetCause ∧ (fillSlots s).1.loaded = s.loaded ∧ (fillSlots s).1.rmu = s.rmu ∧
    (fillSlots s).1.asc = s.asc ∧ (fillSlots s).1.cabins = s.cabins ∧ (fillSlots s).1.lists = s.lists ∧
    (fillSlots s).1.stu = s.stu ∧ (fillSlots s).1.dru = s.dru ∧ (fillSlots s).1.lnu = s.lnu ∧
    (fillSlots s).1.phn = s.phn ∧ (fillSlots s).1.ssv = s.ssv ∧ (fillSlots s).1.pfs = s.pfs ∧
    (fillSlots s).1.free = s.free ∧ (fillSlots s).1.pending = s.pending ∧ (fillSlots s).1.spt.rx = s.spt.rx ∧
    (fillSlots s).1.spt.stopped = s.spt.stopped ∧ (fillSlots s).1.spt.replies = s.spt.replies ∧
    (fillSlots s).1.spt.badFrames = s.spt.badFrames ∧ (fillSlots s).1.spt.dropRequest = s.spt.dropRequest ∧
    (fillSlots s).1.spt.tx = s.spt.tx ∧ (fillSlots s).1.lkc.rx = s.lkc.rx ∧
    (fillSlots s).1.lkc.towers = s.lkc.towers ∧ (fillSlots s).1.lkc.ownNext = s.lkc.ownNext ∧
    (fillSlots s).1.lkc.txCycle = s.lkc.txCycle := by
  generalize h : fillSlots s = t
  unfold fillSlots at h
  (try dsimp only at h)
  (repeat' split at h) <;> subst h <;> simp

@[simp] theorem formCycle_keeps (s : State) :
    (formCycle s).pins = s.pins ∧ (formCycle s).clock = s.clock ∧ (formCycle s).supply = s.supply ∧
    (formCycle s).resetCause = s.resetCause ∧ (formCycle s).loaded = s.loaded ∧ (formCycle s).rmu = s.rmu ∧
    (formCycle s).asc = s.asc ∧ (formCycle s).cabins = s.cabins ∧ (formCycle s).lists = s.lists ∧
    (formCycle s).stu = s.stu ∧ (formCycle s).dru = s.dru ∧ (formCycle s).lnu = s.lnu ∧ (formCycle s).phn = s.phn ∧
    (formCycle s).ssv = s.ssv ∧ (formCycle s).pfs = s.pfs ∧ (formCycle s).free = s.free ∧
    (formCycle s).pending = s.pending ∧ (formCycle s).spt.rx = s.spt.rx ∧ (formCycle s).spt.stopped = s.spt.stopped ∧
    (formCycle s).spt.replies = s.spt.replies ∧ (formCycle s).spt.badFrames = s.spt.badFrames ∧
    (formCycle s).spt.dropRequest = s.spt.dropRequest ∧ (formCycle s).spt.tx = s.spt.tx := by
  generalize h : formCycle s = t
  unfold formCycle at h
  (try dsimp only at h)
  (repeat' split at h) <;> subst h <;> simp

@[simp] theorem transmitCycle_keeps (s : State) :
    (transmitCycle s).pins = s.pins ∧ (transmitCycle s).clock = s.clock ∧ (transmitCycle s).supply = s.supply ∧
    (transmitCycle s).resetCause = s.resetCause ∧ (transmitCycle s).loaded = s.loaded ∧
    (transmitCycle s).rmu = s.rmu ∧ (transmitCycle s).asc = s.asc ∧ (transmitCycle s).cabins = s.cabins ∧
    (transmitCycle s).lists = s.lists ∧ (transmitCycle s).stu = s.stu ∧ (transmitCycle s).dru = s.dru ∧
    (transmitCycle s).lnu = s.lnu ∧ (transmitCycle s).pfs = s.pfs ∧ (transmitCycle s).free = s.free ∧
    (transmitCycle s).pending = s.pending ∧ (transmitCycle s).ssv.mode = s.ssv.mode ∧
    (transmitCycle s).ssv.restricted = s.ssv.restricted ∧ (transmitCycle s).ssv.lastKeep = s.ssv.lastKeep ∧
    (transmitCycle s).ssv.deadline = s.ssv.deadline ∧ (transmitCycle s).spt.rx = s.spt.rx ∧
    (transmitCycle s).spt.stopped = s.spt.stopped ∧ (transmitCycle s).spt.replies = s.spt.replies ∧
    (transmitCycle s).spt.badFrames = s.spt.badFrames ∧ (transmitCycle s).spt.dropRequest = s.spt.dropRequest ∧
    (transmitCycle s).spt.tx = s.spt.tx := by
  generalize h : transmitCycle s = t
  unfold transmitCycle at h
  (try dsimp only at h)
  (repeat' split at h) <;> subst h <;> simp

@[simp] theorem linkEval_keeps (s : State) :
    (linkEval s).pins = s.pins ∧ (linkEval s).clock = s.clock ∧ (linkEval s).supply = s.supply ∧
    (linkEval s).resetCause = s.resetCause ∧ (linkEval s).loaded = s.loaded ∧ (linkEval s).rmu = s.rmu ∧
    (linkEval s).asc = s.asc ∧ (linkEval s).cabins = s.cabins ∧ (linkEval s).lists = s.lists ∧
    (linkEval s).stu = s.stu ∧ (linkEval s).dru = s.dru ∧ (linkEval s).lnu = s.lnu ∧ (linkEval s).ltu = s.ltu ∧
    (linkEval s).lkc = s.lkc ∧ (linkEval s).phn = s.phn ∧ (linkEval s).tal = s.tal ∧ (linkEval s).pfs = s.pfs ∧
    (linkEval s).free = s.free ∧ (linkEval s).pending = s.pending ∧ (linkEval s).ssv.mode = s.ssv.mode ∧
    (linkEval s).ssv.restricted = s.ssv.restricted ∧ (linkEval s).ssv.lastKeep = s.ssv.lastKeep ∧
    (linkEval s).ssv.deadline = s.ssv.deadline ∧ (linkEval s).spt.rx = s.spt.rx ∧
    (linkEval s).spt.stopped = s.spt.stopped ∧ (linkEval s).spt.replies = s.spt.replies ∧
    (linkEval s).spt.badFrames = s.spt.badFrames ∧ (linkEval s).spt.dropRequest = s.spt.dropRequest ∧
    (linkEval s).spt.tx = s.spt.tx := by
  generalize h : linkEval s = t
  unfold linkEval at h
  (try dsimp only at h)
  (repeat' split at h) <;> subst h <;> simp

@[simp] theorem applyCycle_keeps (old : Applied) (c : LineCycle) (s : State) :
    (applyCycle old c s).pins = s.pins ∧ (applyCycle old c s).clock = s.clock ∧
    (applyCycle old c s).supply = s.supply ∧ (applyCycle old c s).resetCause = s.resetCause ∧
    (applyCycle old c s).loaded = s.loaded ∧ (applyCycle old c s).rmu = s.rmu ∧ (applyCycle old c s).asc = s.asc ∧
    (applyCycle old c s).stu = s.stu ∧ (applyCycle old c s).dru = s.dru ∧ (applyCycle old c s).lnu = s.lnu ∧
    (applyCycle old c s).pfs = s.pfs ∧ (applyCycle old c s).free = s.free ∧
    (applyCycle old c s).pending = s.pending ∧ (applyCycle old c s).ssv.mode = s.ssv.mode ∧
    (applyCycle old c s).ssv.restricted = s.ssv.restricted ∧ (applyCycle old c s).ssv.lastKeep = s.ssv.lastKeep ∧
    (applyCycle old c s).ssv.deadline = s.ssv.deadline ∧ (applyCycle old c s).spt.rx = s.spt.rx ∧
    (applyCycle old c s).spt.stopped = s.spt.stopped ∧ (applyCycle old c s).spt.replies = s.spt.replies ∧
    (applyCycle old c s).spt.badFrames = s.spt.badFrames ∧ (applyCycle old c s).spt.dropRequest = s.spt.dropRequest ∧
    (applyCycle old c s).spt.tx = s.spt.tx ∧ (applyCycle old c s).lkc.ownNext = s.lkc.ownNext ∧
    (applyCycle old c s).lkc.txCycle = s.lkc.txCycle := by
  generalize h : applyCycle old c s = t
  unfold applyCycle at h
  (try dsimp only at h)
  (repeat' split at h) <;> subst h <;> simp

@[simp] theorem huntCandidate_keeps (rx : RxCycle) (s : State) :
    (huntCandidate rx s).pins = s.pins ∧ (huntCandidate rx s).clock = s.clock ∧
    (huntCandidate rx s).supply = s.supply ∧ (huntCandidate rx s).resetCause = s.resetCause ∧
    (huntCandidate rx s).loaded = s.loaded ∧ (huntCandidate rx s).rmu = s.rmu ∧ (huntCandidate rx s).asc = s.asc ∧
    (huntCandidate rx s).cabins = s.cabins ∧ (huntCandidate rx s).lists = s.lists ∧
    (huntCandidate rx s).stu = s.stu ∧ (huntCandidate rx s).dru = s.dru ∧ (huntCandidate rx s).lnu = s.lnu ∧
    (huntCandidate rx s).ltu = s.ltu ∧ (huntCandidate rx s).phn = s.phn ∧ (huntCandidate rx s).ssv = s.ssv ∧
    (huntCandidate rx s).tal = s.tal ∧ (huntCandidate rx s).spt = s.spt ∧ (huntCandidate rx s).pfs = s.pfs ∧
    (huntCandidate rx s).free = s.free ∧ (huntCandidate rx s).pending = s.pending ∧
    (huntCandidate rx s).lkc.towers = s.lkc.towers ∧ (huntCandidate rx s).lkc.chan = s.lkc.chan ∧
    (huntCandidate rx s).lkc.ownNext = s.lkc.ownNext ∧ (huntCandidate rx s).lkc.txCycle = s.lkc.txCycle := by
  generalize h : huntCandidate rx s = t
  unfold huntCandidate at h
  (try dsimp only at h)
  (repeat' split at h) <;> subst h <;> simp

@[simp] theorem enterLocked_keeps (c : LineCycle) (s : State) :
    (enterLocked c s).pins = s.pins ∧ (enterLocked c s).clock = s.clock ∧ (enterLocked c s).supply = s.supply ∧
    (enterLocked c s).resetCause = s.resetCause ∧ (enterLocked c s).loaded = s.loaded ∧
    (enterLocked c s).rmu = s.rmu ∧ (enterLocked c s).asc = s.asc ∧ (enterLocked c s).stu = s.stu ∧
    (enterLocked c s).dru = s.dru ∧ (enterLocked c s).lnu = s.lnu ∧ (enterLocked c s).pfs = s.pfs ∧
    (enterLocked c s).free = s.free ∧ (enterLocked c s).pending = s.pending ∧
    (enterLocked c s).ssv.mode = s.ssv.mode ∧ (enterLocked c s).ssv.restricted = s.ssv.restricted ∧
    (enterLocked c s).ssv.lastKeep = s.ssv.lastKeep ∧ (enterLocked c s).ssv.deadline = s.ssv.deadline ∧
    (enterLocked c s).spt.rx = s.spt.rx ∧ (enterLocked c s).spt.stopped = s.spt.stopped ∧
    (enterLocked c s).spt.replies = s.spt.replies ∧ (enterLocked c s).spt.badFrames = s.spt.badFrames ∧
    (enterLocked c s).spt.dropRequest = s.spt.dropRequest ∧ (enterLocked c s).spt.tx = s.spt.tx ∧
    (enterLocked c s).lkc.ownNext = s.lkc.ownNext ∧ (enterLocked c s).lkc.txCycle = s.lkc.txCycle := by
  generalize h : enterLocked c s = t
  unfold enterLocked at h
  (try dsimp only at h)
  (repeat' split at h) <;> subst h <;> simp

@[simp] theorem confirmCycle_keeps (rx : RxCycle) (s : State) :
    (confirmCycle rx s).pins = s.pins ∧ (confirmCycle rx s).clock = s.clock ∧ (confirmCycle rx s).supply = s.supply ∧
    (confirmCycle rx s).resetCause = s.resetCause ∧ (confirmCycle rx s).loaded = s.loaded ∧
    (confirmCycle rx s).rmu = s.rmu ∧ (confirmCycle rx s).asc = s.asc ∧ (confirmCycle rx s).stu = s.stu ∧
    (confirmCycle rx s).dru = s.dru ∧ (confirmCycle rx s).lnu = s.lnu ∧ (confirmCycle rx s).pfs = s.pfs ∧
    (confirmCycle rx s).free = s.free ∧ (confirmCycle rx s).pending = s.pending ∧
    (confirmCycle rx s).ssv.mode = s.ssv.mode ∧ (confirmCycle rx s).ssv.restricted = s.ssv.restricted ∧
    (confirmCycle rx s).ssv.lastKeep = s.ssv.lastKeep ∧ (confirmCycle rx s).ssv.deadline = s.ssv.deadline ∧
    (confirmCycle rx s).spt.rx = s.spt.rx ∧ (confirmCycle rx s).spt.stopped = s.spt.stopped ∧
    (confirmCycle rx s).spt.replies = s.spt.replies ∧ (confirmCycle rx s).spt.badFrames = s.spt.badFrames ∧
    (confirmCycle rx s).spt.dropRequest = s.spt.dropRequest ∧ (confirmCycle rx s).spt.tx = s.spt.tx ∧
    (confirmCycle rx s).lkc.ownNext = s.lkc.ownNext ∧ (confirmCycle rx s).lkc.txCycle = s.lkc.txCycle := by
  generalize h : confirmCycle rx s = t
  unfold confirmCycle at h
  (try dsimp only at h)
  (repeat' split at h) <;> subst h <;> simp

@[simp] theorem leaveLocked_keeps (s : State) :
    (leaveLocked s).pins = s.pins ∧ (leaveLocked s).clock = s.clock ∧ (leaveLocked s).supply = s.supply ∧
    (leaveLocked s).resetCause = s.resetCause ∧ (leaveLocked s).loaded = s.loaded ∧ (leaveLocked s).rmu = s.rmu ∧
    (leaveLocked s).asc = s.asc ∧ (leaveLocked s).cabins = s.cabins ∧ (leaveLocked s).lists = s.lists ∧
    (leaveLocked s).stu = s.stu ∧ (leaveLocked s).dru = s.dru ∧ (leaveLocked s).lnu = s.lnu ∧
    (leaveLocked s).ltu = s.ltu ∧ (leaveLocked s).phn = s.phn ∧ (leaveLocked s).tal = s.tal ∧
    (leaveLocked s).pfs = s.pfs ∧ (leaveLocked s).free = s.free ∧ (leaveLocked s).pending = s.pending ∧
    (leaveLocked s).ssv.mode = s.ssv.mode ∧ (leaveLocked s).ssv.restricted = s.ssv.restricted ∧
    (leaveLocked s).ssv.lastKeep = s.ssv.lastKeep ∧ (leaveLocked s).ssv.deadline = s.ssv.deadline ∧
    (leaveLocked s).spt.rx = s.spt.rx ∧ (leaveLocked s).spt.stopped = s.spt.stopped ∧
    (leaveLocked s).spt.replies = s.spt.replies ∧ (leaveLocked s).spt.badFrames = s.spt.badFrames ∧
    (leaveLocked s).spt.dropRequest = s.spt.dropRequest ∧ (leaveLocked s).spt.tx = s.spt.tx ∧
    (leaveLocked s).lkc.towers = s.lkc.towers ∧ (leaveLocked s).lkc.ownNext = s.lkc.ownNext ∧
    (leaveLocked s).lkc.txCycle = s.lkc.txCycle := by
  generalize h : leaveLocked s = t
  unfold leaveLocked at h
  (try dsimp only at h)
  (repeat' split at h) <;> subst h <;> simp

@[simp] theorem goodCycle_keeps (c : LineCycle) (s : State) :
    (goodCycle c s).pins = s.pins ∧ (goodCycle c s).clock = s.clock ∧ (goodCycle c s).supply = s.supply ∧
    (goodCycle c s).resetCause = s.resetCause ∧ (goodCycle c s).loaded = s.loaded ∧ (goodCycle c s).rmu = s.rmu ∧
    (goodCycle c s).asc = s.asc ∧ (goodCycle c s).stu = s.stu ∧ (goodCycle c s).dru = s.dru ∧
    (goodCycle c s).lnu = s.lnu ∧ (goodCycle c s).pfs = s.pfs ∧ (goodCycle c s).free = s.free ∧
    (goodCycle c s).pending = s.pending ∧ (goodCycle c s).ssv.mode = s.ssv.mode ∧
    (goodCycle c s).ssv.restricted = s.ssv.restricted ∧ (goodCycle c s).ssv.lastKeep = s.ssv.lastKeep ∧
    (goodCycle c s).ssv.deadline = s.ssv.deadline ∧ (goodCycle c s).spt.rx = s.spt.rx ∧
    (goodCycle c s).spt.stopped = s.spt.stopped ∧ (goodCycle c s).spt.replies = s.spt.replies ∧
    (goodCycle c s).spt.badFrames = s.spt.badFrames ∧ (goodCycle c s).spt.dropRequest = s.spt.dropRequest ∧
    (goodCycle c s).spt.tx = s.spt.tx ∧ (goodCycle c s).lkc.ownNext = s.lkc.ownNext ∧
    (goodCycle c s).lkc.txCycle = s.lkc.txCycle := by
  generalize h : goodCycle c s = t
  unfold goodCycle at h
  (try dsimp only at h)
  (repeat' split at h) <;> subst h <;> simp

@[simp] theorem badCycle_keeps (s : State) :
    (badCycle s).pins = s.pins ∧ (badCycle s).clock = s.clock ∧ (badCycle s).supply = s.supply ∧
    (badCycle s).resetCause = s.resetCause ∧ (badCycle s).loaded = s.loaded ∧ (badCycle s).rmu = s.rmu ∧
    (badCycle s).asc = s.asc ∧ (badCycle s).cabins = s.cabins ∧ (badCycle s).lists = s.lists ∧
    (badCycle s).stu = s.stu ∧ (badCycle s).dru = s.dru ∧ (badCycle s).lnu = s.lnu ∧ (badCycle s).ltu = s.ltu ∧
    (badCycle s).pfs = s.pfs ∧ (badCycle s).free = s.free ∧ (badCycle s).pending = s.pending ∧
    (badCycle s).ssv.mode = s.ssv.mode ∧ (badCycle s).ssv.restricted = s.ssv.restricted ∧
    (badCycle s).ssv.lastKeep = s.ssv.lastKeep ∧ (badCycle s).ssv.deadline = s.ssv.deadline ∧
    (badCycle s).spt.rx = s.spt.rx ∧ (badCycle s).spt.stopped = s.spt.stopped ∧
    (badCycle s).spt.replies = s.spt.replies ∧ (badCycle s).spt.badFrames = s.spt.badFrames ∧
    (badCycle s).spt.dropRequest = s.spt.dropRequest ∧ (badCycle s).spt.tx = s.spt.tx ∧
    (badCycle s).lkc.towers = s.lkc.towers ∧ (badCycle s).lkc.ownNext = s.lkc.ownNext ∧
    (badCycle s).lkc.txCycle = s.lkc.txCycle := by
  generalize h : badCycle s = t
  unfold badCycle at h
  (try dsimp only at h)
  (repeat' split at h) <;> subst h <;> simp

@[simp] theorem lockedCycle_keeps (rx : RxCycle) (s : State) :
    (lockedCycle rx s).pins = s.pins ∧ (lockedCycle rx s).clock = s.clock ∧ (lockedCycle rx s).supply = s.supply ∧
    (lockedCycle rx s).resetCause = s.resetCause ∧ (lockedCycle rx s).loaded = s.loaded ∧
    (lockedCycle rx s).rmu = s.rmu ∧ (lockedCycle rx s).asc = s.asc ∧ (lockedCycle rx s).stu = s.stu ∧
    (lockedCycle rx s).dru = s.dru ∧ (lockedCycle rx s).lnu = s.lnu ∧ (lockedCycle rx s).pfs = s.pfs ∧
    (lockedCycle rx s).free = s.free ∧ (lockedCycle rx s).pending = s.pending ∧
    (lockedCycle rx s).ssv.mode = s.ssv.mode ∧ (lockedCycle rx s).ssv.restricted = s.ssv.restricted ∧
    (lockedCycle rx s).ssv.lastKeep = s.ssv.lastKeep ∧ (lockedCycle rx s).ssv.deadline = s.ssv.deadline ∧
    (lockedCycle rx s).spt.rx = s.spt.rx ∧ (lockedCycle rx s).spt.stopped = s.spt.stopped ∧
    (lockedCycle rx s).spt.replies = s.spt.replies ∧ (lockedCycle rx s).spt.badFrames = s.spt.badFrames ∧
    (lockedCycle rx s).spt.dropRequest = s.spt.dropRequest ∧ (lockedCycle rx s).spt.tx = s.spt.tx ∧
    (lockedCycle rx s).lkc.ownNext = s.lkc.ownNext ∧ (lockedCycle rx s).lkc.txCycle = s.lkc.txCycle := by
  generalize h : lockedCycle rx s = t
  unfold lockedCycle at h
  (try dsimp only at h)
  (repeat' split at h) <;> subst h <;> simp

@[simp] theorem passBits_keeps (s : State) :
    (passBits s).pins = s.pins ∧ (passBits s).clock = s.clock ∧ (passBits s).supply = s.supply ∧
    (passBits s).resetCause = s.resetCause ∧ (passBits s).loaded = s.loaded ∧ (passBits s).rmu = s.rmu ∧
    (passBits s).asc = s.asc ∧ (passBits s).cabins = s.cabins ∧ (passBits s).lists = s.lists ∧
    (passBits s).stu = s.stu ∧ (passBits s).dru = s.dru ∧ (passBits s).lnu = s.lnu ∧ (passBits s).ltu = s.ltu ∧
    (passBits s).phn = s.phn ∧ (passBits s).ssv = s.ssv ∧ (passBits s).tal = s.tal ∧ (passBits s).spt = s.spt ∧
    (passBits s).pfs = s.pfs ∧ (passBits s).free = s.free ∧ (passBits s).pending = s.pending ∧
    (passBits s).lkc.towers = s.lkc.towers ∧ (passBits s).lkc.chan = s.lkc.chan ∧
    (passBits s).lkc.ownNext = s.lkc.ownNext ∧ (passBits s).lkc.txCycle = s.lkc.txCycle := by
  generalize h : passBits s = t
  unfold passBits at h
  (try dsimp only at h)
  (repeat' split at h) <;> subst h <;> simp

@[simp] theorem loseLink_keeps (s : State) :
    (loseLink s).pins = s.pins ∧ (loseLink s).clock = s.clock ∧ (loseLink s).supply = s.supply ∧
    (loseLink s).resetCause = s.resetCause ∧ (loseLink s).loaded = s.loaded ∧ (loseLink s).rmu = s.rmu ∧
    (loseLink s).asc = s.asc ∧ (loseLink s).cabins = s.cabins ∧ (loseLink s).lists = s.lists ∧
    (loseLink s).stu = s.stu ∧ (loseLink s).dru = s.dru ∧ (loseLink s).lnu = s.lnu ∧ (loseLink s).lkc = s.lkc ∧
    (loseLink s).tal = s.tal ∧ (loseLink s).pfs = s.pfs ∧ (loseLink s).free = s.free ∧
    (loseLink s).pending = s.pending ∧ (loseLink s).ssv.mode = s.ssv.mode ∧
    (loseLink s).ssv.restricted = s.ssv.restricted ∧ (loseLink s).ssv.lastKeep = s.ssv.lastKeep ∧
    (loseLink s).ssv.deadline = s.ssv.deadline ∧ (loseLink s).spt.rx = s.spt.rx ∧
    (loseLink s).spt.stopped = s.spt.stopped ∧ (loseLink s).spt.replies = s.spt.replies ∧
    (loseLink s).spt.badFrames = s.spt.badFrames ∧ (loseLink s).spt.dropRequest = s.spt.dropRequest ∧
    (loseLink s).spt.tx = s.spt.tx := by
  generalize h : loseLink s = t
  unfold loseLink at h
  (try dsimp only at h)
  (repeat' split at h) <;> subst h <;> simp

@[simp] theorem linkLossExpiry_keeps (s : State) :
    (linkLossExpiry s).pins = s.pins ∧ (linkLossExpiry s).clock = s.clock ∧ (linkLossExpiry s).supply = s.supply ∧
    (linkLossExpiry s).resetCause = s.resetCause ∧ (linkLossExpiry s).loaded = s.loaded ∧
    (linkLossExpiry s).rmu = s.rmu ∧ (linkLossExpiry s).asc = s.asc ∧ (linkLossExpiry s).cabins = s.cabins ∧
    (linkLossExpiry s).lists = s.lists ∧ (linkLossExpiry s).stu = s.stu ∧ (linkLossExpiry s).dru = s.dru ∧
    (linkLossExpiry s).lnu = s.lnu ∧ (linkLossExpiry s).lkc = s.lkc ∧ (linkLossExpiry s).tal = s.tal ∧
    (linkLossExpiry s).pfs = s.pfs ∧ (linkLossExpiry s).free = s.free ∧ (linkLossExpiry s).pending = s.pending ∧
    (linkLossExpiry s).ssv.mode = s.ssv.mode ∧ (linkLossExpiry s).ssv.restricted = s.ssv.restricted ∧
    (linkLossExpiry s).ssv.lastKeep = s.ssv.lastKeep ∧ (linkLossExpiry s).ssv.deadline = s.ssv.deadline ∧
    (linkLossExpiry s).spt.rx = s.spt.rx ∧ (linkLossExpiry s).spt.stopped = s.spt.stopped ∧
    (linkLossExpiry s).spt.replies = s.spt.replies ∧ (linkLossExpiry s).spt.badFrames = s.spt.badFrames ∧
    (linkLossExpiry s).spt.dropRequest = s.spt.dropRequest ∧ (linkLossExpiry s).spt.tx = s.spt.tx := by
  generalize h : linkLossExpiry s = t
  unfold linkLossExpiry at h
  (try dsimp only at h)
  (repeat' split at h) <;> subst h <;> simp

end Sys2Proof.Machine
end

