-- ==== Sys2Proof/Laws/Stops.lean ====
section
/-! SUPPORT. What each operation of the Stop Supervisor and the tally sample leaves unchanged: every field of the state that it does not write. -/

-- One lemma after the other: side by side, their proofs need more memory in the joined text than the check has.
set_option Elab.async false

namespace Sys2Proof.Machine

@[simp] theorem modeNotice_keeps (s : State) :
    (modeNotice s).pins = s.pins ∧ (modeNotice s).clock = s.clock ∧ (modeNotice s).supply = s.supply ∧
    (modeNotice s).resetCause = s.resetCause ∧ (modeNotice s).loaded = s.loaded ∧ (modeNotice s).rmu = s.rmu ∧
    (modeNotice s).asc = s.asc ∧ (modeNotice s).cabins = s.cabins ∧ (modeNotice s).lists = s.lists ∧
    (modeNotice s).stu = s.stu ∧ (modeNotice s).dru = s.dru ∧ (modeNotice s).lnu = s.lnu ∧
    (modeNotice s).ltu = s.ltu ∧ (modeNotice s).lkc = s.lkc ∧ (modeNotice s).phn = s.phn ∧
    (modeNotice s).ssv = s.ssv ∧ (modeNotice s).tal = s.tal ∧ (modeNotice s).pfs = s.pfs ∧
    (modeNotice s).free = s.free ∧ (modeNotice s).pending = s.pending ∧ (modeNotice s).spt.rx = s.spt.rx ∧
    (modeNotice s).spt.stopped = s.spt.stopped ∧ (modeNotice s).spt.replies = s.spt.replies ∧
    (modeNotice s).spt.badFrames = s.spt.badFrames ∧ (modeNotice s).spt.dropRequest = s.spt.dropRequest ∧
    (modeNotice s).spt.tx = s.spt.tx := by
  generalize h : modeNotice s = t
  unfold modeNotice at h
  (try dsimp only at h)
  (repeat' split at h) <;> subst h <;> simp

@[simp] theorem modeRoute_keeps (s : State) :
    (modeRoute s).pins = s.pins ∧ (modeRoute s).clock = s.clock ∧ (modeRoute s).supply = s.supply ∧
    (modeRoute s).resetCause = s.resetCause ∧ (modeRoute s).loaded = s.loaded ∧ (modeRoute s).rmu = s.rmu ∧
    (modeRoute s).asc = s.asc ∧ (modeRoute s).cabins = s.cabins ∧ (modeRoute s).lists = s.lists ∧
    (modeRoute s).lnu = s.lnu ∧ (modeRoute s).ltu = s.ltu ∧ (modeRoute s).lkc = s.lkc ∧ (modeRoute s).phn = s.phn ∧
    (modeRoute s).ssv = s.ssv ∧ (modeRoute s).tal = s.tal ∧ (modeRoute s).pfs = s.pfs ∧ (modeRoute s).free = s.free ∧
    (modeRoute s).pending = s.pending ∧ (modeRoute s).spt.rx = s.spt.rx ∧ (modeRoute s).spt.stopped = s.spt.stopped ∧
    (modeRoute s).spt.replies = s.spt.replies ∧ (modeRoute s).spt.badFrames = s.spt.badFrames ∧
    (modeRoute s).spt.dropRequest = s.spt.dropRequest ∧ (modeRoute s).spt.tx = s.spt.tx := by
  generalize h : modeRoute s = t
  unfold modeRoute at h
  (try dsimp only at h)
  (repeat' split at h) <;> subst h <;> simp

@[simp] theorem changeMode_keeps (m : Mode) (s : State) :
    (changeMode m s).pins = s.pins ∧ (changeMode m s).clock = s.clock ∧ (changeMode m s).supply = s.supply ∧
    (changeMode m s).resetCause = s.resetCause ∧ (changeMode m s).loaded = s.loaded ∧ (changeMode m s).rmu = s.rmu ∧
    (changeMode m s).asc = s.asc ∧ (changeMode m s).cabins = s.cabins ∧ (changeMode m s).lists = s.lists ∧
    (changeMode m s).lnu = s.lnu ∧ (changeMode m s).ltu = s.ltu ∧ (changeMode m s).lkc = s.lkc ∧
    (changeMode m s).phn = s.phn ∧ (changeMode m s).tal = s.tal ∧ (changeMode m s).pfs = s.pfs ∧
    (changeMode m s).free = s.free ∧ (changeMode m s).pending = s.pending ∧ (changeMode m s).spt.rx = s.spt.rx ∧
    (changeMode m s).spt.stopped = s.spt.stopped ∧ (changeMode m s).spt.replies = s.spt.replies ∧
    (changeMode m s).spt.badFrames = s.spt.badFrames ∧ (changeMode m s).spt.dropRequest = s.spt.dropRequest ∧
    (changeMode m s).spt.tx = s.spt.tx := by
  generalize h : changeMode m s = t
  unfold changeMode at h
  (try dsimp only at h)
  (repeat' split at h) <;> subst h <;> simp

@[simp] theorem clearCause_keeps (c : Cause) (s : State) :
    (clearCause c s).pins = s.pins ∧ (clearCause c s).clock = s.clock ∧ (clearCause c s).supply = s.supply ∧
    (clearCause c s).resetCause = s.resetCause ∧ (clearCause c s).loaded = s.loaded ∧ (clearCause c s).rmu = s.rmu ∧
    (clearCause c s).asc = s.asc ∧ (clearCause c s).cabins = s.cabins ∧ (clearCause c s).lists = s.lists ∧
    (clearCause c s).stu = s.stu ∧ (clearCause c s).dru = s.dru ∧ (clearCause c s).lnu = s.lnu ∧
    (clearCause c s).ltu = s.ltu ∧ (clearCause c s).lkc = s.lkc ∧ (clearCause c s).phn = s.phn ∧
    (clearCause c s).tal = s.tal ∧ (clearCause c s).spt = s.spt ∧ (clearCause c s).pfs = s.pfs ∧
    (clearCause c s).free = s.free ∧ (clearCause c s).pending = s.pending ∧ (clearCause c s).ssv.mode = s.ssv.mode ∧
    (clearCause c s).ssv.restricted = s.ssv.restricted ∧ (clearCause c s).ssv.lastKeep = s.ssv.lastKeep ∧
    (clearCause c s).ssv.deadline = s.ssv.deadline := by
  generalize h : clearCause c s = t
  unfold clearCause at h
  (try dsimp only at h)
  (repeat' split at h) <;> subst h <;> simp

@[simp] theorem putRestricted_keeps (b : Bool) (s : State) :
    (putRestricted b s).pins = s.pins ∧ (putRestricted b s).clock = s.clock ∧ (putRestricted b s).supply = s.supply ∧
    (putRestricted b s).resetCause = s.resetCause ∧ (putRestricted b s).loaded = s.loaded ∧
    (putRestricted b s).rmu = s.rmu ∧ (putRestricted b s).asc = s.asc ∧ (putRestricted b s).cabins = s.cabins ∧
    (putRestricted b s).lists = s.lists ∧ (putRestricted b s).stu = s.stu ∧ (putRestricted b s).dru = s.dru ∧
    (putRestricted b s).lnu = s.lnu ∧ (putRestricted b s).ltu = s.ltu ∧ (putRestricted b s).lkc = s.lkc ∧
    (putRestricted b s).phn = s.phn ∧ (putRestricted b s).tal = s.tal ∧ (putRestricted b s).pfs = s.pfs ∧
    (putRestricted b s).free = s.free ∧ (putRestricted b s).pending = s.pending ∧
    (putRestricted b s).spt.rx = s.spt.rx ∧ (putRestricted b s).spt.stopped = s.spt.stopped ∧
    (putRestricted b s).spt.replies = s.spt.replies ∧ (putRestricted b s).spt.badFrames = s.spt.badFrames ∧
    (putRestricted b s).spt.dropRequest = s.spt.dropRequest ∧ (putRestricted b s).spt.tx = s.spt.tx := by
  generalize h : putRestricted b s = t
  unfold putRestricted at h
  (try dsimp only at h)
  (repeat' split at h) <;> subst h <;> simp

@[simp] theorem afterClearing_keeps (restricts : Bool) (s : State) :
    (afterClearing restricts s).pins = s.pins ∧ (afterClearing restricts s).clock = s.clock ∧
    (afterClearing restricts s).supply = s.supply ∧ (afterClearing restricts s).resetCause = s.resetCause ∧
    (afterClearing restricts s).loaded = s.loaded ∧ (afterClearing restricts s).rmu = s.rmu ∧
    (afterClearing restricts s).asc = s.asc ∧ (afterClearing restricts s).cabins = s.cabins ∧
    (afterClearing restricts s).lists = s.lists ∧ (afterClearing restricts s).stu = s.stu ∧
    (afterClearing restricts s).dru = s.dru ∧ (afterClearing restricts s).lnu = s.lnu ∧
    (afterClearing restricts s).ltu = s.ltu ∧ (afterClearing restricts s).lkc = s.lkc ∧
    (afterClearing restricts s).phn = s.phn ∧ (afterClearing restricts s).tal = s.tal ∧
    (afterClearing restricts s).pfs = s.pfs ∧ (afterClearing restricts s).free = s.free ∧
    (afterClearing restricts s).pending = s.pending ∧ (afterClearing restricts s).spt.rx = s.spt.rx ∧
    (afterClearing restricts s).spt.stopped = s.spt.stopped ∧
    (afterClearing restricts s).spt.replies = s.spt.replies ∧
    (afterClearing restricts s).spt.badFrames = s.spt.badFrames ∧
    (afterClearing restricts s).spt.dropRequest = s.spt.dropRequest ∧ (afterClearing restricts s).spt.tx = s.spt.tx := by
  generalize h : afterClearing restricts s = t
  unfold afterClearing at h
  (try dsimp only at h)
  (repeat' split at h) <;> subst h <;> simp

@[simp] theorem ackOne_keeps (c : Cause) (s : State) :
    (ackOne c s).pins = s.pins ∧ (ackOne c s).clock = s.clock ∧ (ackOne c s).supply = s.supply ∧
    (ackOne c s).resetCause = s.resetCause ∧ (ackOne c s).loaded = s.loaded ∧ (ackOne c s).rmu = s.rmu ∧
    (ackOne c s).asc = s.asc ∧ (ackOne c s).cabins = s.cabins ∧ (ackOne c s).lists = s.lists ∧
    (ackOne c s).stu = s.stu ∧ (ackOne c s).dru = s.dru ∧ (ackOne c s).lnu = s.lnu ∧ (ackOne c s).ltu = s.ltu ∧
    (ackOne c s).lkc = s.lkc ∧ (ackOne c s).phn = s.phn ∧ (ackOne c s).tal = s.tal ∧ (ackOne c s).pfs = s.pfs ∧
    (ackOne c s).free = s.free ∧ (ackOne c s).pending = s.pending ∧ (ackOne c s).spt.rx = s.spt.rx ∧
    (ackOne c s).spt.stopped = s.spt.stopped ∧ (ackOne c s).spt.replies = s.spt.replies ∧
    (ackOne c s).spt.badFrames = s.spt.badFrames ∧ (ackOne c s).spt.dropRequest = s.spt.dropRequest ∧
    (ackOne c s).spt.tx = s.spt.tx := by
  generalize h : ackOne c s = t
  unfold ackOne at h
  (try dsimp only at h)
  (repeat' split at h) <;> subst h <;> simp

theorem clearCause_fold_keeps (l : List Cause) (s : State) :
    (l.foldl (fun s c => clearCause c s) s).pins = s.pins ∧ (l.foldl (fun s c => clearCause c s) s).clock = s.clock ∧
    (l.foldl (fun s c => clearCause c s) s).supply = s.supply ∧
    (l.foldl (fun s c => clearCause c s) s).resetCause = s.resetCause ∧
    (l.foldl (fun s c => clearCause c s) s).loaded = s.loaded ∧ (l.foldl (fun s c => clearCause c s) s).rmu = s.rmu ∧
    (l.foldl (fun s c => clearCause c s) s).asc = s.asc ∧ (l.foldl (fun s c => clearCause c s) s).cabins = s.cabins ∧
    (l.foldl (fun s c => clearCause c s) s).lists = s.lists ∧ (l.foldl (fun s c => clearCause c s) s).stu = s.stu ∧
    (l.foldl (fun s c => clearCause c s) s).dru = s.dru ∧ (l.foldl (fun s c => clearCause c s) s).lnu = s.lnu ∧
    (l.foldl (fun s c => clearCause c s) s).ltu = s.ltu ∧ (l.foldl (fun s c => clearCause c s) s).lkc = s.lkc ∧
    (l.foldl (fun s c => clearCause c s) s).phn = s.phn ∧ (l.foldl (fun s c => clearCause c s) s).tal = s.tal ∧
    (l.foldl (fun s c => clearCause c s) s).spt = s.spt ∧ (l.foldl (fun s c => clearCause c s) s).pfs = s.pfs ∧
    (l.foldl (fun s c => clearCause c s) s).free = s.free ∧
    (l.foldl (fun s c => clearCause c s) s).pending = s.pending ∧
    (l.foldl (fun s c => clearCause c s) s).ssv.mode = s.ssv.mode ∧
    (l.foldl (fun s c => clearCause c s) s).ssv.restricted = s.ssv.restricted ∧
    (l.foldl (fun s c => clearCause c s) s).ssv.lastKeep = s.ssv.lastKeep ∧
    (l.foldl (fun s c => clearCause c s) s).ssv.deadline = s.ssv.deadline := by
  induction l generalizing s with
  | nil => simp
  | cons c l ih => simp [ih]

@[simp] theorem ackEvery_keeps (s : State) :
    (ackEvery s).pins = s.pins ∧ (ackEvery s).clock = s.clock ∧ (ackEvery s).supply = s.supply ∧
    (ackEvery s).resetCause = s.resetCause ∧ (ackEvery s).loaded = s.loaded ∧ (ackEvery s).rmu = s.rmu ∧
    (ackEvery s).asc = s.asc ∧ (ackEvery s).cabins = s.cabins ∧ (ackEvery s).lists = s.lists ∧
    (ackEvery s).stu = s.stu ∧ (ackEvery s).dru = s.dru ∧ (ackEvery s).lnu = s.lnu ∧ (ackEvery s).ltu = s.ltu ∧
    (ackEvery s).lkc = s.lkc ∧ (ackEvery s).phn = s.phn ∧ (ackEvery s).tal = s.tal ∧ (ackEvery s).pfs = s.pfs ∧
    (ackEvery s).free = s.free ∧ (ackEvery s).pending = s.pending ∧ (ackEvery s).spt.rx = s.spt.rx ∧
    (ackEvery s).spt.stopped = s.spt.stopped ∧ (ackEvery s).spt.replies = s.spt.replies ∧
    (ackEvery s).spt.badFrames = s.spt.badFrames ∧ (ackEvery s).spt.dropRequest = s.spt.dropRequest ∧
    (ackEvery s).spt.tx = s.spt.tx := by
  simp [ackEvery, clearCause_fold_keeps]

@[simp] theorem keepAlive_keeps (s : State) :
    (keepAlive s).pins = s.pins ∧ (keepAlive s).clock = s.clock ∧ (keepAlive s).supply = s.supply ∧
    (keepAlive s).resetCause = s.resetCause ∧ (keepAlive s).loaded = s.loaded ∧ (keepAlive s).rmu = s.rmu ∧
    (keepAlive s).asc = s.asc ∧ (keepAlive s).cabins = s.cabins ∧ (keepAlive s).lists = s.lists ∧
    (keepAlive s).stu = s.stu ∧ (keepAlive s).dru = s.dru ∧ (keepAlive s).lnu = s.lnu ∧ (keepAlive s).ltu = s.ltu ∧
    (keepAlive s).lkc = s.lkc ∧ (keepAlive s).phn = s.phn ∧ (keepAlive s).tal = s.tal ∧ (keepAlive s).pfs = s.pfs ∧
    (keepAlive s).free = s.free ∧ (keepAlive s).pending = s.pending ∧ (keepAlive s).spt.rx = s.spt.rx ∧
    (keepAlive s).spt.stopped = s.spt.stopped ∧ (keepAlive s).spt.replies = s.spt.replies ∧
    (keepAlive s).spt.badFrames = s.spt.badFrames ∧ (keepAlive s).spt.dropRequest = s.spt.dropRequest ∧
    (keepAlive s).spt.tx = s.spt.tx := by
  generalize h : keepAlive s = t
  unfold keepAlive at h
  (try dsimp only at h)
  (repeat' split at h) <;> subst h <;> simp

@[simp] theorem deadlineMissed_keeps (s : State) :
    (deadlineMissed s).pins = s.pins ∧ (deadlineMissed s).clock = s.clock ∧ (deadlineMissed s).supply = s.supply ∧
    (deadlineMissed s).resetCause = s.resetCause ∧ (deadlineMissed s).loaded = s.loaded ∧
    (deadlineMissed s).rmu = s.rmu ∧ (deadlineMissed s).asc = s.asc ∧ (deadlineMissed s).cabins = s.cabins ∧
    (deadlineMissed s).lists = s.lists ∧ (deadlineMissed s).stu = s.stu ∧ (deadlineMissed s).dru = s.dru ∧
    (deadlineMissed s).lnu = s.lnu ∧ (deadlineMissed s).ltu = s.ltu ∧ (deadlineMissed s).lkc = s.lkc ∧
    (deadlineMissed s).phn = s.phn ∧ (deadlineMissed s).tal = s.tal ∧ (deadlineMissed s).pfs = s.pfs ∧
    (deadlineMissed s).free = s.free ∧ (deadlineMissed s).pending = s.pending ∧
    (deadlineMissed s).spt.rx = s.spt.rx ∧ (deadlineMissed s).spt.stopped = s.spt.stopped ∧
    (deadlineMissed s).spt.replies = s.spt.replies ∧ (deadlineMissed s).spt.badFrames = s.spt.badFrames ∧
    (deadlineMissed s).spt.dropRequest = s.spt.dropRequest ∧ (deadlineMissed s).spt.tx = s.spt.tx := by
  generalize h : deadlineMissed s = t
  unfold deadlineMissed at h
  (try dsimp only at h)
  (repeat' split at h) <;> subst h <;> simp

@[simp] theorem sampleCounter_keeps (k : CounterIx) (s : State) :
    (sampleCounter k s).pins = s.pins ∧ (sampleCounter k s).clock = s.clock ∧ (sampleCounter k s).supply = s.supply ∧
    (sampleCounter k s).resetCause = s.resetCause ∧ (sampleCounter k s).loaded = s.loaded ∧
    (sampleCounter k s).rmu = s.rmu ∧ (sampleCounter k s).asc = s.asc ∧ (sampleCounter k s).cabins = s.cabins ∧
    (sampleCounter k s).lists = s.lists ∧ (sampleCounter k s).stu = s.stu ∧ (sampleCounter k s).dru = s.dru ∧
    (sampleCounter k s).lnu = s.lnu ∧ (sampleCounter k s).ltu = s.ltu ∧ (sampleCounter k s).lkc = s.lkc ∧
    (sampleCounter k s).phn = s.phn ∧ (sampleCounter k s).ssv = s.ssv ∧ (sampleCounter k s).pfs = s.pfs ∧
    (sampleCounter k s).free = s.free ∧ (sampleCounter k s).pending = s.pending ∧
    (sampleCounter k s).spt.rx = s.spt.rx ∧ (sampleCounter k s).spt.stopped = s.spt.stopped ∧
    (sampleCounter k s).spt.replies = s.spt.replies ∧ (sampleCounter k s).spt.badFrames = s.spt.badFrames ∧
    (sampleCounter k s).spt.dropRequest = s.spt.dropRequest ∧ (sampleCounter k s).spt.tx = s.spt.tx := by
  generalize h : sampleCounter k s = t
  unfold sampleCounter at h
  (try dsimp only at h)
  (repeat' split at h) <;> subst h <;> simp

theorem tallySample_fold_keeps (l : List CounterIx) (s : State) :
    (l.foldl (fun s k => sampleCounter k s) s).pins = s.pins ∧
    (l.foldl (fun s k => sampleCounter k s) s).clock = s.clock ∧
    (l.foldl (fun s k => sampleCounter k s) s).supply = s.supply ∧
    (l.foldl (fun s k => sampleCounter k s) s).resetCause = s.resetCause ∧
    (l.foldl (fun s k => sampleCounter k s) s).loaded = s.loaded ∧
    (l.foldl (fun s k => sampleCounter k s) s).rmu = s.rmu ∧ (l.foldl (fun s k => sampleCounter k s) s).asc = s.asc ∧
    (l.foldl (fun s k => sampleCounter k s) s).cabins = s.cabins ∧
    (l.foldl (fun s k => sampleCounter k s) s).lists = s.lists ∧
    (l.foldl (fun s k => sampleCounter k s) s).stu = s.stu ∧ (l.foldl (fun s k => sampleCounter k s) s).dru = s.dru ∧
    (l.foldl (fun s k => sampleCounter k s) s).lnu = s.lnu ∧ (l.foldl (fun s k => sampleCounter k s) s).ltu = s.ltu ∧
    (l.foldl (fun s k => sampleCounter k s) s).lkc = s.lkc ∧ (l.foldl (fun s k => sampleCounter k s) s).phn = s.phn ∧
    (l.foldl (fun s k => sampleCounter k s) s).ssv = s.ssv ∧ (l.foldl (fun s k => sampleCounter k s) s).pfs = s.pfs ∧
    (l.foldl (fun s k => sampleCounter k s) s).free = s.free ∧
    (l.foldl (fun s k => sampleCounter k s) s).pending = s.pending ∧
    (l.foldl (fun s k => sampleCounter k s) s).spt.rx = s.spt.rx ∧
    (l.foldl (fun s k => sampleCounter k s) s).spt.stopped = s.spt.stopped ∧
    (l.foldl (fun s k => sampleCounter k s) s).spt.replies = s.spt.replies ∧
    (l.foldl (fun s k => sampleCounter k s) s).spt.badFrames = s.spt.badFrames ∧
    (l.foldl (fun s k => sampleCounter k s) s).spt.dropRequest = s.spt.dropRequest ∧
    (l.foldl (fun s k => sampleCounter k s) s).spt.tx = s.spt.tx := by
  induction l generalizing s with
  | nil => simp
  | cons k l ih => simp [ih]

@[simp] theorem tallySample_keeps (s : State) :
    (tallySample s).pins = s.pins ∧ (tallySample s).clock = s.clock ∧ (tallySample s).supply = s.supply ∧
    (tallySample s).resetCause = s.resetCause ∧ (tallySample s).loaded = s.loaded ∧ (tallySample s).rmu = s.rmu ∧
    (tallySample s).asc = s.asc ∧ (tallySample s).cabins = s.cabins ∧ (tallySample s).lists = s.lists ∧
    (tallySample s).stu = s.stu ∧ (tallySample s).dru = s.dru ∧ (tallySample s).lnu = s.lnu ∧
    (tallySample s).ltu = s.ltu ∧ (tallySample s).lkc = s.lkc ∧ (tallySample s).phn = s.phn ∧
    (tallySample s).ssv = s.ssv ∧ (tallySample s).pfs = s.pfs ∧ (tallySample s).free = s.free ∧
    (tallySample s).pending = s.pending ∧ (tallySample s).spt.rx = s.spt.rx ∧
    (tallySample s).spt.stopped = s.spt.stopped ∧ (tallySample s).spt.replies = s.spt.replies ∧
    (tallySample s).spt.badFrames = s.spt.badFrames ∧ (tallySample s).spt.dropRequest = s.spt.dropRequest ∧
    (tallySample s).spt.tx = s.spt.tx := by
  unfold tallySample
  exact tallySample_fold_keeps CounterIx.all s

end Sys2Proof.Machine
end

