-- ==== Sys2Proof/Laws/Port.lean ====
section
/-! SUPPORT. What each operation of the Profile Store, the Station Port and the requests leaves unchanged: every field of the state that it does not write. -/

-- One lemma after the other: side by side, their proofs need more memory in the joined text than the check has.
set_option Elab.async false

namespace Sys2Proof.Machine

@[simp] theorem modified_keeps (s : State) :
    (modified s).pins = s.pins ∧ (modified s).clock = s.clock ∧ (modified s).supply = s.supply ∧
    (modified s).resetCause = s.resetCause ∧ (modified s).loaded = s.loaded ∧ (modified s).rmu = s.rmu ∧
    (modified s).asc = s.asc ∧ (modified s).cabins = s.cabins ∧ (modified s).lists = s.lists ∧
    (modified s).stu = s.stu ∧ (modified s).dru = s.dru ∧ (modified s).lnu = s.lnu ∧ (modified s).ltu = s.ltu ∧
    (modified s).lkc = s.lkc ∧ (modified s).phn = s.phn ∧ (modified s).ssv = s.ssv ∧ (modified s).tal = s.tal ∧
    (modified s).spt = s.spt ∧ (modified s).free = s.free ∧ (modified s).pending = s.pending := by
  generalize h : modified s = t
  unfold modified at h
  (try dsimp only at h)
  (repeat' split at h) <;> subst h <;> simp

@[simp] theorem paramWritten_keeps (q : Param) (s : State) :
    (paramWritten q s).pins = s.pins ∧ (paramWritten q s).clock = s.clock ∧ (paramWritten q s).supply = s.supply ∧
    (paramWritten q s).resetCause = s.resetCause ∧ (paramWritten q s).loaded = s.loaded ∧
    (paramWritten q s).asc = s.asc ∧ (paramWritten q s).cabins = s.cabins ∧ (paramWritten q s).lists = s.lists ∧
    (paramWritten q s).lnu = s.lnu ∧ (paramWritten q s).ltu = s.ltu ∧ (paramWritten q s).phn = s.phn ∧
    (paramWritten q s).tal = s.tal ∧ (paramWritten q s).pfs = s.pfs ∧ (paramWritten q s).free = s.free ∧
    (paramWritten q s).pending = s.pending ∧ (paramWritten q s).ssv.mode = s.ssv.mode ∧
    (paramWritten q s).ssv.restricted = s.ssv.restricted ∧ (paramWritten q s).ssv.lastKeep = s.ssv.lastKeep ∧
    (paramWritten q s).ssv.deadline = s.ssv.deadline ∧ (paramWritten q s).spt.rx = s.spt.rx ∧
    (paramWritten q s).spt.stopped = s.spt.stopped ∧ (paramWritten q s).spt.replies = s.spt.replies ∧
    (paramWritten q s).spt.badFrames = s.spt.badFrames ∧ (paramWritten q s).spt.dropRequest = s.spt.dropRequest ∧
    (paramWritten q s).spt.tx = s.spt.tx ∧ (paramWritten q s).lkc.rx = s.lkc.rx ∧
    (paramWritten q s).lkc.chan = s.lkc.chan ∧ (paramWritten q s).lkc.ownNext = s.lkc.ownNext ∧
    (paramWritten q s).lkc.txCycle = s.lkc.txCycle := by
  generalize h : paramWritten q s = t
  unfold paramWritten at h
  (try dsimp only at h)
  (repeat' split at h) <;> subst h <;> simp

@[simp] theorem writeParam_keeps (q : Param) (v : Nat) (s : State) :
    (writeParam q v s).pins = s.pins ∧ (writeParam q v s).clock = s.clock ∧ (writeParam q v s).supply = s.supply ∧
    (writeParam q v s).resetCause = s.resetCause ∧ (writeParam q v s).loaded = s.loaded ∧
    (writeParam q v s).asc = s.asc ∧ (writeParam q v s).cabins = s.cabins ∧ (writeParam q v s).lists = s.lists ∧
    (writeParam q v s).lnu = s.lnu ∧ (writeParam q v s).ltu = s.ltu ∧ (writeParam q v s).phn = s.phn ∧
    (writeParam q v s).tal = s.tal ∧ (writeParam q v s).free = s.free ∧ (writeParam q v s).pending = s.pending ∧
    (writeParam q v s).ssv.mode = s.ssv.mode ∧ (writeParam q v s).ssv.restricted = s.ssv.restricted ∧
    (writeParam q v s).ssv.lastKeep = s.ssv.lastKeep ∧ (writeParam q v s).ssv.deadline = s.ssv.deadline ∧
    (writeParam q v s).spt.rx = s.spt.rx ∧ (writeParam q v s).spt.stopped = s.spt.stopped ∧
    (writeParam q v s).spt.replies = s.spt.replies ∧ (writeParam q v s).spt.badFrames = s.spt.badFrames ∧
    (writeParam q v s).spt.dropRequest = s.spt.dropRequest ∧ (writeParam q v s).spt.tx = s.spt.tx ∧
    (writeParam q v s).lkc.rx = s.lkc.rx ∧ (writeParam q v s).lkc.chan = s.lkc.chan ∧
    (writeParam q v s).lkc.ownNext = s.lkc.ownNext ∧ (writeParam q v s).lkc.txCycle = s.lkc.txCycle := by
  generalize h : writeParam q v s = t
  unfold writeParam at h
  (try dsimp only at h)
  (repeat' split at h) <;> subst h <;> simp

@[simp] theorem restoreDefaults_keeps (s : State) :
    (restoreDefaults s).pins = s.pins ∧ (restoreDefaults s).clock = s.clock ∧ (restoreDefaults s).supply = s.supply ∧
    (restoreDefaults s).resetCause = s.resetCause ∧ (restoreDefaults s).loaded = s.loaded ∧
    (restoreDefaults s).asc = s.asc ∧ (restoreDefaults s).cabins = s.cabins ∧ (restoreDefaults s).lists = s.lists ∧
    (restoreDefaults s).lnu = s.lnu ∧ (restoreDefaults s).ltu = s.ltu ∧ (restoreDefaults s).phn = s.phn ∧
    (restoreDefaults s).tal = s.tal ∧ (restoreDefaults s).free = s.free ∧ (restoreDefaults s).pending = s.pending ∧
    (restoreDefaults s).ssv.mode = s.ssv.mode ∧ (restoreDefaults s).ssv.restricted = s.ssv.restricted ∧
    (restoreDefaults s).ssv.lastKeep = s.ssv.lastKeep ∧ (restoreDefaults s).ssv.deadline = s.ssv.deadline ∧
    (restoreDefaults s).spt.rx = s.spt.rx ∧ (restoreDefaults s).spt.stopped = s.spt.stopped ∧
    (restoreDefaults s).spt.replies = s.spt.replies ∧ (restoreDefaults s).spt.badFrames = s.spt.badFrames ∧
    (restoreDefaults s).spt.dropRequest = s.spt.dropRequest ∧ (restoreDefaults s).spt.tx = s.spt.tx ∧
    (restoreDefaults s).lkc.rx = s.lkc.rx ∧ (restoreDefaults s).lkc.chan = s.lkc.chan ∧
    (restoreDefaults s).lkc.ownNext = s.lkc.ownNext ∧ (restoreDefaults s).lkc.txCycle = s.lkc.txCycle := by
  generalize h : restoreDefaults s = t
  unfold restoreDefaults at h
  (try dsimp only at h)
  (repeat' split at h) <;> subst h <;> simp

@[simp] theorem startCommit_keeps (tag : Option Byte) (s : State) :
    (startCommit tag s).pins = s.pins ∧ (startCommit tag s).clock = s.clock ∧ (startCommit tag s).supply = s.supply ∧
    (startCommit tag s).resetCause = s.resetCause ∧ (startCommit tag s).loaded = s.loaded ∧
    (startCommit tag s).rmu = s.rmu ∧ (startCommit tag s).asc = s.asc ∧ (startCommit tag s).cabins = s.cabins ∧
    (startCommit tag s).lists = s.lists ∧ (startCommit tag s).stu = s.stu ∧ (startCommit tag s).dru = s.dru ∧
    (startCommit tag s).lnu = s.lnu ∧ (startCommit tag s).ltu = s.ltu ∧ (startCommit tag s).lkc = s.lkc ∧
    (startCommit tag s).phn = s.phn ∧ (startCommit tag s).ssv = s.ssv ∧ (startCommit tag s).tal = s.tal ∧
    (startCommit tag s).spt = s.spt ∧ (startCommit tag s).free = s.free ∧ (startCommit tag s).pending = s.pending := by
  generalize h : startCommit tag s = t
  unfold startCommit at h
  (try dsimp only at h)
  (repeat' split at h) <;> subst h <;> simp

@[simp] theorem commitReply_keeps (tag : Byte) (st : Status) (s : State) :
    (commitReply tag st s).pins = s.pins ∧ (commitReply tag st s).clock = s.clock ∧
    (commitReply tag st s).supply = s.supply ∧ (commitReply tag st s).resetCause = s.resetCause ∧
    (commitReply tag st s).loaded = s.loaded ∧ (commitReply tag st s).rmu = s.rmu ∧
    (commitReply tag st s).asc = s.asc ∧ (commitReply tag st s).cabins = s.cabins ∧
    (commitReply tag st s).lists = s.lists ∧ (commitReply tag st s).stu = s.stu ∧
    (commitReply tag st s).dru = s.dru ∧ (commitReply tag st s).lnu = s.lnu ∧ (commitReply tag st s).ltu = s.ltu ∧
    (commitReply tag st s).lkc = s.lkc ∧ (commitReply tag st s).phn = s.phn ∧ (commitReply tag st s).ssv = s.ssv ∧
    (commitReply tag st s).tal = s.tal ∧ (commitReply tag st s).pfs = s.pfs ∧ (commitReply tag st s).free = s.free ∧
    (commitReply tag st s).pending = s.pending := by
  generalize h : commitReply tag st s = t
  unfold commitReply at h
  (try dsimp only at h)
  (repeat' split at h) <;> subst h <;> simp

@[simp] theorem finishCommit_keeps (c : Commit) (equal : Bool) (s : State) :
    (finishCommit c equal s).pins = s.pins ∧ (finishCommit c equal s).clock = s.clock ∧
    (finishCommit c equal s).supply = s.supply ∧ (finishCommit c equal s).resetCause = s.resetCause ∧
    (finishCommit c equal s).loaded = s.loaded ∧ (finishCommit c equal s).rmu = s.rmu ∧
    (finishCommit c equal s).asc = s.asc ∧ (finishCommit c equal s).cabins = s.cabins ∧
    (finishCommit c equal s).lists = s.lists ∧ (finishCommit c equal s).stu = s.stu ∧
    (finishCommit c equal s).dru = s.dru ∧ (finishCommit c equal s).lnu = s.lnu ∧
    (finishCommit c equal s).ltu = s.ltu ∧ (finishCommit c equal s).lkc = s.lkc ∧
    (finishCommit c equal s).phn = s.phn ∧ (finishCommit c equal s).ssv = s.ssv ∧
    (finishCommit c equal s).tal = s.tal ∧ (finishCommit c equal s).spt = s.spt ∧
    (finishCommit c equal s).pending = s.pending := by
  generalize h : finishCommit c equal s = t
  unfold finishCommit at h
  (try dsimp only at h)
  (repeat' split at h) <;> subst h <;> simp

@[simp] theorem commitDone_keeps (equal : Bool) (s : State) :
    (commitDone equal s).pins = s.pins ∧ (commitDone equal s).clock = s.clock ∧
    (commitDone equal s).supply = s.supply ∧ (commitDone equal s).resetCause = s.resetCause ∧
    (commitDone equal s).loaded = s.loaded ∧ (commitDone equal s).rmu = s.rmu ∧ (commitDone equal s).asc = s.asc ∧
    (commitDone equal s).cabins = s.cabins ∧ (commitDone equal s).lists = s.lists ∧
    (commitDone equal s).stu = s.stu ∧ (commitDone equal s).dru = s.dru ∧ (commitDone equal s).lnu = s.lnu ∧
    (commitDone equal s).ltu = s.ltu ∧ (commitDone equal s).lkc = s.lkc ∧ (commitDone equal s).phn = s.phn ∧
    (commitDone equal s).ssv = s.ssv ∧ (commitDone equal s).tal = s.tal ∧ (commitDone equal s).pending = s.pending := by
  generalize h : commitDone equal s = t
  unfold commitDone at h
  (try dsimp only at h)
  (repeat' split at h) <;> subst h <;> simp

@[simp] theorem loadContents_keeps (s : State) :
    (loadContents s).pins = s.pins ∧ (loadContents s).clock = s.clock ∧ (loadContents s).supply = s.supply ∧
    (loadContents s).resetCause = s.resetCause ∧ (loadContents s).loaded = s.loaded ∧ (loadContents s).rmu = s.rmu ∧
    (loadContents s).asc = s.asc ∧ (loadContents s).lists = s.lists ∧ (loadContents s).stu = s.stu ∧
    (loadContents s).dru = s.dru ∧ (loadContents s).lnu = s.lnu ∧ (loadContents s).ltu = s.ltu ∧
    (loadContents s).lkc = s.lkc ∧ (loadContents s).phn = s.phn ∧ (loadContents s).ssv = s.ssv ∧
    (loadContents s).tal = s.tal ∧ (loadContents s).spt = s.spt ∧ (loadContents s).free = s.free ∧
    (loadContents s).pending = s.pending := by
  generalize h : loadContents s = t
  unfold loadContents at h
  (try dsimp only at h)
  (repeat' split at h) <;> subst h <;> simp

@[simp] theorem loadCommit_keeps (s : State) :
    (loadCommit s).pins = s.pins ∧ (loadCommit s).clock = s.clock ∧ (loadCommit s).supply = s.supply ∧
    (loadCommit s).resetCause = s.resetCause ∧ (loadCommit s).loaded = s.loaded ∧ (loadCommit s).rmu = s.rmu ∧
    (loadCommit s).asc = s.asc ∧ (loadCommit s).cabins = s.cabins ∧ (loadCommit s).lists = s.lists ∧
    (loadCommit s).stu = s.stu ∧ (loadCommit s).dru = s.dru ∧ (loadCommit s).lnu = s.lnu ∧
    (loadCommit s).ltu = s.ltu ∧ (loadCommit s).lkc = s.lkc ∧ (loadCommit s).phn = s.phn ∧
    (loadCommit s).ssv = s.ssv ∧ (loadCommit s).tal = s.tal ∧ (loadCommit s).spt = s.spt ∧
    (loadCommit s).free = s.free ∧ (loadCommit s).pending = s.pending := by
  generalize h : loadCommit s = t
  unfold loadCommit at h
  (try dsimp only at h)
  (repeat' split at h) <;> subst h <;> simp

@[simp] theorem takeReferences_keeps (s : State) :
    (takeReferences s).pins = s.pins ∧ (takeReferences s).clock = s.clock ∧ (takeReferences s).supply = s.supply ∧
    (takeReferences s).resetCause = s.resetCause ∧ (takeReferences s).loaded = s.loaded ∧
    (takeReferences s).asc = s.asc ∧ (takeReferences s).cabins = s.cabins ∧ (takeReferences s).lists = s.lists ∧
    (takeReferences s).dru = s.dru ∧ (takeReferences s).lnu = s.lnu ∧ (takeReferences s).ltu = s.ltu ∧
    (takeReferences s).phn = s.phn ∧ (takeReferences s).ssv = s.ssv ∧ (takeReferences s).tal = s.tal ∧
    (takeReferences s).spt = s.spt ∧ (takeReferences s).pfs = s.pfs ∧ (takeReferences s).free = s.free ∧
    (takeReferences s).pending = s.pending ∧ (takeReferences s).lkc.chan = s.lkc.chan ∧
    (takeReferences s).lkc.ownNext = s.lkc.ownNext ∧ (takeReferences s).lkc.txCycle = s.lkc.txCycle := by
  generalize h : takeReferences s = t
  unfold takeReferences at h
  (try dsimp only at h)
  (repeat' split at h) <;> subst h <;> simp

@[simp] theorem takeDrives_keeps (s : State) :
    (takeDrives s).pins = s.pins ∧ (takeDrives s).clock = s.clock ∧ (takeDrives s).supply = s.supply ∧
    (takeDrives s).resetCause = s.resetCause ∧ (takeDrives s).loaded = s.loaded ∧ (takeDrives s).rmu = s.rmu ∧
    (takeDrives s).asc = s.asc ∧ (takeDrives s).cabins = s.cabins ∧ (takeDrives s).lists = s.lists ∧
    (takeDrives s).stu = s.stu ∧ (takeDrives s).lnu = s.lnu ∧ (takeDrives s).ltu = s.ltu ∧
    (takeDrives s).lkc = s.lkc ∧ (takeDrives s).phn = s.phn ∧ (takeDrives s).tal = s.tal ∧
    (takeDrives s).pfs = s.pfs ∧ (takeDrives s).free = s.free ∧ (takeDrives s).pending = s.pending ∧
    (takeDrives s).ssv.mode = s.ssv.mode ∧ (takeDrives s).ssv.restricted = s.ssv.restricted ∧
    (takeDrives s).ssv.lastKeep = s.ssv.lastKeep ∧ (takeDrives s).ssv.deadline = s.ssv.deadline ∧
    (takeDrives s).spt.rx = s.spt.rx ∧ (takeDrives s).spt.stopped = s.spt.stopped ∧
    (takeDrives s).spt.replies = s.spt.replies ∧ (takeDrives s).spt.badFrames = s.spt.badFrames ∧
    (takeDrives s).spt.dropRequest = s.spt.dropRequest ∧ (takeDrives s).spt.tx = s.spt.tx := by
  generalize h : takeDrives s = t
  unfold takeDrives at h
  (try dsimp only at h)
  (repeat' split at h) <;> subst h <;> simp

@[simp] theorem enterService_keeps (s : State) :
    (enterService s).pins = s.pins ∧ (enterService s).clock = s.clock ∧ (enterService s).supply = s.supply ∧
    (enterService s).resetCause = s.resetCause ∧ (enterService s).loaded = s.loaded ∧ (enterService s).rmu = s.rmu ∧
    (enterService s).asc = s.asc ∧ (enterService s).cabins = s.cabins ∧ (enterService s).lists = s.lists ∧
    (enterService s).lnu = s.lnu ∧ (enterService s).ltu = s.ltu ∧ (enterService s).lkc = s.lkc ∧
    (enterService s).phn = s.phn ∧ (enterService s).tal = s.tal ∧ (enterService s).pfs = s.pfs ∧
    (enterService s).free = s.free ∧ (enterService s).pending = s.pending ∧ (enterService s).spt.rx = s.spt.rx ∧
    (enterService s).spt.stopped = s.spt.stopped ∧ (enterService s).spt.replies = s.spt.replies ∧
    (enterService s).spt.badFrames = s.spt.badFrames ∧ (enterService s).spt.dropRequest = s.spt.dropRequest ∧
    (enterService s).spt.tx = s.spt.tx := by
  generalize h : enterService s = t
  unfold enterService at h
  (try dsimp only at h)
  (repeat' split at h) <;> subst h <;> simp

@[simp] theorem loadProfile_keeps (s : State) :
    (loadProfile s).pins = s.pins ∧ (loadProfile s).clock = s.clock ∧ (loadProfile s).supply = s.supply ∧
    (loadProfile s).resetCause = s.resetCause ∧ (loadProfile s).asc = s.asc ∧ (loadProfile s).lists = s.lists ∧
    (loadProfile s).lnu = s.lnu ∧ (loadProfile s).ltu = s.ltu ∧ (loadProfile s).phn = s.phn ∧
    (loadProfile s).tal = s.tal ∧ (loadProfile s).free = s.free ∧ (loadProfile s).pending = s.pending ∧
    (loadProfile s).spt.rx = s.spt.rx ∧ (loadProfile s).spt.stopped = s.spt.stopped ∧
    (loadProfile s).spt.replies = s.spt.replies ∧ (loadProfile s).spt.badFrames = s.spt.badFrames ∧
    (loadProfile s).spt.dropRequest = s.spt.dropRequest ∧ (loadProfile s).spt.tx = s.spt.tx ∧
    (loadProfile s).lkc.chan = s.lkc.chan ∧ (loadProfile s).lkc.ownNext = s.lkc.ownNext ∧
    (loadProfile s).lkc.txCycle = s.lkc.txCycle := by
  generalize h : loadProfile s = t
  unfold loadProfile at h
  (try dsimp only at h)
  (repeat' split at h) <;> subst h <;> simp

@[simp] theorem endReset_keeps (s : State) :
    (endReset s).pins = s.pins ∧ (endReset s).clock = s.clock ∧ (endReset s).supply = s.supply ∧
    (endReset s).loaded = s.loaded ∧ (endReset s).rmu = s.rmu ∧ (endReset s).asc = s.asc ∧
    (endReset s).cabins = s.cabins ∧ (endReset s).lists = s.lists ∧ (endReset s).stu = s.stu ∧
    (endReset s).dru = s.dru ∧ (endReset s).lnu = s.lnu ∧ (endReset s).ltu = s.ltu ∧ (endReset s).lkc = s.lkc ∧
    (endReset s).phn = s.phn ∧ (endReset s).tal = s.tal ∧ (endReset s).pfs = s.pfs ∧ (endReset s).free = s.free ∧
    (endReset s).pending = s.pending ∧ (endReset s).spt.rx = s.spt.rx ∧ (endReset s).spt.stopped = s.spt.stopped ∧
    (endReset s).spt.replies = s.spt.replies ∧ (endReset s).spt.badFrames = s.spt.badFrames ∧
    (endReset s).spt.dropRequest = s.spt.dropRequest ∧ (endReset s).spt.tx = s.spt.tx := by
  generalize h : endReset s = t
  unfold endReset at h
  (try dsimp only at h)
  (repeat' split at h) <;> subst h <;> simp

@[simp] theorem joinReply_keeps (e : ReplyEntry) (s : State) :
    (joinReply e s).pins = s.pins ∧ (joinReply e s).clock = s.clock ∧ (joinReply e s).supply = s.supply ∧
    (joinReply e s).resetCause = s.resetCause ∧ (joinReply e s).loaded = s.loaded ∧ (joinReply e s).rmu = s.rmu ∧
    (joinReply e s).asc = s.asc ∧ (joinReply e s).cabins = s.cabins ∧ (joinReply e s).lists = s.lists ∧
    (joinReply e s).stu = s.stu ∧ (joinReply e s).dru = s.dru ∧ (joinReply e s).lnu = s.lnu ∧
    (joinReply e s).ltu = s.ltu ∧ (joinReply e s).lkc = s.lkc ∧ (joinReply e s).phn = s.phn ∧
    (joinReply e s).ssv = s.ssv ∧ (joinReply e s).tal = s.tal ∧ (joinReply e s).pfs = s.pfs ∧
    (joinReply e s).free = s.free ∧ (joinReply e s).pending = s.pending := by
  generalize h : joinReply e s = t
  unfold joinReply at h
  (try dsimp only at h)
  (repeat' split at h) <;> subst h <;> simp

@[simp] theorem answer_keeps (kind tag : Byte) (st : Status) (data : List Byte) (s : State) :
    (answer kind tag st data s).pins = s.pins ∧ (answer kind tag st data s).clock = s.clock ∧
    (answer kind tag st data s).supply = s.supply ∧ (answer kind tag st data s).resetCause = s.resetCause ∧
    (answer kind tag st data s).loaded = s.loaded ∧ (answer kind tag st data s).rmu = s.rmu ∧
    (answer kind tag st data s).asc = s.asc ∧ (answer kind tag st data s).cabins = s.cabins ∧
    (answer kind tag st data s).lists = s.lists ∧ (answer kind tag st data s).stu = s.stu ∧
    (answer kind tag st data s).dru = s.dru ∧ (answer kind tag st data s).lnu = s.lnu ∧
    (answer kind tag st data s).ltu = s.ltu ∧ (answer kind tag st data s).lkc = s.lkc ∧
    (answer kind tag st data s).phn = s.phn ∧ (answer kind tag st data s).ssv = s.ssv ∧
    (answer kind tag st data s).tal = s.tal ∧ (answer kind tag st data s).pfs = s.pfs ∧
    (answer kind tag st data s).free = s.free ∧ (answer kind tag st data s).pending = s.pending := by
  generalize h : answer kind tag st data s = t
  unfold answer at h
  (try dsimp only at h)
  (repeat' split at h) <;> subst h <;> simp

@[simp] theorem hunting_keeps (s : State) :
    (hunting s).pins = s.pins ∧ (hunting s).clock = s.clock ∧ (hunting s).supply = s.supply ∧
    (hunting s).resetCause = s.resetCause ∧ (hunting s).loaded = s.loaded ∧ (hunting s).rmu = s.rmu ∧
    (hunting s).asc = s.asc ∧ (hunting s).cabins = s.cabins ∧ (hunting s).lists = s.lists ∧ (hunting s).stu = s.stu ∧
    (hunting s).dru = s.dru ∧ (hunting s).lnu = s.lnu ∧ (hunting s).ltu = s.ltu ∧ (hunting s).lkc = s.lkc ∧
    (hunting s).phn = s.phn ∧ (hunting s).ssv = s.ssv ∧ (hunting s).tal = s.tal ∧ (hunting s).pfs = s.pfs ∧
    (hunting s).free = s.free ∧ (hunting s).pending = s.pending := by
  generalize h : hunting s = t
  unfold hunting at h
  (try dsimp only at h)
  (repeat' split at h) <;> subst h <;> simp

@[simp] theorem dropRequest_keeps (s : State) :
    (dropRequest s).pins = s.pins ∧ (dropRequest s).clock = s.clock ∧ (dropRequest s).supply = s.supply ∧
    (dropRequest s).resetCause = s.resetCause ∧ (dropRequest s).loaded = s.loaded ∧ (dropRequest s).rmu = s.rmu ∧
    (dropRequest s).asc = s.asc ∧ (dropRequest s).cabins = s.cabins ∧ (dropRequest s).lists = s.lists ∧
    (dropRequest s).stu = s.stu ∧ (dropRequest s).dru = s.dru ∧ (dropRequest s).lnu = s.lnu ∧
    (dropRequest s).ltu = s.ltu ∧ (dropRequest s).lkc = s.lkc ∧ (dropRequest s).phn = s.phn ∧
    (dropRequest s).ssv = s.ssv ∧ (dropRequest s).tal = s.tal ∧ (dropRequest s).pfs = s.pfs ∧
    (dropRequest s).free = s.free ∧ (dropRequest s).pending = s.pending := by
  generalize h : dropRequest s = t
  unfold dropRequest at h
  (try dsimp only at h)
  (repeat' split at h) <;> subst h <;> simp

@[simp] theorem serveUnknown_keeps (kind tag : Byte) (s : State) :
    (serveUnknown kind tag s).pins = s.pins ∧ (serveUnknown kind tag s).clock = s.clock ∧
    (serveUnknown kind tag s).supply = s.supply ∧ (serveUnknown kind tag s).resetCause = s.resetCause ∧
    (serveUnknown kind tag s).loaded = s.loaded ∧ (serveUnknown kind tag s).rmu = s.rmu ∧
    (serveUnknown kind tag s).asc = s.asc ∧ (serveUnknown kind tag s).cabins = s.cabins ∧
    (serveUnknown kind tag s).lists = s.lists ∧ (serveUnknown kind tag s).stu = s.stu ∧
    (serveUnknown kind tag s).dru = s.dru ∧ (serveUnknown kind tag s).lnu = s.lnu ∧
    (serveUnknown kind tag s).ltu = s.ltu ∧ (serveUnknown kind tag s).lkc = s.lkc ∧
    (serveUnknown kind tag s).phn = s.phn ∧ (serveUnknown kind tag s).ssv = s.ssv ∧
    (serveUnknown kind tag s).tal = s.tal ∧ (serveUnknown kind tag s).pfs = s.pfs ∧
    (serveUnknown kind tag s).free = s.free ∧ (serveUnknown kind tag s).pending = s.pending := by
  generalize h : serveUnknown kind tag s = t
  unfold serveUnknown at h
  (try dsimp only at h)
  (repeat' split at h) <;> subst h <;> simp

@[simp] theorem countBad_keeps (s : State) :
    (countBad s).pins = s.pins ∧ (countBad s).clock = s.clock ∧ (countBad s).supply = s.supply ∧
    (countBad s).resetCause = s.resetCause ∧ (countBad s).loaded = s.loaded ∧ (countBad s).rmu = s.rmu ∧
    (countBad s).asc = s.asc ∧ (countBad s).cabins = s.cabins ∧ (countBad s).lists = s.lists ∧
    (countBad s).stu = s.stu ∧ (countBad s).dru = s.dru ∧ (countBad s).lnu = s.lnu ∧ (countBad s).ltu = s.ltu ∧
    (countBad s).lkc = s.lkc ∧ (countBad s).phn = s.phn ∧ (countBad s).ssv = s.ssv ∧ (countBad s).tal = s.tal ∧
    (countBad s).pfs = s.pfs ∧ (countBad s).free = s.free ∧ (countBad s).pending = s.pending := by
  generalize h : countBad s = t
  unfold countBad at h
  (try dsimp only at h)
  (repeat' split at h) <;> subst h <;> simp

@[simp] theorem abandonFrame_keeps (s : State) :
    (abandonFrame s).pins = s.pins ∧ (abandonFrame s).clock = s.clock ∧ (abandonFrame s).supply = s.supply ∧
    (abandonFrame s).resetCause = s.resetCause ∧ (abandonFrame s).loaded = s.loaded ∧ (abandonFrame s).rmu = s.rmu ∧
    (abandonFrame s).asc = s.asc ∧ (abandonFrame s).cabins = s.cabins ∧ (abandonFrame s).lists = s.lists ∧
    (abandonFrame s).stu = s.stu ∧ (abandonFrame s).dru = s.dru ∧ (abandonFrame s).lnu = s.lnu ∧
    (abandonFrame s).ltu = s.ltu ∧ (abandonFrame s).lkc = s.lkc ∧ (abandonFrame s).phn = s.phn ∧
    (abandonFrame s).ssv = s.ssv ∧ (abandonFrame s).tal = s.tal ∧ (abandonFrame s).pfs = s.pfs ∧
    (abandonFrame s).free = s.free ∧ (abandonFrame s).pending = s.pending := by
  generalize h : abandonFrame s = t
  unfold abandonFrame at h
  (try dsimp only at h)
  (repeat' split at h) <;> subst h <;> simp

@[simp] theorem beginFrame_keeps (s : State) :
    (beginFrame s).pins = s.pins ∧ (beginFrame s).clock = s.clock ∧ (beginFrame s).supply = s.supply ∧
    (beginFrame s).resetCause = s.resetCause ∧ (beginFrame s).loaded = s.loaded ∧ (beginFrame s).rmu = s.rmu ∧
    (beginFrame s).asc = s.asc ∧ (beginFrame s).cabins = s.cabins ∧ (beginFrame s).lists = s.lists ∧
    (beginFrame s).stu = s.stu ∧ (beginFrame s).dru = s.dru ∧ (beginFrame s).lnu = s.lnu ∧
    (beginFrame s).ltu = s.ltu ∧ (beginFrame s).lkc = s.lkc ∧ (beginFrame s).phn = s.phn ∧
    (beginFrame s).ssv = s.ssv ∧ (beginFrame s).tal = s.tal ∧ (beginFrame s).pfs = s.pfs ∧
    (beginFrame s).free = s.free ∧ (beginFrame s).pending = s.pending := by
  generalize h : beginFrame s = t
  unfold beginFrame at h
  (try dsimp only at h)
  (repeat' split at h) <;> subst h <;> simp

@[simp] theorem withdraw_keeps (c : Cabin) (s : State) :
    (withdraw c s).pins = s.pins ∧ (withdraw c s).clock = s.clock ∧ (withdraw c s).supply = s.supply ∧
    (withdraw c s).resetCause = s.resetCause ∧ (withdraw c s).loaded = s.loaded ∧ (withdraw c s).rmu = s.rmu ∧
    (withdraw c s).asc = s.asc ∧ (withdraw c s).stu = s.stu ∧ (withdraw c s).dru = s.dru ∧
    (withdraw c s).lnu = s.lnu ∧ (withdraw c s).ltu = s.ltu ∧ (withdraw c s).lkc = s.lkc ∧
    (withdraw c s).phn = s.phn ∧ (withdraw c s).ssv = s.ssv ∧ (withdraw c s).tal = s.tal ∧
    (withdraw c s).spt = s.spt ∧ (withdraw c s).pfs = s.pfs ∧ (withdraw c s).free = s.free ∧
    (withdraw c s).pending = s.pending := by
  generalize h : withdraw c s = t
  unfold withdraw at h
  (try dsimp only at h)
  (repeat' split at h) <;> subst h <;> simp

@[simp] theorem reinstate_keeps (c : Cabin) (s : State) :
    (reinstate c s).pins = s.pins ∧ (reinstate c s).clock = s.clock ∧ (reinstate c s).supply = s.supply ∧
    (reinstate c s).resetCause = s.resetCause ∧ (reinstate c s).loaded = s.loaded ∧ (reinstate c s).rmu = s.rmu ∧
    (reinstate c s).asc = s.asc ∧ (reinstate c s).stu = s.stu ∧ (reinstate c s).dru = s.dru ∧
    (reinstate c s).lnu = s.lnu ∧ (reinstate c s).ltu = s.ltu ∧ (reinstate c s).lkc = s.lkc ∧
    (reinstate c s).phn = s.phn ∧ (reinstate c s).ssv = s.ssv ∧ (reinstate c s).tal = s.tal ∧
    (reinstate c s).spt = s.spt ∧ (reinstate c s).pfs = s.pfs ∧ (reinstate c s).free = s.free ∧
    (reinstate c s).pending = s.pending := by
  generalize h : reinstate c s = t
  unfold reinstate at h
  (try dsimp only at h)
  (repeat' split at h) <;> subst h <;> simp

@[simp] theorem retire_keeps (c : Cabin) (on : Bool) (s : State) :
    (retire c on s).pins = s.pins ∧ (retire c on s).clock = s.clock ∧ (retire c on s).supply = s.supply ∧
    (retire c on s).resetCause = s.resetCause ∧ (retire c on s).loaded = s.loaded ∧ (retire c on s).rmu = s.rmu ∧
    (retire c on s).asc = s.asc ∧ (retire c on s).lists = s.lists ∧ (retire c on s).lnu = s.lnu ∧
    (retire c on s).ltu = s.ltu ∧ (retire c on s).lkc = s.lkc ∧ (retire c on s).phn = s.phn ∧
    (retire c on s).ssv = s.ssv ∧ (retire c on s).tal = s.tal ∧ (retire c on s).pfs = s.pfs ∧
    (retire c on s).free = s.free ∧ (retire c on s).pending = s.pending ∧ (retire c on s).spt.rx = s.spt.rx ∧
    (retire c on s).spt.stopped = s.spt.stopped ∧ (retire c on s).spt.replies = s.spt.replies ∧
    (retire c on s).spt.badFrames = s.spt.badFrames ∧ (retire c on s).spt.dropRequest = s.spt.dropRequest ∧
    (retire c on s).spt.tx = s.spt.tx := by
  generalize h : retire c on s = t
  unfold retire at h
  (try dsimp only at h)
  (repeat' split at h) <;> subst h <;> simp

@[simp] theorem releaseHead_keeps (c : Cabin) (s : State) :
    (releaseHead c s).pins = s.pins ∧ (releaseHead c s).clock = s.clock ∧ (releaseHead c s).supply = s.supply ∧
    (releaseHead c s).resetCause = s.resetCause ∧ (releaseHead c s).loaded = s.loaded ∧
    (releaseHead c s).rmu = s.rmu ∧ (releaseHead c s).asc = s.asc ∧ (releaseHead c s).cabins = s.cabins ∧
    (releaseHead c s).lists = s.lists ∧ (releaseHead c s).lnu = s.lnu ∧ (releaseHead c s).ltu = s.ltu ∧
    (releaseHead c s).lkc = s.lkc ∧ (releaseHead c s).phn = s.phn ∧ (releaseHead c s).ssv = s.ssv ∧
    (releaseHead c s).tal = s.tal ∧ (releaseHead c s).pfs = s.pfs ∧ (releaseHead c s).free = s.free ∧
    (releaseHead c s).pending = s.pending ∧ (releaseHead c s).spt.rx = s.spt.rx ∧
    (releaseHead c s).spt.stopped = s.spt.stopped ∧ (releaseHead c s).spt.replies = s.spt.replies ∧
    (releaseHead c s).spt.badFrames = s.spt.badFrames ∧ (releaseHead c s).spt.dropRequest = s.spt.dropRequest ∧
    (releaseHead c s).spt.tx = s.spt.tx := by
  generalize h : releaseHead c s = t
  unfold releaseHead at h
  (try dsimp only at h)
  (repeat' split at h) <;> subst h <;> simp

@[simp] theorem quadratureJump_keeps (s : State) :
    (quadratureJump s).pins = s.pins ∧ (quadratureJump s).clock = s.clock ∧ (quadratureJump s).supply = s.supply ∧
    (quadratureJump s).resetCause = s.resetCause ∧ (quadratureJump s).loaded = s.loaded ∧
    (quadratureJump s).asc = s.asc ∧ (quadratureJump s).cabins = s.cabins ∧ (quadratureJump s).lists = s.lists ∧
    (quadratureJump s).stu = s.stu ∧ (quadratureJump s).dru = s.dru ∧ (quadratureJump s).lnu = s.lnu ∧
    (quadratureJump s).ltu = s.ltu ∧ (quadratureJump s).lkc = s.lkc ∧ (quadratureJump s).phn = s.phn ∧
    (quadratureJump s).ssv = s.ssv ∧ (quadratureJump s).tal = s.tal ∧ (quadratureJump s).spt = s.spt ∧
    (quadratureJump s).pfs = s.pfs ∧ (quadratureJump s).free = s.free ∧ (quadratureJump s).pending = s.pending := by
  generalize h : quadratureJump s = t
  unfold quadratureJump at h
  (try dsimp only at h)
  (repeat' split at h) <;> subst h <;> simp

@[simp] theorem keepSamples_keeps (s : State) :
    (keepSamples s).pins = s.pins ∧ (keepSamples s).clock = s.clock ∧ (keepSamples s).supply = s.supply ∧
    (keepSamples s).resetCause = s.resetCause ∧ (keepSamples s).loaded = s.loaded ∧ (keepSamples s).asc = s.asc ∧
    (keepSamples s).cabins = s.cabins ∧ (keepSamples s).lists = s.lists ∧ (keepSamples s).dru = s.dru ∧
    (keepSamples s).lnu = s.lnu ∧ (keepSamples s).ltu = s.ltu ∧ (keepSamples s).lkc = s.lkc ∧
    (keepSamples s).phn = s.phn ∧ (keepSamples s).ssv = s.ssv ∧ (keepSamples s).tal = s.tal ∧
    (keepSamples s).spt = s.spt ∧ (keepSamples s).pfs = s.pfs ∧ (keepSamples s).free = s.free ∧
    (keepSamples s).pending = s.pending := by
  generalize h : keepSamples s = t
  unfold keepSamples at h
  (try dsimp only at h)
  (repeat' split at h) <;> subst h <;> simp

end Sys2Proof.Machine
end

