-- ==== Sys2Proof/Laws/Event.lean ====
section
/-! SUPPORT. What the end of an event leaves unchanged inside the fields it writes: the settling reports, hands on and
decides, and moves no cabin, no record, no task and no window. -/

-- One lemma after the other: side by side, their proofs need more memory in the joined text than the check has.
set_option Elab.async false

namespace Sys2Proof.Machine

/-! ### Single channels -/

theorem PerChannel.get_put {α : Type} (x : PerChannel α) (i j : Channel) (v : α) :
    (x.put i v).get j = if j = i then v else x.get j := by
  cases i <;> cases j <;> rfl

@[simp] theorem PerChannel.put_switch_others {α : Type} (x : PerChannel α) (v : α) :
    (x.put .switch v).opener = x.opener ∧ (x.put .switch v).closer = x.closer ∧
    (x.put .switch v).release = x.release ∧ (x.put .switch v).gate = x.gate := ⟨rfl, rfl, rfl, rfl⟩

@[simp] theorem PerChannel.put_gate_others {α : Type} (x : PerChannel α) (v : α) :
    (x.put .gate v).opener = x.opener ∧ (x.put .gate v).closer = x.closer ∧
    (x.put .gate v).release = x.release ∧ (x.put .gate v).switch = x.switch := ⟨rfl, rfl, rfl, rfl⟩

@[simp] theorem startStroke_switch_others (e : End) (s : State) :
    (startStroke .switch e s).dru.opener = s.dru.opener ∧ (startStroke .switch e s).dru.closer = s.dru.closer ∧
    (startStroke .switch e s).dru.release = s.dru.release ∧ (startStroke .switch e s).dru.gate = s.dru.gate := by
  simp [startStroke]

@[simp] theorem reachEnd_switch_others (e : End) (s : State) :
    (reachEnd .switch e s).dru.opener = s.dru.opener ∧ (reachEnd .switch e s).dru.closer = s.dru.closer ∧
    (reachEnd .switch e s).dru.release = s.dru.release ∧ (reachEnd .switch e s).dru.gate = s.dru.gate := by
  generalize h : reachEnd .switch e s = t
  unfold reachEnd driveReached at h
  (try dsimp only at h)
  (repeat' split at h) <;> subst h <;> simp_all

@[simp] theorem commandBlocked_switch_others (e : End) (s : State) :
    (commandBlocked .switch e s).dru.opener = s.dru.opener ∧ (commandBlocked .switch e s).dru.closer = s.dru.closer ∧
    (commandBlocked .switch e s).dru.release = s.dru.release ∧ (commandBlocked .switch e s).dru.gate = s.dru.gate := by
  generalize h : commandBlocked .switch e s = t
  unfold commandBlocked at h
  (try dsimp only at h)
  (repeat' split at h) <;> subst h <;> simp_all

@[simp] theorem commandDrive_switch_others (e : End) (s : State) :
    (commandDrive .switch e s).dru.opener = s.dru.opener ∧ (commandDrive .switch e s).dru.closer = s.dru.closer ∧
    (commandDrive .switch e s).dru.release = s.dru.release ∧ (commandDrive .switch e s).dru.gate = s.dru.gate := by
  generalize h : commandDrive .switch e s = t
  unfold commandDrive at h
  (try dsimp only at h)
  (repeat' split at h) <;> subst h <;> simp_all

@[simp] theorem startStroke_gate_others (e : End) (s : State) :
    (startStroke .gate e s).dru.opener = s.dru.opener ∧ (startStroke .gate e s).dru.closer = s.dru.closer ∧
    (startStroke .gate e s).dru.release = s.dru.release ∧ (startStroke .gate e s).dru.switch = s.dru.switch := by
  simp [startStroke]

@[simp] theorem reachEnd_gate_others (e : End) (s : State) :
    (reachEnd .gate e s).dru.opener = s.dru.opener ∧ (reachEnd .gate e s).dru.closer = s.dru.closer ∧
    (reachEnd .gate e s).dru.release = s.dru.release ∧ (reachEnd .gate e s).dru.switch = s.dru.switch := by
  generalize h : reachEnd .gate e s = t
  unfold reachEnd driveReached at h
  (try dsimp only at h)
  (repeat' split at h) <;> subst h <;> simp_all

@[simp] theorem commandBlocked_gate_others (e : End) (s : State) :
    (commandBlocked .gate e s).dru.opener = s.dru.opener ∧ (commandBlocked .gate e s).dru.closer = s.dru.closer ∧
    (commandBlocked .gate e s).dru.release = s.dru.release ∧ (commandBlocked .gate e s).dru.switch = s.dru.switch := by
  generalize h : commandBlocked .gate e s = t
  unfold commandBlocked at h
  (try dsimp only at h)
  (repeat' split at h) <;> subst h <;> simp_all

@[simp] theorem commandDrive_gate_others (e : End) (s : State) :
    (commandDrive .gate e s).dru.opener = s.dru.opener ∧ (commandDrive .gate e s).dru.closer = s.dru.closer ∧
    (commandDrive .gate e s).dru.release = s.dru.release ∧ (commandDrive .gate e s).dru.switch = s.dru.switch := by
  generalize h : commandDrive .gate e s = t
  unfold commandDrive at h
  (try dsimp only at h)
  (repeat' split at h) <;> subst h <;> simp_all

/-! ### The parts of the settling -/

@[simp] theorem markThrow_within (s : State) :
    (markThrow s).stu.inputs = s.stu.inputs ∧ (markThrow s).stu.strobe = s.stu.strobe ∧
    (markThrow s).stu.latch = s.stu.latch ∧ (markThrow s).stu.lastArr = s.stu.lastArr ∧
    (markThrow s).stu.release = s.stu.release ∧ (markThrow s).stu.nextId = s.stu.nextId := by
  generalize h : markThrow s = t
  unfold markThrow at h
  (try dsimp only at h)
  (repeat' split at h) <;> subst h <;> simp_all

@[simp] theorem throwEval_within (s : State) :
    (throwEval s).stu.inputs = s.stu.inputs ∧ (throwEval s).stu.strobe = s.stu.strobe ∧
    (throwEval s).stu.latch = s.stu.latch ∧ (throwEval s).stu.lastArr = s.stu.lastArr ∧
    (throwEval s).stu.release = s.stu.release ∧ (throwEval s).stu.nextId = s.stu.nextId ∧
    (throwEval s).dru.opener = s.dru.opener ∧ (throwEval s).dru.closer = s.dru.closer ∧
    (throwEval s).dru.release = s.dru.release := by
  generalize h : throwEval s = t
  unfold throwEval at h
  (try dsimp only at h)
  (repeat' split at h) <;> subst h <;> simp_all

@[simp] theorem routeCompute_within (s : State) :
    (routeCompute s).stu.inputs = s.stu.inputs ∧ (routeCompute s).stu.strobe = s.stu.strobe ∧
    (routeCompute s).stu.latch = s.stu.latch ∧ (routeCompute s).stu.lastArr = s.stu.lastArr ∧
    (routeCompute s).stu.release = s.stu.release ∧ (routeCompute s).stu.nextId = s.stu.nextId ∧
    (routeCompute s).dru.opener = s.dru.opener ∧ (routeCompute s).dru.closer = s.dru.closer ∧
    (routeCompute s).dru.release = s.dru.release := by
  generalize h : routeCompute s = t
  unfold routeCompute at h
  (try dsimp only at h)
  (repeat' split at h) <;> subst h <;> simp_all

@[simp] theorem discardUp_within (s : State) :
    (discardUp s).ltu.censusDue = s.ltu.censusDue ∧ (discardUp s).ltu.wait = s.ltu.wait ∧
    (discardUp s).ltu.lastEnd = s.ltu.lastEnd := by
  generalize h : discardUp s = t
  unfold discardUp at h
  (try dsimp only at h)
  (repeat' split at h) <;> subst h <;> simp_all

@[simp] theorem discardDown_within (s : State) :
    (discardDown s).ltu.censusDue = s.ltu.censusDue ∧ (discardDown s).ltu.wait = s.ltu.wait ∧
    (discardDown s).ltu.lastEnd = s.ltu.lastEnd := by
  generalize h : discardDown s = t
  unfold discardDown at h
  (try dsimp only at h)
  (repeat' split at h) <;> subst h <;> simp_all

@[simp] theorem checkUp_within (s : State) :
    (checkUp s).ltu.censusDue = s.ltu.censusDue ∧ (checkUp s).ltu.wait = s.ltu.wait ∧
    (checkUp s).ltu.lastEnd = s.ltu.lastEnd := by
  generalize h : checkUp s = t
  unfold checkUp at h
  (try dsimp only at h)
  (repeat' split at h) <;> subst h <;> simp_all

@[simp] theorem checkDown_within (s : State) :
    (checkDown s).ltu.censusDue = s.ltu.censusDue ∧ (checkDown s).ltu.wait = s.ltu.wait ∧
    (checkDown s).ltu.lastEnd = s.ltu.lastEnd := by
  generalize h : checkDown s = t
  unfold checkDown at h
  (try dsimp only at h)
  (repeat' split at h) <;> subst h <;> simp_all

@[simp] theorem handUp_within (old : Lists) (s : State) :
    (handUp old s).ltu.censusDue = s.ltu.censusDue ∧ (handUp old s).ltu.wait = s.ltu.wait ∧
    (handUp old s).ltu.lastEnd = s.ltu.lastEnd := by
  generalize h : handUp old s = t
  unfold handUp at h
  (try dsimp only at h)
  (repeat' split at h) <;> subst h <;> simp_all

@[simp] theorem handDown_within (old : Lists) (s : State) :
    (handDown old s).ltu.censusDue = s.ltu.censusDue ∧ (handDown old s).ltu.wait = s.ltu.wait ∧
    (handDown old s).ltu.lastEnd = s.ltu.lastEnd ∧ (handDown old s).stu.inputs = s.stu.inputs ∧
    (handDown old s).stu.strobe = s.stu.strobe ∧ (handDown old s).stu.latch = s.stu.latch ∧
    (handDown old s).stu.lastArr = s.stu.lastArr ∧ (handDown old s).stu.release = s.stu.release ∧
    (handDown old s).stu.nextId = s.stu.nextId ∧ (handDown old s).dru.opener = s.dru.opener ∧
    (handDown old s).dru.closer = s.dru.closer ∧ (handDown old s).dru.release = s.dru.release := by
  generalize h : handDown old s = t
  unfold handDown at h
  (try dsimp only at h)
  (repeat' split at h) <;> subst h <;> simp_all

@[simp] theorem holdEval_within (s : State) :
    (holdEval s).lnu.window = s.lnu.window ∧ (holdEval s).lnu.lastResult = s.lnu.lastResult ∧
    (holdEval s).lnu.hostHold = s.lnu.hostHold ∧ (holdEval s).lnu.rdL = s.lnu.rdL ∧
    (holdEval s).lnu.flight = s.lnu.flight := by
  simp [holdEval, holdOn_fold_keeps, holdOff_fold_keeps]

@[simp] theorem decideLaunch_within (entry : Nat) (c : Cabin) (s : State) :
    (decideLaunch entry c s).lnu.window = s.lnu.window ∧ (decideLaunch entry c s).lnu.lastResult = s.lnu.lastResult ∧
    (decideLaunch entry c s).lnu.hostHold = s.lnu.hostHold ∧
    (decideLaunch entry c s).lkc.chan.queue = s.lkc.chan.queue ∧
    (decideLaunch entry c s).lkc.chan.priority = s.lkc.chan.priority ∧
    (decideLaunch entry c s).lkc.chan.progress = s.lkc.chan.progress ∧
    (decideLaunch entry c s).lkc.chan.assembly = s.lkc.chan.assembly ∧
    (decideLaunch entry c s).lkc.chan.texts = s.lkc.chan.texts ∧
    (decideLaunch entry c s).lkc.chan.ownPause = s.lkc.chan.ownPause ∧
    (decideLaunch entry c s).lkc.chan.sent = s.lkc.chan.sent ∧
    (decideLaunch entry c s).lkc.chan.received = s.lkc.chan.received ∧
    (decideLaunch entry c s).lkc.chan.discarded = s.lkc.chan.discarded ∧
    (decideLaunch entry c s).lkc.chan.dropped = s.lkc.chan.dropped ∧
    (decideLaunch entry c s).dru.opener = s.dru.opener ∧ (decideLaunch entry c s).dru.closer = s.dru.closer ∧
    (decideLaunch entry c s).dru.release = s.dru.release ∧ (decideLaunch entry c s).stu = s.stu := by
  generalize h : decideLaunch entry c s = t
  unfold decideLaunch at h
  (try dsimp only at h)
  (repeat' split at h) <;> subst h <;> simp_all

@[simp] theorem launchEval_within (s : State) :
    (launchEval s).lnu.window = s.lnu.window ∧ (launchEval s).lnu.lastResult = s.lnu.lastResult ∧
    (launchEval s).lnu.hostHold = s.lnu.hostHold ∧ (launchEval s).lkc.chan.queue = s.lkc.chan.queue ∧
    (launchEval s).lkc.chan.priority = s.lkc.chan.priority ∧ (launchEval s).lkc.chan.progress = s.lkc.chan.progress ∧
    (launchEval s).lkc.chan.assembly = s.lkc.chan.assembly ∧ (launchEval s).lkc.chan.texts = s.lkc.chan.texts ∧
    (launchEval s).lkc.chan.ownPause = s.lkc.chan.ownPause ∧ (launchEval s).lkc.chan.sent = s.lkc.chan.sent ∧
    (launchEval s).lkc.chan.received = s.lkc.chan.received ∧
    (launchEval s).lkc.chan.discarded = s.lkc.chan.discarded ∧ (launchEval s).lkc.chan.dropped = s.lkc.chan.dropped ∧
    (launchEval s).dru.opener = s.dru.opener ∧ (launchEval s).dru.closer = s.dru.closer ∧
    (launchEval s).dru.release = s.dru.release ∧ (launchEval s).stu = s.stu := by
  generalize h : launchEval s = t
  unfold launchEval at h
  (try dsimp only at h)
  (repeat' split at h) <;> subst h <;> simp_all

@[simp] theorem settleCounts_within (old : Lists) (s : State) :
    (settleCounts old s).lists.station = s.lists.station ∧ (settleCounts old s).lists.storage = s.lists.storage ∧
    (settleCounts old s).lists.upLine = s.lists.upLine ∧ (settleCounts old s).lists.summit = s.lists.summit ∧
    (settleCounts old s).lists.downLine = s.lists.downLine := ⟨rfl, rfl, rfl, rfl, rfl⟩

/-- The settling moves no list entry, no record, no task, no window and no release. -/
@[simp] theorem settle_within (old : Lists) (s : State) :
    (settle old s).lists.station = s.lists.station ∧ (settle old s).lists.storage = s.lists.storage ∧
    (settle old s).lists.upLine = s.lists.upLine ∧ (settle old s).lists.summit = s.lists.summit ∧
    (settle old s).lists.downLine = s.lists.downLine ∧ (settle old s).stu.inputs = s.stu.inputs ∧
    (settle old s).stu.strobe = s.stu.strobe ∧ (settle old s).stu.latch = s.stu.latch ∧
    (settle old s).stu.lastArr = s.stu.lastArr ∧ (settle old s).stu.release = s.stu.release ∧
    (settle old s).stu.nextId = s.stu.nextId ∧ (settle old s).dru.opener = s.dru.opener ∧
    (settle old s).dru.closer = s.dru.closer ∧ (settle old s).dru.release = s.dru.release ∧
    (settle old s).ltu.censusDue = s.ltu.censusDue ∧ (settle old s).ltu.wait = s.ltu.wait ∧
    (settle old s).ltu.lastEnd = s.ltu.lastEnd ∧ (settle old s).lnu.window = s.lnu.window ∧
    (settle old s).lnu.lastResult = s.lnu.lastResult ∧ (settle old s).lnu.hostHold = s.lnu.hostHold ∧
    (settle old s).lkc.chan.queue = s.lkc.chan.queue ∧ (settle old s).lkc.chan.priority = s.lkc.chan.priority ∧
    (settle old s).lkc.chan.progress = s.lkc.chan.progress ∧ (settle old s).lkc.chan.assembly = s.lkc.chan.assembly ∧
    (settle old s).lkc.chan.texts = s.lkc.chan.texts ∧ (settle old s).lkc.chan.ownPause = s.lkc.chan.ownPause ∧
    (settle old s).lkc.chan.sent = s.lkc.chan.sent ∧ (settle old s).lkc.chan.received = s.lkc.chan.received ∧
    (settle old s).lkc.chan.discarded = s.lkc.chan.discarded ∧ (settle old s).lkc.chan.dropped = s.lkc.chan.dropped := by
  simp [settle]

/-- Outside the counts, the lists stand as the event left them (R8). -/
theorem settle_counts (old : Lists) (s : State) :
    (settle old s).lists.stationCount = settled old.station s.lists.station s.lists.stationCount ∧
    (settle old s).lists.storageCount = settled old.storage s.lists.storage s.lists.storageCount ∧
    (settle old s).lists.upLineCount = settled old.upLine s.lists.upLine s.lists.upLineCount ∧
    (settle old s).lists.summitCount = settled old.summit s.lists.summit s.lists.summitCount ∧
    (settle old s).lists.downLineCount = settled old.downLine s.lists.downLine s.lists.downLineCount := by
  simp [settle, settleCounts]

end Sys2Proof.Machine
end

