-- ==== Sys2Proof/Laws/Causes.lean ====
section
/-! SUPPORT. What a report of a cause does to the cause table, the effective demand and the stop lines, said once; and
what a notice does to its queue. -/

-- One lemma after the other: side by side, their proofs need more memory in the joined text than the check has.
set_option Elab.async false

namespace Sys2Proof.Machine

/-! ### The cause table -/

theorem Cause.all_ix (c : Cause) : Cause.all[c.ix.val]? = some c := by cases c <;> rfl

theorem Cause.ix_inj {c d : Cause} (h : c.ix.val = d.ix.val) : c = d := by
  have := Cause.all_ix c
  rw [h, Cause.all_ix d] at this
  simpa using this.symm

theorem Cause.mem_all (c : Cause) : c ∈ Cause.all := List.mem_of_getElem? (Cause.all_ix c)

/-- A replaced entry is the only one that changes. -/
theorem cause_putCause (c d : Cause) (e : CauseEntry) (s : State) :
    (putCause c e s).cause d = if d = c then e else s.cause d := by
  unfold State.cause
  simp only [putCause_ssv, Vector.getElem_set]
  by_cases h : d = c
  · simp [h]
  · have : ¬ c.ix.val = d.ix.val := fun x => h (Cause.ix_inj x).symm
    simp [h, this]

theorem cause_of_ssv {s t : State} (h : t.ssv = s.ssv) (c : Cause) : t.cause c = s.cause c := by
  simp [State.cause, h]

@[simp] theorem cause_notify (n : Notice) (c : Cause) (s : State) : (notify n s).cause c = s.cause c :=
  cause_of_ssv (by simp) c

@[simp] theorem cause_putDemand (d : Demand) (c : Cause) (s : State) : (putDemand d s).cause c = s.cause c := rfl

@[simp] theorem cause_evalDemand (c : Cause) (s : State) : (evalDemand s).cause c = s.cause c := by
  generalize h : evalDemand s = t
  unfold evalDemand at h
  dsimp only at h
  split at h <;> subst h <;> simp

/-- A report of a cause becoming active changes its own entry alone (R170). -/
theorem cause_reportActive (c d : Cause) (x : Detail) (s : State) :
    (reportActive c x s).cause d = if d = c then (s.cause c).raised c x s.rmu.rd s.clock.ms else s.cause d := by
  simp [reportActive, cause_putCause]

/-- A report of a cause becoming inactive clears the active field of its own entry alone (R170). -/
theorem cause_reportInactive (c d : Cause) (s : State) :
    (reportInactive c s).cause d = if d = c then { s.cause c with active := false } else s.cause d := by
  simp [reportInactive, cause_putCause]

/-- An event cause leaves its own entry inactive, latched as its category says, and counted (R170). -/
theorem cause_raiseEvent (c d : Cause) (x : Detail) (s : State) :
    (raiseEvent c x s).cause d =
      if d = c then { (s.cause c).raised c x s.rmu.rd s.clock.ms with active := false } else s.cause d := by
  simp only [raiseEvent, cause_reportInactive, cause_reportActive]
  by_cases h : d = c <;> simp [h]

/-- After a report of a condition, its active field is the condition (R170). -/
@[simp] theorem active_reportCondition (c : Cause) (now : Bool) (x : Detail) (s : State) :
    (reportCondition c now x s).active c = now := by
  unfold reportCondition
  split
  · rename_i h; simpa using (beq_iff_eq.mp h).symm
  · split <;> simp_all [State.active, cause_reportActive, cause_reportInactive, CauseEntry.raised]

/-- A report of one cause leaves the entries of the others (R170). -/
theorem cause_reportCondition {c d : Cause} (h : d ≠ c) (now : Bool) (x : Detail) (s : State) :
    (reportCondition c now x s).cause d = s.cause d := by
  unfold reportCondition
  split
  · rfl
  · split <;> simp [cause_reportActive, cause_reportInactive, h]

theorem active_reportCondition_other {c d : Cause} (h : d ≠ c) (now : Bool) (x : Detail) (s : State) :
    (reportCondition c now x s).active d = s.active d := by
  simp [State.active, cause_reportCondition h]

/-! ### Updates that leave the cause table -/

@[simp] theorem cause_putCounter (k : CounterIx) (r : Counter) (s : State) (c : Cause) :
    (putCounter k r s).cause c = s.cause c := rfl

@[simp] theorem cause_putCab (d : Cabin) (r : CabinRecord) (s : State) (c : Cause) :
    (putCab d r s).cause c = s.cause c := rfl

@[simp] theorem cause_putStation (l : List StationEntry) (s : State) (c : Cause) :
    (putStation l s).cause c = s.cause c := rfl

@[simp] theorem cause_putStorage (l : List Cabin) (s : State) (c : Cause) :
    (putStorage l s).cause c = s.cause c := rfl

@[simp] theorem cause_putUpLine (l : List LineEntry) (s : State) (c : Cause) :
    (putUpLine l s).cause c = s.cause c := rfl

@[simp] theorem cause_putSummit (l : List LineEntry) (s : State) (c : Cause) :
    (putSummit l s).cause c = s.cause c := rfl

@[simp] theorem cause_putDownLine (l : List LineEntry) (s : State) (c : Cause) :
    (putDownLine l s).cause c = s.cause c := rfl

@[simp] theorem cause_takeId (s : State) (c : Cause) :
    (takeId s).cause c = s.cause c := rfl

@[simp] theorem cause_putRmu (r : Rmu) (s : State) (c : Cause) :
    (putRmu r s).cause c = s.cause c := rfl

@[simp] theorem cause_putSample (k : Fin 7) (n : Sample) (s : State) (c : Cause) :
    (putSample k n s).cause c = s.cause c := rfl

@[simp] theorem cause_putDrive (ch : Channel) (d : DriveChannel) (s : State) (c : Cause) :
    (putDrive ch d s).cause c = s.cause c := rfl

@[simp] theorem cause_putLnu (u : Lnu) (s : State) (c : Cause) :
    (putLnu u s).cause c = s.cause c := rfl

@[simp] theorem cause_putStu (u : Stu) (s : State) (c : Cause) :
    (putStu u s).cause c = s.cause c := rfl

@[simp] theorem cause_putLtu (u : Ltu) (s : State) (c : Cause) :
    (putLtu u s).cause c = s.cause c := rfl

@[simp] theorem cause_putChan (r : RecordChannel) (s : State) (c : Cause) :
    (putChan r s).cause c = s.cause c := rfl

@[simp] theorem cause_putLkc (k : Lkc) (s : State) (c : Cause) :
    (putLkc k s).cause c = s.cause c := rfl

@[simp] theorem cause_putRx (r : LinkRx) (s : State) (c : Cause) :
    (putRx r s).cause c = s.cause c := rfl

@[simp] theorem cause_putTowers (l : List TowerEntry) (s : State) (c : Cause) :
    (putTowers l s).cause c = s.cause c := rfl

@[simp] theorem cause_putFrozen (b : Bool) (s : State) (c : Cause) :
    (putFrozen b s).cause c = s.cause c := rfl

@[simp] theorem cause_putPfs (u : Pfs) (s : State) (c : Cause) :
    (putPfs u s).cause c = s.cause c := rfl

@[simp] theorem cause_putSpt (u : Spt) (s : State) (c : Cause) :
    (putSpt u s).cause c = s.cause c := rfl

@[simp] theorem cause_queueRecord (r : TxRecord) (s : State) (c : Cause) :
    (queueRecord r s).cause c = s.cause c := rfl

@[simp] theorem cause_putTask (ch : Channel) (t : Option DoorTask) (s : State) (c : Cause) :
    (putTask ch t s).cause c = s.cause c := rfl

/-! ### Demand and lines -/

/-- The stop lines stand as mode and demand select them (R172). -/
def State.linesFollow (s : State) : Prop := s.ssv.lines = linesOf s.ssv.mode s.ssv.demand

@[simp] theorem notify_ssv (n : Notice) (s : State) : (notify n s).ssv = s.ssv := by simp

/-- An evaluation of the demand brings demand and lines to what the cause table says (R171, R172). -/
theorem evalDemand_follows (s : State) (h : s.linesFollow) : (evalDemand s).stopsFollow := by
  unfold evalDemand
  by_cases g : highestDemand s.ssv.causes = s.ssv.demand
  · simp [g, State.stopsFollow, h.symm, State.linesFollow] at *
  · simp [g, State.stopsFollow, putDemand, driveLines]

theorem reportActive_follows (c : Cause) (x : Detail) (s : State) (h : s.linesFollow) :
    (reportActive c x s).stopsFollow := by
  unfold reportActive
  refine evalDemand_follows _ ?_
  simpa [State.linesFollow] using h

theorem reportInactive_follows (c : Cause) (s : State) (h : s.linesFollow) : (reportInactive c s).stopsFollow :=
  evalDemand_follows _ (by simpa [State.linesFollow] using h)

theorem stopsFollow_lines {s : State} (h : s.stopsFollow) : s.linesFollow := h.2

theorem raiseEvent_follows (c : Cause) (x : Detail) (s : State) (h : s.linesFollow) :
    (raiseEvent c x s).stopsFollow :=
  reportInactive_follows c _ (reportActive_follows c x s h).2

theorem reportCondition_follows (c : Cause) (now : Bool) (x : Detail) (s : State) (h : s.stopsFollow) :
    (reportCondition c now x s).stopsFollow := by
  unfold reportCondition
  split
  · exact h
  · split
    · exact reportActive_follows c x s h.2
    · exact reportInactive_follows c s h.2

/-! ### Notices -/

/-- A notice keeps the bound of the notice queue (R193). -/
theorem notify_bounded (n : Notice) (s : State) (h : s.spt.notices.length ≤ 16) :
    (notify n s).spt.notices.length ≤ 16 := by
  unfold notify
  split
  · simp; omega
  · simpa using h

/-- A notice joins at the tail while fewer than 16 wait (R193). -/
theorem notify_joins (n : Notice) (s : State) (h : s.spt.notices.length < 16) :
    (notify n s).spt.notices = s.spt.notices ++ [{ ms := s.clock.ms, notice := n }] := by
  simp [notify, h]

end Sys2Proof.Machine
end

