-- ==== Sys2Proof/Laws/Frames.lean ====
section
/-! SUPPORT. Frames composed: what two changes in turn leave alone, and what the end of an event leaves alone. -/

-- One lemma after the other: side by side, their proofs need more memory in the joined text than the check has.
set_option Elab.async false

namespace Sys2Proof.Machine

theorem Block.same_refl (b : Block) (s : State) : b.same s s := by
  cases b <;> simp [Block.same]

theorem Block.same_trans {b : Block} {s t u : State} (h : b.same s t) (k : b.same t u) : b.same s u := by
  cases b <;> simp_all [Block.same]

theorem sameBut_refl (l : List Block) (s : State) : sameBut l s s := fun b _ => b.same_refl s

theorem sameBut_trans {l : List Block} {s t u : State} (h : sameBut l s t) (k : sameBut l t u) : sameBut l s u :=
  fun b hb => Block.same_trans (h b hb) (k b hb)

theorem sameBut_mono {l m : List Block} {s t : State} (h : sameBut l s t) (k : ∀ b, b ∈ l → b ∈ m) : sameBut m s t :=
  fun b hb => h b fun x => hb (k b x)

/-- The end of an event changes at most the settled parts of the state. -/
theorem settle_same (old : Lists) (s : State) : sameBut Block.settled s (settle old s) := by
  intro b hb
  cases b <;> simp_all [Block.same, Block.settled]

/-- An event changes at most what its effect changes and the settled parts. -/
theorem event_same {l : List Block} {f : State → State} {s : State} (h : sameBut l s (f s)) :
    sameBut (l ++ Block.settled) s (event f s) :=
  sameBut_trans (sameBut_mono h fun _ x => List.mem_append_left _ x)
    (sameBut_mono (settle_same _ _) fun _ x => List.mem_append_right _ x)

end Sys2Proof.Machine
end

