-- ==== Sys2Proof/Laws/Bits.lean ====
section
/-! SUPPORT. What the receiver does with the bits of LINE_RX: a judged cycle leaves the bits held as they are, passing it
takes at least one of them away, and the bits of one cycle are judged once. -/

-- One lemma after the other: side by side, their proofs need more memory in the joined text than the check has.
set_option Elab.async false

namespace Sys2Proof.Machine

@[simp] theorem event_rx (f : State → State) (s : State) : (event f s).lkc.rx = (f s).lkc.rx := by simp [event]

@[simp] theorem huntCandidate_bits (x : RxCycle) (s : State) : (huntCandidate x s).lkc.rx.bits = s.lkc.rx.bits := by
  unfold huntCandidate; split <;> simp

@[simp] theorem linkEval_rx (s : State) : (linkEval s).lkc.rx = s.lkc.rx := by simp

@[simp] theorem applyCycle_bits (old : Applied) (c : LineCycle) (s : State) :
    (applyCycle old c s).lkc.rx = { s.lkc.rx with held := some c.control } := by simp [applyCycle]

@[simp] theorem enterLocked_bits (c : LineCycle) (s : State) : (enterLocked c s).lkc.rx.bits = s.lkc.rx.bits := by
  simp [enterLocked]

@[simp] theorem confirmCycle_bits (x : RxCycle) (s : State) : (confirmCycle x s).lkc.rx.bits = s.lkc.rx.bits := by
  unfold confirmCycle; (repeat' split) <;> simp

@[simp] theorem leaveLocked_bits (s : State) : (leaveLocked s).lkc.rx.bits = s.lkc.rx.bits := by simp [leaveLocked]

@[simp] theorem goodCycle_bits (c : LineCycle) (s : State) : (goodCycle c s).lkc.rx.bits = s.lkc.rx.bits := by
  simp [goodCycle]

@[simp] theorem badCycle_bits (s : State) : (badCycle s).lkc.rx.bits = s.lkc.rx.bits := by
  generalize h : badCycle s = t
  unfold badCycle at h
  dsimp only at h
  split at h <;> subst h <;> simp

@[simp] theorem lockedCycle_bits (x : RxCycle) (s : State) : (lockedCycle x s).lkc.rx.bits = s.lkc.rx.bits := by
  unfold lockedCycle; (repeat' split) <;> simp

/-- A judged cycle leaves the bits held as they are. -/
@[simp] theorem judgeCycle_bits (s : State) : (judgeCycle s).lkc.rx.bits = s.lkc.rx.bits := by
  unfold judgeCycle; split <;> simp

/-- Passing a cycle takes one bit away where the receiver hunts afterwards, and the whole cycle otherwise. -/
theorem takeCycle_bits (s : State) :
    (takeCycle s).lkc.rx.bits = s.lkc.rx.bits.drop (if (judgeCycle s).lkc.rx.sync = .hunt then 1 else 128) := by
  unfold takeCycle passBits
  dsimp only
  split <;> simp

/-- Each judgement takes at least one bit away. -/
theorem takeCycle_shrinks (s : State) (h : s.lkc.rx.bits ≠ []) :
    (takeCycle s).lkc.rx.bits.length < s.lkc.rx.bits.length := by
  have := List.length_pos_iff.mpr h
  rw [takeCycle_bits, List.length_drop]
  split <;> omega

/-- Fewer than 128 bits are held once bits have been received. -/
theorem takeCycles_rest (n : Nat) (s : State) (h : s.lkc.rx.bits.length ≤ n) :
    (takeCycles n s).lkc.rx.bits.length < 128 := by
  induction n generalizing s with
  | zero => unfold takeCycles; omega
  | succ n ih =>
    unfold takeCycles
    split
    · assumption
    · have := takeCycle_shrinks s (by intro k; simp_all)
      exact ih _ (by omega)

/-- Fewer bits than a cycle, received in addition to those held, are held. -/
theorem receiveBits_few (bits : List RxBit) (s : State) (h : (s.lkc.rx.bits ++ bits).length < 128) :
    receiveBits bits s = putRx { s.lkc.rx with bits := s.lkc.rx.bits ++ bits } s := by
  unfold receiveBits
  dsimp only
  generalize hn : (s.lkc.rx.bits ++ bits).length = n
  cases n with
  | zero => rfl
  | succ n => exact if_pos (by simp only [putRx_lkc]; omega)

/-- The bits that complete one cycle are judged once. -/
theorem receiveBits_cycle (bits : List RxBit) (s : State) (h : (s.lkc.rx.bits ++ bits).length = 128) :
    receiveBits bits s = takeCycle (putRx { s.lkc.rx with bits := s.lkc.rx.bits ++ bits } s) := by
  have hs := takeCycle_shrinks (putRx { s.lkc.rx with bits := s.lkc.rx.bits ++ bits } s)
    (by simp only [putRx_lkc]; intro e; rw [e] at h; cases h)
  simp only [putRx_lkc, h] at hs
  simp only [receiveBits, h, takeCycles, putRx_lkc, Nat.lt_irrefl, if_false, if_pos hs]

end Sys2Proof.Machine
end

