-- ==== Sys2Proof/Laws/Notices.lean ====
section
/-! SUPPORT. Notices and drive commands: each operation of the machine that sends a notice, or commands a channel, is
the one that the statements name. -/

-- One lemma after the other: side by side, their proofs need more memory in the joined text than the check has.
set_option Elab.async false

namespace Sys2Proof.Machine

/-- A notice that the machine forms joins, or is dropped, as R193 says. -/
theorem notify_eq_noticed (n : Notice) (s : State) : notify n s = s.noticed n := by
  by_cases h : s.spt.notices.length < 16 <;> simp [notify, State.noticed, satInc, h]

@[simp] theorem noticed_dru (n : Notice) (s : State) : (s.noticed n).dru = s.dru := rfl
@[simp] theorem noticed_stu (n : Notice) (s : State) : (s.noticed n).stu = s.stu := rfl
@[simp] theorem noticed_clock (n : Notice) (s : State) : (s.noticed n).clock = s.clock := rfl
@[simp] theorem noticed_pfs (n : Notice) (s : State) : (s.noticed n).pfs = s.pfs := rfl
@[simp] theorem noticed_tal (n : Notice) (s : State) : (s.noticed n).tal = s.tal := rfl
@[simp] theorem noticed_ssv (n : Notice) (s : State) : (s.noticed n).ssv = s.ssv := rfl

/-- Where the waiting notices are the same after an event, it sent none of any kind. -/
theorem sends_nil {s t : State} (p : Notice → Bool) (h : t.spt.notices = s.spt.notices) : sends p [] s t := by
  intro _
  simp [h]

/-- A notice that joins behind those that wait is the one sent, of those that a test selects. -/
theorem sends_noticed (p : Notice → Bool) (n : Notice) (s : State) :
    sends p (if p n = true then [n] else []) s (s.noticed n) := by
  unfold sends State.noticed
  by_cases h : s.spt.notices.length < 16
  · by_cases g : p n = true <;> simp [h, g]
  · simp [h]

/-- Where tally unit and waiting notices are the same after an event, nothing was signalled to the unit. -/
theorem tallied_nil {s t : State} (h : t.tal = s.tal) (g : t.spt.notices = s.spt.notices) : tallied [] s t :=
  ⟨h, sends_nil _ g⟩

/-- A channel put into the place that it has changes nothing. -/
theorem PerChannel.put_same {α : Type} (x : PerChannel α) (ch : Channel) : x.put ch (x.get ch) = x := by
  cases ch <;> rfl

/-- A channel that has been put into its place is found there. -/
theorem PerChannel.get_put_same {α : Type} (x : PerChannel α) (ch : Channel) (v : α) : (x.put ch v).get ch = v := by
  cases ch <;> rfl

/-- An end reached by a channel without a door task, and without a release that waits for it, ends in nothing more. -/
theorem driveReached_idle (ch : Channel) (e : End) (s : State) (h : (s.dru.get ch).task = none)
    (g : ch = .release → e = .a ∨ s.stu.release = none) : driveReached ch e s = s := by
  unfold driveReached
  rw [h]
  cases ch <;> cases e <;> simp_all

/-- A channel without a door task takes a command as Table 4-3 says; a release that waits for the stroke's end is left
out for its channel. -/
theorem commandDrive_eq_commanded (ch : Channel) (e : End) (s : State) (h : (s.dru.get ch).task = none)
    (g : ch = .release → e = .a ∨ s.stu.release = none) : commandDrive ch e s = s.commanded ch e := by
  unfold commandDrive State.commanded DriveChannel.foundThere DriveChannel.commanded
  cases hs : (s.dru.get ch).state <;> cases e <;>
    simp only [hs, PerChannel.put_same, List.foldl_nil, reduceCtorEq, false_and, if_false, startStroke,
      DriveChannel.started, DriveChannel.reversed, putDrive, true_and] <;>
    first
    | rfl
    | (unfold commandBlocked
       split
       · simp_all [reachEnd, driveEvent, putDrive, PerChannel.get_put_same, DriveChannel.stopped, notify_eq_noticed,
           driveReached_idle]
       · simp_all [startStroke, putDrive, DriveChannel.started])

end Sys2Proof.Machine
end

