-- ==== Sys2Proof/Laws/RopeSpec.lean ====
section
/-! SUPPORT. What the operations of the rope measurement give, said once: the record they leave and the conditions they
report. -/

-- One lemma after the other: side by side, their proofs need more memory in the joined text than the check has.
set_option Elab.async false

namespace Sys2Proof.Machine

/-- Slip persistence moves the persistence start alone (R29). -/
theorem Rmu.persist_fst (p : Params) (r : Rmu) (c : Bool) :
    (r.persist p c).1 = { r with slipStart := (r.persist p c).1.slipStart } := by
  unfold Rmu.persist
  split
  · rfl
  · split <;> rfl

/-- Slip persistence replaces the record by the one that it computes (R29). -/
theorem slipPersistence_rmu (s : State) :
    (slipPersistence s).rmu = (s.rmu.persist s.pfs.working (s.active .slip)).1 := by
  simp [slipPersistence]

/-- What follows a recomputation of V_MW sets SLIP and its persistence start alone (R26, R28, R29). -/
theorem afterMwSpeed_rmu (s : State) :
    (afterMwSpeed s).rmu = { s.rmu with
      slip := slipOf s.pfs.working.slipVmin s.rmu.bw.speed s.rmu.mw.speed
      slipStart := (afterMwSpeed s).rmu.slipStart } := by
  have h := Rmu.persist_fst s.pfs.working (s.rmu.reslip s.pfs.working)
    ((putRmu (s.rmu.reslip s.pfs.working) s).active .slip)
  have k : (afterMwSpeed s).rmu = ((s.rmu.reslip s.pfs.working).persist s.pfs.working
      ((putRmu (s.rmu.reslip s.pfs.working) s).active .slip)).1 := by
    simp [afterMwSpeed, slipPersistence_rmu]
  rw [k]
  exact h

/-- What follows a recomputation of V_BW sets SLIP and its persistence start alone (R26, R28, R29). -/
theorem afterBwSpeed_rmu (s : State) :
    (afterBwSpeed s).rmu = { s.rmu with
      slip := slipOf s.pfs.working.slipVmin s.rmu.bw.speed s.rmu.mw.speed
      slipStart := (afterBwSpeed s).rmu.slipStart } := by
  have h := Rmu.persist_fst s.pfs.working (s.rmu.reslip s.pfs.working)
    ((putRmu (s.rmu.reslip s.pfs.working) s).active .slip)
  have k : (afterBwSpeed s).rmu = ((s.rmu.reslip s.pfs.working).persist s.pfs.working
      ((putRmu (s.rmu.reslip s.pfs.working) s).active .slip)).1 := by
    simp [afterBwSpeed, slipPersistence_rmu]
  rw [k]
  exact h

/-- The conditions of the two speed causes after a recomputation of V_MW (R30, R31). -/
theorem afterMwSpeed_active (s : State) :
    (afterMwSpeed s).active .overspeed = decide (s.speedLimit < s.rmu.mw.speed) ∧
    (afterMwSpeed s).active .overspeedHigh = s.overspeedHigh := by
  have h1 : ∀ t : State, (overspeedHighEval t).active .overspeed = t.active .overspeed := fun t =>
    active_reportCondition_other (by decide) _ _ _
  have hs : (slipPersistence (putRmu (s.rmu.reslip s.pfs.working) s)).rmu.mw = s.rmu.mw := by
    rw [slipPersistence_rmu, Rmu.persist_fst]
    rfl
  constructor
  · rw [afterMwSpeed, h1]
    simp only [overspeedEval, active_reportCondition, hs]
    simp [State.speedLimit]
  · simp only [afterMwSpeed, overspeedHighEval, active_reportCondition, State.overspeedHigh]
    have : ∀ t : State, (overspeedEval t).rmu = t.rmu ∧ (overspeedEval t).pfs = t.pfs := fun t => by simp
    rw [(this _).1, (this _).2, hs]
    simp

/-- A change of RD does not touch the rope measurement. -/
theorem wheelPulse_rmu (s : State) : (wheelPulse s).rmu = (rmuPulse s).rmu := by
  unfold wheelPulse
  dsimp only
  split
  · rfl
  · simp [rdChanged]

end Sys2Proof.Machine
end

