-- ==== Sys2Proof/Laws/Settled.lean ====
section
/-! SUPPORT. The causes that the end of an event may report, and the causes that a change of RD may raise: every other
entry of the cause table stands as it was. -/

-- One lemma after the other: side by side, their proofs need more memory in the joined text than the check has.
set_option Elab.async false

namespace Sys2Proof.Machine

/-- The causes that the end of an event reports (R43, R44, R56, R90, R108, R110). -/
def settledCauses : List Cause :=
  [.overdueUp, .overdueDown, .stationFull, .stationStall, .storageFull, .unidentifiedAtGate, .doorNotLocked,
    .gripNotPassed, .linkBacklog, .hostHold]

theorem cause_holdOn {c : Cause} (x : Cause × Bool × Detail) (s : State) (h : c ≠ x.1) :
    (holdOn x s).cause c = s.cause c := by
  unfold holdOn reportDetail
  (repeat' split) <;> simp [cause_reportActive, cause_putCause, h]

theorem cause_holdOff {c : Cause} (x : Cause × Bool × Detail) (s : State) (h : c ≠ x.1) :
    (holdOff x s).cause c = s.cause c := by
  unfold holdOff
  split <;> simp [cause_reportInactive, h]

theorem cause_holdOn_fold {c : Cause} (l : List (Cause × Bool × Detail)) (s : State) (h : ∀ x ∈ l, c ≠ x.1) :
    (l.foldl (fun s x => holdOn x s) s).cause c = s.cause c := by
  induction l generalizing s with
  | nil => rfl
  | cons x l ih => simp_all [cause_holdOn]

theorem cause_holdOff_fold {c : Cause} (l : List (Cause × Bool × Detail)) (s : State) (h : ∀ x ∈ l, c ≠ x.1) :
    (l.foldl (fun s x => holdOff x s) s).cause c = s.cause c := by
  induction l generalizing s with
  | nil => rfl
  | cons x l ih => simp_all [cause_holdOff]

theorem cause_holdEval {c : Cause} (s : State) (h : c ∉ settledCauses) : (holdEval s).cause c = s.cause c := by
  have g : ∀ x ∈ s.holdConditions, c ≠ x.1 := by
    intro x hx
    simp [settledCauses, State.holdConditions] at *
    rcases hx with rfl | rfl | rfl | rfl | rfl <;> simp_all
  unfold holdEval
  simp only
  rw [cause_holdOff_fold _ _ g, cause_holdOn_fold _ _ g]
  exact cause_of_ssv (by simp) c

theorem cause_trackEval {c : Cause} (s : State) (h : c ∉ settledCauses) : (trackEval s).cause c = s.cause c := by
  simp [settledCauses] at h
  simp [trackEval, cause_reportCondition, h]

theorem cause_launchEval (c : Cause) (s : State) : (launchEval s).cause c = s.cause c :=
  cause_of_ssv (by simp) c

theorem cause_checkUp {c : Cause} (s : State) (h : c ∉ settledCauses) : (checkUp s).cause c = s.cause c := by
  simp [settledCauses] at h
  unfold checkUp
  (repeat' split) <;> simp [cause_reportActive, h]

theorem cause_checkDown {c : Cause} (s : State) (h : c ∉ settledCauses) : (checkDown s).cause c = s.cause c := by
  simp [settledCauses] at h
  unfold checkDown
  (repeat' split) <;> simp [cause_reportActive, h]

theorem cause_handUp {c : Cause} (old : Lists) (s : State) (h : c ∉ settledCauses) :
    (handUp old s).cause c = s.cause c := by
  simp [settledCauses] at h
  unfold handUp discardUp
  (repeat' split) <;> simp [cause_reportInactive, h]

theorem cause_handDown {c : Cause} (old : Lists) (s : State) (h : c ∉ settledCauses) :
    (handDown old s).cause c = s.cause c := by
  simp [settledCauses] at h
  unfold handDown
  split
  · rfl
  · rw [cause_of_ssv (s := discardDown s) (by simp)]
    unfold discardDown
    split <;> simp [cause_reportInactive, h]

/-- The end of an event leaves the entry of every cause outside its own as it was. -/
theorem cause_settle {c : Cause} (old : Lists) (s : State) (h : c ∉ settledCauses) :
    (settle old s).cause c = s.cause c := by
  have : ∀ t, (settleCounts old t).cause c = t.cause c := fun _ => rfl
  simp only [settle, this]
  rw [cause_launchEval, cause_holdEval _ h, cause_trackEval _ h, cause_checkDown _ h, cause_checkUp _ h,
    cause_handDown _ _ h, cause_handUp _ _ h]

theorem active_settle {c : Cause} (old : Lists) (s : State) (h : c ∉ settledCauses) :
    (settle old s).active c = s.active c := by
  simp [State.active, cause_settle old s h]

/-- The causes that a change of RD raises at the station (R58, R86, R91, R97). -/
def distanceCauses : List Cause := [.gripFail, .gripSensor, .doorNotLockedStop, .launchStuck, .releaseStuck]

theorem cause_rdChanged {c : Cause} (s : State) (h : c ∉ distanceCauses) : (rdChanged s).cause c = s.cause c := by
  simp [distanceCauses] at h
  have h1 : ∀ s, (throwEval s).cause c = s.cause c := fun s => cause_of_ssv (by simp) c
  have ht : ∀ src s, (tallyEvent src s).cause c = s.cause c := fun src s => cause_of_ssv (by simp) c
  have h2 : ∀ s, (windowDistance s).cause c = s.cause c := by
    intro s
    have hw : ∀ w r f s, (writeGrip w r f s).cause c = s.cause c := fun w r f s => cause_of_ssv (by simp) c
    unfold windowDistance
    (repeat' split) <;> try rfl
    simp only [closeWindow, gripCauses]
    (repeat' split) <;> simp [cause_raiseEvent, h, hw, ht]
  have h3 : ∀ s, (holdDistance s).cause c = s.cause c := by
    intro s
    unfold holdDistance
    (repeat' split) <;> simp [cause_raiseEvent, h]
  have h4 : ∀ s, (stuckDistance s).cause c = s.cause c := by
    intro s
    unfold stuckDistance
    (repeat' split) <;> simp [cause_raiseEvent, h]
  have h5 : ∀ s, (releaseDistance s).cause c = s.cause c := by
    intro s
    have hd : ∀ s, (commandDrive .release .a s).cause c = s.cause c := fun s => cause_of_ssv (by simp) c
    have hp : ∀ s, (endRelease s).cause c = s.cause c := fun _ => rfl
    unfold releaseDistance
    (repeat' split) <;> simp [cause_raiseEvent, h, hp, hd]
  simp [rdChanged, h1, h2, h3, h4, h5]

theorem active_rdChanged {c : Cause} (s : State) (h : c ∉ distanceCauses) : (rdChanged s).active c = s.active c := by
  simp [State.active, cause_rdChanged s h]

end Sys2Proof.Machine
end

