-- ==== Sys2Proof/WellFormed.lean ====
section
/-! DEFINITION. Which commands can reach the part at all. A command that is not well formed has a meaning all the same;
no frame and no event stands for it. -/

namespace Sys2Proof

/-- A body fits a frame: LEN is at most 250 and counts KIND and TAG (R191, R203). -/
def bodyFits (body : List Byte) : Bool := decide (body.length ≤ 248)

/-- A KIND is outside Table 12-3: 00h, or above 32h. -/
def unknownKindCode (kind : Byte) : Bool := kind.toNat == 0 || decide (0x32 < kind.toNat)

/-- A command can reach the part. Values of the wrong length or out of their range are not shut out: the part answers
them BAD_LENGTH or BAD_VALUE (R192). -/
def Instr.wellFormed : Instr → Bool
  | .powerOn => true
  | .resetnAsserted => true
  | .endOfReset => true
  | .profileLoad => true
  | .measuringWheelPulse => true
  | .bullwheelCount _ => true
  | .quadratureJump => true
  | .measuringWheelStall => true
  | .bullwheelStall => true
  | .tensionSample _ => true
  | .gripSample _ => true
  | .currentSample _ _ => true
  | .arrPassage => true
  | .opnPassage => true
  | .clsPassage => true
  | .lckPassage => true
  | .grpPassage => true
  | .grpTrailingEdge => true
  | .gatPassage => true
  | .gatTrailingEdge => true
  | .attPassage => true
  | .stiPassage => true
  | .stmPassage => true
  | .readerStrobe _ => true
  | .endInputChange _ _ _ => true
  | .strokeTimeout _ => true
  | .retryPauseExpiry => true
  | .launchDecision => true
  | .switchThrow => true
  | .tallySample => true
  | .lineCycleTransmit => true
  | .towerStale _ => true
  | .censusRequestPlacement => true
  | .syncCandidate bits => !bits.isEmpty
  | .confirmCycle bits => !bits.isEmpty
  | .goodCycle bits => !bits.isEmpty
  | .badCycle bits => !bits.isEmpty
  | .linkLossExpiry => true
  | .censusWaitExpiry => true
  | .seizeTimeExpiry _ => true
  | .ringTimeExpiry _ => true
  | .clearGuardExpiry _ => true
  | .voicePortFrame _ _ => true
  | .hostDeadlineMissed => true
  | .commitCompletion _ => true
  | .badFrame chars => !chars.isEmpty
  | .frameGapTimeout => true
  | .breakReceived => true
  | .unknownKind kind _ body => unknownKindCode kind && bodyFits body
  | .frameTransmit => true
  | .hostResetEntry => true
  | .registerCabin _ body => bodyFits body
  | .unregisterCabin _ body => bodyFits body
  | .readCabin _ body => bodyFits body
  | .readList _ body => bodyFits body
  | .withdrawCabin _ body => bodyFits body
  | .reinstateCabin _ body => bodyFits body
  | .retireCabin _ body => bodyFits body
  | .cabinServiced _ body => bodyFits body
  | .readRope _ body => bodyFits body
  | .bindEntry _ body => bodyFits body
  | .setSwitch _ body => bodyFits body
  | .releaseFromStorage _ body => bodyFits body
  | .readTrack _ body => bodyFits body
  | .driveTest _ body => bodyFits body
  | .readDrives _ body => bodyFits body
  | .holdLaunches _ body => bodyFits body
  | .resumeLaunches _ body => bodyFits body
  | .readLaunch _ body => bodyFits body
  | .declareLost _ body => bodyFits body
  | .readLineTrack _ body => bodyFits body
  | .readLink _ body => bodyFits body
  | .readTowers _ body => bodyFits body
  | .sendLineText _ body => bodyFits body
  | .sendPriorityText _ body => bodyFits body
  | .readLineText _ body => bodyFits body
  | .readRecordChannel _ body => bodyFits body
  | .placeCall _ body => bodyFits body
  | .answerCall _ body => bodyFits body
  | .endCall _ body => bodyFits body
  | .readCalls _ body => bodyFits body
  | .ackCause _ body => bodyFits body
  | .ackAll _ body => bodyFits body
  | .hostStop _ body => bodyFits body
  | .liftRestriction _ body => bodyFits body
  | .keepalive _ body => bodyFits body
  | .setMode _ body => bodyFits body
  | .readCauses _ body => bodyFits body
  | .setTally _ body => bodyFits body
  | .writeTally _ body => bodyFits body
  | .readTally _ body => bodyFits body
  | .clearOverflow _ body => bodyFits body
  | .freezeTally _ body => bodyFits body
  | .unfreezeTally _ body => bodyFits body
  | .identify _ body => bodyFits body
  | .readStatus _ body => bodyFits body
  | .resetPart _ body => bodyFits body
  | .readParam _ body => bodyFits body
  | .writeParam _ body => bodyFits body
  | .commitProfile _ body => bodyFits body
  | .restoreDefaults _ body => bodyFits body
  | .supplyLoss => true

end Sys2Proof
end

