-- ==== Sys2Proof/Tests/Slice0.lean ====
section
/-! SUPPORT. Tests on small states: the smoke test of well-formedness, the manual's worked tables, and for the statements
with hypotheses a witness of each. -/

-- One lemma after the other: side by side, their proofs need more memory in the joined text than the check has.
set_option Elab.async false

namespace Sys2Proof.Tests

open Sys2Proof Sys2Proof.Machine

/-! ### Well-formedness: the check that refuses each ill-formed term -/

theorem test_wf_body_too_long : (Instr.sendLineText 1 (List.replicate 249 0)).wellFormed = false := by decide +kernel

theorem test_wf_longest_body : (Instr.sendLineText 1 (List.replicate 248 0)).wellFormed = true := by decide +kernel

theorem test_wf_known_kind_as_unknown : (Instr.unknownKind 0x32 1 []).wellFormed = false := by decide

theorem test_wf_unknown_kinds :
    (Instr.unknownKind 0x33 1 []).wellFormed = true ∧ (Instr.unknownKind 0x00 1 []).wellFormed = true := by decide

theorem test_wf_no_characters : (Instr.badFrame []).wellFormed = false := by decide

theorem test_wf_no_bits :
    (Instr.syncCandidate []).wellFormed = false ∧ (Instr.confirmCycle []).wellFormed = false ∧
      (Instr.goodCycle []).wellFormed = false ∧ (Instr.badCycle []).wellFormed = false ∧
      (Instr.goodCycle [⟨true, false⟩]).wellFormed = true := by decide

/-! ### States to test on -/

/-- The state that a command leaves. -/
def after (c : Instr) (s : State) : State :=
  match exec c s with
  | .next t => t
  | _ => s

/-- The part in SERVICE, its default profile loaded. -/
def up : State := after .profileLoad State.reset

/-- A drive channel that rests at END_A. -/
def homeDrive : DriveChannel := { DriveChannel.reset with state := .atA, endA := ⟨true, 0⟩ }

/-- The part in SERVICE with every channel home. -/
def homed : State := { up with dru := ⟨homeDrive, homeDrive, homeDrive, homeDrive, homeDrive⟩ }

/-- The part in RUN, every channel home, nothing queued at the port. -/
def running : State :=
  let t := after (.setMode 1 [2]) homed
  { t with spt := { t.spt with replies := [], notices := [] } }

/-- A state whose rope stands at a position. -/
def atRd (rd : Word32) (s : State) : State := { s with rmu := { s.rmu with rd := rd } }

/-- A state whose rope runs at a speed that the measuring wheel gives. -/
def atSpeed (v : Nat) (s : State) : State := { s with rmu := { s.rmu with mw := { s.rmu.mw with speed := v } } }

/-- A state at a time. -/
def atMs (ms : Word32) (s : State) : State := { s with clock := { s.clock with ms := ms } }

/-- A state with a station list. -/
def withStation (l : List StationEntry) (s : State) : State := { s with lists := { s.lists with station := l } }

/-- A registered cabin with a location. -/
def place (c : Cabin) (l : Location) (s : State) : State :=
  { s with cabins := s.cabins.set c.val { s.cab c with registered := true, location := l } c.isLt }

/-- Cabin 14. -/
def c14 : Cabin := 13

/-- The part held in reset. -/
def held : State := after .resetnAsserted up

theorem test_up : up.loaded = true ∧ up.ssv.mode = .service ∧ up.pfs.status = .valid ∧
    up.ssv.lines = ⟨true, false, false⟩ := by decide +kernel

theorem test_running : running.ssv.mode = .run ∧ running.ssv.demand = .none := by decide +kernel

/-! ### The manual's worked cases -/

/-- The check word of the nine bytes of "123456789" (R122). -/
theorem test_crc16 : crc16 [0x31, 0x32, 0x33, 0x34, 0x35, 0x36, 0x37, 0x38, 0x39] = 0x29B1 := by decide +kernel

/-- The LAUNCHED record of cabin 14 with spacing 60,000, and its last slot (section 13.4's example). -/
theorem test_launched_record :
    TxRecord.channelBytes ⟨.launched, launchedBody c14 60000, .part⟩ = [0x11, 0x04, 0x0E, 0x00, 0xEA, 0x60] ∧
      slotOf 0x60 true = 0xC060 := by decide +kernel

/-- A CAUSE_RAISED notice takes 19 bytes on the wire (section 13.2). -/
theorem test_cause_raised_length :
    (let q : QueuedNotice := ⟨0, .causeRaised .overspeed .absent 1 0⟩
     (frameBytes q.notice.kind 0 (q.body false)).length = 19) := by decide +kernel

/-- Rope distance through a wrap and a reversal (Table 2-2). -/
theorem test_rope_distance :
    movePosition 4712 .forward 4294967290 700 = (4294967295, 412) ∧ movePosition 4712 .forward 4294967295 412 = (4, 124) ∧
      movePosition 4712 .reverse 4 124 = (4294967295, 412) ∧
      movePosition 4712 .reverse 4294967295 412 = (4294967290, 700) := by decide +kernel

/-- Speeds and slips of section 2.6: cases A to D. -/
theorem test_speeds_and_slips :
    speedOf 4712 [942, 942, 943, 942, 942, 943, 942, 942] = (5000, false) ∧
      speedOf 14726 (List.replicate 8 2916) = (5050, false) ∧ slipOf 500 5050 5000 = 9 ∧
      speedOf 4712 [943] = (4996, false) ∧ speedOf 4712 [943, 942] = (4999, false) ∧
      speedOf 4712 (List.replicate 8 300) = (12000, true) ∧ slipOf 500 3000 0 = 999 ∧ slipOf 100 100 12000 = -999 := by
  decide +kernel

/-- The tension carriage with a broken wire (Table 2-5): eight samples of 4,095 keep both conditions inactive, the
ninth makes TENSION_RANGE active. -/
theorem test_tension_carriage :
    (let s := { up with rmu := { up.rmu with tension := List.replicate 8 2048 ++ List.replicate 7 4095 } }
     let t := after (.tensionSample 4095) s
     let u := after (.tensionSample 4095) t
     s.carriage = none ∧ t.carriage = some 1499 ∧ t.active .tensionRange = false ∧
       u.carriage = some 1562 ∧ u.active .tensionRange = true ∧ u.active .tensionLimit = false) := by decide +kernel

/-- The grip force of cabin 14 (Table 5-1), through the close of a window at a peak of 2,450; and the peaks of 2,950 and
4,095. -/
theorem test_grip_force :
    (let s := fun (peak : Nat) => { withStation [⟨0, .cabin c14, .gat, 0, false⟩] (place c14 .station running) with
       lnu := { running.lnu with window := some ⟨0, some c14, 0, peak⟩ } }
     let t := after .grpTrailingEdge (s 2450)
     (t.cab c14).grip = .pass ∧ (t.cab c14).force = 13183 ∧ t.cause .gripFail = (running.cause .gripFail) ∧
       ((after .grpTrailingEdge (s 2950)).cab c14).force = 16113 ∧
       ((after .grpTrailingEdge (s 2950)).cab c14).grip = .fail ∧
       ((after .grpTrailingEdge (s 4095)).cab c14).force = 22822 ∧
       ((after .grpTrailingEdge (s 4095)).cause .gripSensor).latched = true) := by decide +kernel

/-- The launch of cabin 14 (Table 5-6, steps 2, 4 and 6). -/
def launching : State :=
  let s := atRd 20060000 (atSpeed 5000 (place c14 .station running))
  let s := withStation [⟨0, .cabin c14, .gat, 20013500, true⟩] s
  { s with lnu := { s.lnu with rdL := some 20000000 },
           cabins := s.cabins.set c14.val { s.cab c14 with door := .locked, grip := .pass, force := 13183 } c14.isLt }

theorem test_launch_decision :
    (let t := after .launchDecision launching
     t.lnu.rdL = some 20060000 ∧ t.lnu.flight = some ⟨0, c14, 20060000, 60000, false, false⟩ ∧
       t.dru.gate.state = .toB ∧ (after .launchDecision (atRd 20059999 launching)).lnu.flight = none) := by decide +kernel

theorem test_launch_completion :
    (let t := after .launchDecision launching
     let open' := { t with dru := { t.dru with gate := { t.dru.gate with state := .atB } } }
     let u := after .attPassage (after .gatTrailingEdge open')
     u.lists.station = [] ∧ u.lists.upLine = [⟨c14, 20060000⟩] ∧ (u.cab c14).launches = 1 ∧ u.dru.gate.state = .toA ∧
       u.lkc.chan.queue = [⟨.launched, [0x0E, 0x00, 0xEA, 0x60], .part⟩]) := by decide +kernel

/-- The obstruction of the closer (section 4.10): the eighth high sample in a row reverses the stroke. -/
theorem test_closer_reversal :
    (let s := { running with dru := { running.dru with closer := { homeDrive with
       state := .toB, strokeStart := some 0, run := 7, task := some ⟨0, none, .closing, 0⟩ } } }
     let t := after (.currentSample .closer 1833) s
     let u := after (.currentSample .closer 1535) s
     t.dru.closer.state = .toA ∧ t.dru.closer.latest = 3580 ∧ t.dru.closer.run = 0 ∧ u.dru.closer.run = 0 ∧
       u.dru.closer.state = .toB ∧ u.dru.closer.latest = 2998) := by decide +kernel

/-- Supervision in window mode (Table 10-3): a KEEPALIVE after 150 ms is early, one after 500 ms in time. -/
theorem test_window_mode :
    (let p := { up.pfs with working := { up.pfs.working with hkWindow := 1 } }
     let s := { up with pfs := p, ssv := { up.ssv with lastKeep := some 11650 } }
     (after (.keepalive 1 []) (atMs 11800 s)).active .hostSilent = true ∧
       (after (.keepalive 1 []) (atMs 12150 s)).active .hostSilent = false) := by decide +kernel

/-! ### Witnesses: concrete states and operands that meet the hypotheses of the statements, clause by clause -/

/-- A channel in a state. -/
def withDrive (ch : Channel) (d : DriveChannel) (s : State) : State := { s with dru := s.dru.put ch d }

/-- An unidentified entry in a segment. -/
def unknownIn (g : Segment) : StationEntry := ⟨0, .unidentified .none 0, g, 0, false⟩

/-- Cabin 14's entry in a segment. -/
def entryIn (g : Segment) : StationEntry := ⟨0, .cabin c14, g, 0, false⟩

/-- The oldest entry of a segment is the one given. -/
def stands (g : Segment) (e : StationEntry) (s : State) : Bool :=
  s.lists.station.find? (fun x => x.segment == g) == some e

/-- The station list is full of entries in a segment. -/
def full (g : Segment) (s : State) : State := withStation (List.replicate 128 (unknownIn g)) s

/-- A part whose only waiting command is the one given. -/
def fed (c : Instr) (s : State) : State := { s with pending := [c] }

/-- The state that a step leaves of a part whose only waiting command is the one given. -/
def ran (c : Instr) (s : State) : State := after c { s with pending := [] }

theorem step_fed_pulse (s : State) : step (fed .measuringWheelPulse s) = .next (ran .measuringWheelPulse s) := rfl

theorem step_fed_powerOn (s : State) : step (fed .powerOn s) = .next (ran .powerOn s) := rfl

theorem step_fed_launchDecision (s : State) : step (fed .launchDecision s) = .next (ran .launchDecision s) := rfl

theorem step_fed_attPassage (s : State) : step (fed .attPassage s) = .next (ran .attPassage s) := rfl

theorem witness_IdleStepIsOneMicrosecond :
    held.pending = [] ∧ held.ssv.mode = .off ∧ State.reset.pending = [] ∧ State.reset.ssv.mode ≠ .off := by
  decide +kernel

/-- A part whose commit is in flight. -/
def committing : State := after (.commitProfile 1 []) up

/-- The reply of RESET_PART has been sent. -/
def resetSent : State := { up with spt := { up.spt with tx := some ⟨[], true, 0⟩ } }

theorem witness_ResetEntryHoldsThePart :
    up.supply = true ∧ ¬(up.ssv.mode = .off ∧ up.resetCause = .powerOn) ∧ up.pfs.commit = none ∧
      held.supply = true ∧ ¬(held.ssv.mode = .off ∧ held.resetCause = .powerOn) ∧
      resetSent.spt.tx = some ⟨[], true, 0⟩ ∧ committing.supply = true ∧ committing.pfs.commit.isSome ∧
      (after .resetnAsserted committing).pfs.stored.checkGood = false ∧
      (after .supplyLoss committing).pfs.stored.checkGood = false := by decide +kernel

theorem witness_StartLoadsTheProfileAndEntersService :
    (let r := State.reset
     let torn := { r with pfs := { r.pfs with stored := .torn 0 } }
     held.supply = true ∧ held.ssv.mode = .off ∧ r.ssv.mode = .start ∧ r.loaded = false ∧
       r.pfs.stored.checkGood = true ∧ torn.pfs.stored.checkGood = false ∧ torn.resetCause ≠ .profileRestore ∧
       (after .profileLoad torn).pfs.status = .invalid ∧
       (after .profileLoad { r with resetCause := .profileRestore }).pfs.writes = 1) := by decide +kernel

/-- Part of the position, at the top of the remainder. -/
def remTop (d : Direction) : State := { up with rmu := { up.rmu with rem := 999, direction := d } }

theorem witness_PulseMovesThePositionAndMakesItsChecks :
    (remTop .forward).loaded = true ∧ (remTop .forward).rmu.rem < 1000 ∧ (remTop .reverse).loaded = true ∧
      (after .measuringWheelPulse (remTop .forward)).position = 5711 ∧
      (after .measuringWheelPulse (remTop .reverse)).position + 4712 = 4294967296000 + 999 := by decide +kernel

/-- The head of a line list, stamped 0, with the rope at a position; the link is LOCKED. -/
def lineHead (l : Location) (rd : Word32) : State :=
  let s := atRd rd (place c14 l up)
  { s with
    lists := { s.lists with
      upLine := if l = .upLine then [⟨c14, 0⟩] else []
      downLine := if l = .downLine then [⟨c14, 0⟩] else [] }
    lkc := { s.lkc with rx := { s.lkc.rx with sync := .locked, outOfLock := none } } }

/-- The bound is 2,420,000: a pulse moves a rope at 2,419,996 to it, and one at 2,419,997 beyond it. -/
theorem witness_PulseMovesThePositionAndMakesItsChecks_overdue :
    (let p := after .measuringWheelPulse
     let hunting := { lineHead .upLine 2419997 with lkc := up.lkc }
     let made := { lineHead .upLine 5 with ltu := { up.ltu with overUp := some c14 } }
     (lineHead .upLine 2419997).loaded = true ∧ (lineHead .upLine 2419997).rmu.rem < 1000 ∧
       (p (lineHead .upLine 2419996)).rmu.rd = 2420000 ∧ (p (lineHead .upLine 2419996)).ltu.overUp = none ∧
       (p (lineHead .upLine 2419997)).ltu.overUp = some c14 ∧ (p hunting).rmu.rd = 2420001 ∧
       (p hunting).ltu.overUp = none ∧ (p made).rmu.rd = 9 ∧ (p made).ltu.overUp = some c14 ∧
       (p (lineHead .downLine 2419996)).ltu.overDown = none ∧
       (p (lineHead .downLine 2419997)).ltu.overDown = some c14 ∧
       (p { lineHead .downLine 2419997 with lkc := up.lkc }).ltu.overDown = some c14) := by decide +kernel

/-- Each distance check of a pulse, with its start at 0 and the rope 4 mm short of the bound, and 3 mm or 5 mm on the
other side of it: a pulse moves the rope by 4 mm. -/
theorem witness_PulseMovesThePositionAndMakesItsChecks_bounds :
    (let p := fun rd s => after .measuringWheelPulse (atRd rd s)
     let latched := fun c s => (State.cause s c).latched
     let e : StationEntry := ⟨0, .cabin c14, .gat, 0, true⟩
     let s := withStation [e] (place c14 .station running)
     let h := { s with lnu := { s.lnu with hold := some ⟨0, 0, false⟩ } }
     let w := { s with lnu := { s.lnu with window := some ⟨0, some c14, 0, 2000⟩ } }
     let f := { s with lnu := { s.lnu with flight := some ⟨0, c14, 0, 16777215, false, false⟩ } }
     let r := withDrive .release { homeDrive with state := .atB }
       { place c14 .storage running with
         lists := { running.lists with storage := [c14] }, stu := { running.stu with release := some ⟨c14, some 0⟩ } }
     let k := withDrive .switch { homeDrive with state := .atB }
       { running with stu := { running.stu with wanted := some .line, lastArr := some 0 } }
     s.loaded = true ∧ s.rmu.rem < 1000 ∧ s.heldEntry = some 0 ∧
       (p 1495 w).lnu.window = some ⟨0, some c14, 0, 2000⟩ ∧ (p 1496 w).lnu.window = none ∧
       ((p 1496 w).cab c14).force = 10546 ∧ latched .gripFail (p 1496 w) = true ∧
       latched .doorNotLockedStop (p 14995 h) = false ∧ latched .doorNotLockedStop (p 14996 h) = true ∧
       (p 14996 h).lnu.hold = some ⟨0, 0, true⟩ ∧ (p 14996 s).lnu.hold = some ⟨0, 15000, false⟩ ∧
       latched .launchStuck (p 2996 f) = false ∧ latched .launchStuck (p 2997 f) = true ∧
       (p 2997 f).lnu.flight = some ⟨0, c14, 0, 16777215, false, true⟩ ∧
       (p 7996 r).stu.release = some ⟨c14, some 0⟩ ∧ (p 7997 r).stu.release = none ∧
       latched .releaseStuck (p 7997 r) = true ∧ (p 7997 r).dru.release.state = .toA ∧
       (p 2995 k).dru.switch.state = .atB ∧ (p 2996 k).dru.switch.state = .toA ∧
       (p 19996 (withStation [entryIn .opn] running)).active .stationStall = false ∧
       (p 19997 (withStation [entryIn .opn] running)).active .stationStall = true ∧
       (p 19997 (withStation [entryIn .gat] running)).active .stationStall = false) := by decide +kernel

/-- The measuring wheel timed from a capture time, with the timebase at 65,536. -/
def timed (k : Option Word32) : State :=
  { up with rmu := { up.rmu with mw := { up.rmu.mw with kept := k } }, clock := { up.clock with timebase := 65536 } }

theorem witness_PulseSetsSpeedAndOverspeed :
    (timed none).loaded = true ∧ ((timed (some 1)).clock.timebase - 1).toNat = 65535 ∧
      (after .measuringWheelPulse (timed (some 1))).rmu.mw.window = [65535] ∧
      ((timed (some 0)).clock.timebase - 0).toNat = 65536 ∧
      (after .measuringWheelPulse (timed (some 0))).rmu.mw.window = [] := by decide +kernel

theorem witness_OnlyPulsesAndResetsMoveTheRope :
    step (fed .measuringWheelPulse up) = .next (ran .measuringWheelPulse up) ∧
      step (fed .powerOn (atRd 5 up)) = .next (ran .powerOn (atRd 5 up)) ∧
      (ran .measuringWheelPulse up).rmu.rd ≠ (fed .measuringWheelPulse up).rmu.rd ∧
      (ran .powerOn (atRd 5 up)).rmu.rd ≠ (fed .powerOn (atRd 5 up)).rmu.rd :=
  ⟨step_fed_pulse up, step_fed_powerOn (atRd 5 up), by decide +kernel⟩

theorem witness_BullwheelCountSetsSpeedAndSlip :
    (let k := { up with rmu := { up.rmu with bw := { up.rmu.bw with kept := some 0 } },
                        clock := { up.clock with timebase := 2916 } }
     up.loaded = true ∧ (after (.bullwheelCount .bwA) up).rmu.direction = up.rmu.direction ∧
       (after (.bullwheelCount .bwB) up).rmu.direction ≠ up.rmu.direction ∧ up.rmu.bw.kept = none ∧
       k.loaded = true ∧ (after (.bullwheelCount .bwA) k).rmu.bw.window = [2916] ∧
       (after (.bullwheelCount .bwA) k).rmu.bw.speed = 5050) := by decide +kernel

/-- A bullwheel count a period after the one before, with the measuring wheel at a speed and a persistence start. -/
def slipping (period : Word32) (v : Nat) (start : Option Word32) : State :=
  { up with
    rmu := { up.rmu with bw := { up.rmu.bw with kept := some 0 }, mw := { up.rmu.mw with speed := v }, slipStart := start }
    clock := { up.clock with timebase := period } }

/-- V_BW is 5,000 at a period of 2,945 µs: SLIP 30 is within the limit and 31 is not; a start at distance 2,000 is at
SLIP_HOLD_MM, one at 1,999 below it. V_BW is 11,991 at 1,228 µs and beyond its range at 1,227. -/
theorem witness_BullwheelCountSetsSpeedAndSlip_slip :
    (let c := fun s => after (.bullwheelCount .bwA) s
     (slipping 2945 4850 none).loaded = true ∧ (c (slipping 2945 4850 (some 0))).rmu.bw.speed = 5000 ∧
       (c (slipping 2945 4850 (some 0))).rmu.slip = 30 ∧ (c (slipping 2945 4850 (some 0))).rmu.slipStart = none ∧
       (c (slipping 2945 4845 none)).rmu.slip = 31 ∧ (c (slipping 2945 4845 none)).rmu.slipStart = some 0 ∧
       (c (slipping 2945 4845 (some 4294965297))).active .slip = false ∧
       (c (slipping 2945 4845 (some 4294965296))).active .slip = true ∧
       (c (slipping 1228 0 none)).rmu.bw.speed = 11991 ∧ (c (slipping 1228 0 none)).rmu.slip = 999 ∧
       (c (slipping 1227 0 none)).rmu.bw = ⟨[1227], some 1227, 12000, true⟩ ∧
       (c (slipping 2945 12000 none)).rmu.slip = -999) := by decide +kernel

theorem witness_JumpSampleAndStrobeChangeTheirFields : up.loaded = true ∧ up.ssv.mode ≠ .off := by decide +kernel

theorem witness_StallEmptiesTheWindow :
    (timed (some 0)).loaded = true ∧ 65536 ≤ ((timed (some 0)).clock.timebase - 0).toNat ∧
      (timed (some 0)).rmu.mw.kept = some 0 ∧ (timed (some 0)).rmu.bw.speed = 0 ∧
      (let s := { timed none with rmu := { up.rmu with bw := { up.rmu.bw with kept := some 0 } } }
       s.loaded = true ∧ s.rmu.bw.kept = some 0 ∧ 65536 ≤ (s.clock.timebase - 0).toNat) := by decide +kernel

theorem witness_TensionSampleEvaluatesTheCarriage :
    (let s := fun n => { up with rmu := { up.rmu with tension := List.replicate n 2048 } }
     (s 14).loaded = true ∧ (s 15).loaded = true ∧ (s 15).ssv.mode ≠ .off ∧
       (after (.tensionSample 2048) (s 14)).rmu.tension.length = 15 ∧
       (after (.tensionSample 2048) (s 15)).rmu.tension.length = 16) := by decide +kernel

theorem witness_PassageMovesTheOldestEntry :
    (let s := fun g => withStation [entryIn g] running
     stands .opn (entryIn .opn) (s .opn) = true ∧ stands .cls (entryIn .cls) (s .cls) = true ∧
       stands .lck (entryIn .lck) (s .lck) = true ∧ stands .grp (entryIn .grp) (s .grp) = true ∧
       (s .grp).lnu.window = none ∧ (s .opn).loaded = true ∧ (s .opn).ssv.mode = .run ∧
       (withStation [entryIn .opn] up).ssv.mode ≠ .run) := by decide +kernel

/-- A passage of cabin 14 in RUN, with the door channel in a state, END_B at a level, and a task of cabin 3 on it. -/
def doorPassage (ch : Channel) (st : DriveState) (endB : Bool) (ph : Option TaskPhase) : State :=
  let g := if ch = .opener then Segment.opn else .cls
  let task := ph.map fun ph => (⟨9, some 2, ph, 0⟩ : DoorTask)
  after (if ch = .opener then .opnPassage else .clsPassage)
    (withDrive ch { DriveChannel.reset with state := st, endB := ⟨endB, 0⟩, task := task, retry := 2, peak := 7 }
      (withStation [entryIn g] (place 2 .station (place c14 .station running))))

/-- Table 4-3 and R78 at an OPN and a CLS passage: each state of the channel, and each fate of an old task. -/
theorem witness_PassageMovesTheOldestEntry_doors :
    (let o := doorPassage .opener
     let shape := fun (d : DriveChannel) => (d.state, d.task.map DoorTask.phase, d.peak, d.retry)
     shape (o .atA false none).dru.opener = (.toB, some .opening, 0, 2) ∧
       shape (o .toA false (some .returning)).dru.opener = (.toB, some .opening, 7, 2) ∧
       shape (o .toB false (some .opening)).dru.opener = (.toB, some .opening, 7, 2) ∧
       ((o .toB false (some .opening)).cab 2).door = .unknown ∧
       ((o .toB false (some .opening)).cause .doorOpenFail).latched = true) := by decide +kernel

theorem witness_PassageMovesTheOldestEntry_opener :
    (let o := doorPassage .opener
     let shape := fun (d : DriveChannel) => (d.state, d.task.map DoorTask.phase, d.peak, d.retry)
     shape (o .atB false none).dru.opener = (.toA, some .returning, 0, 2) ∧ ((o .atB false none).cab c14).door = .opened ∧
       shape (o .blocked false none).dru.opener = (.toB, some .opening, 0, 2) ∧
       shape (o .blocked true none).dru.opener = (.toA, some .returning, 0, 2) ∧
       shape (o .fault false none).dru.opener = (.fault, none, 7, 2) ∧
       ((o .unknown false none).cause .doorOpenFail).latched = true) := by decide +kernel

theorem witness_PassageMovesTheOldestEntry_closer :
    (let c := doorPassage .closer
     let shape := fun (d : DriveChannel) => (d.state, d.task.map DoorTask.phase, d.peak, d.retry)
     shape (c .toA false (some .reversing)).dru.closer = (.toB, some .closing, 7, 0) ∧
       ((c .toA false (some .reversing)).cause .doorCloseFail).latched = true ∧
       shape (c .atB false (some .returning)).dru.closer = (.toA, some .returning, 0, 0) ∧
       ((c .atB false (some .returning)).cab c14).door = .closed ∧
       ((c .atB false (some .returning)).cause .doorCloseFail).latched = false) := by decide +kernel

theorem witness_PassageWithoutEntryIsSurveyed :
    (let w : GripWindow := ⟨7, some c14, 0, 4095⟩
     let g := { running with lnu := { running.lnu with window := some w } }
     let f := withDrive .gate { homeDrive with state := .atB }
       (withStation [⟨0, .cabin c14, .gat, 0, true⟩] { running with lnu := { running.lnu with
         flight := some ⟨0, c14, 0, 16777215, false, false⟩ } })
     g.loaded = true ∧ (∀ x ∈ g.lists.station, x.segment ≠ .grp) ∧ g.lnu.window = some w ∧ w.cabin.isSome ∧
       (after .grpPassage g).lnu.lastResult = some ⟨22822, .fail⟩ ∧
       f.loaded = true ∧ (∀ x ∈ f.lists.station, x.segment = .gat → x.atGate = true) ∧ f.lnu.flight.isSome ∧
       f.dru.gate.state ≠ .atA ∧ (after .gatPassage f).lists.station.map StationEntry.atGate = [true, true]) ∧
    running.loaded = true ∧ (∀ x ∈ running.lists.station, x.segment ≠ .opn) ∧ up.ssv.mode ≠ .run ∧
      (after .opnPassage running).dru.opener.task = some ⟨running.stu.nextId, none, .opening, 0⟩ ∧
      (after .clsPassage running).dru.closer.task = some ⟨running.stu.nextId, none, .closing, 0⟩ ∧
      (after .opnPassage (full .att running)).dru.opener.task = none ∧
      (∀ x ∈ up.lists.station, x.segment ≠ .lck) ∧ (full .att up).loaded = true ∧
      (∀ x ∈ (full .att up).lists.station, x.segment ≠ .cls) ∧ (full .att up).lists.station.length = 128 := by
  decide +kernel

theorem witness_PassageMovesTheOldestEntry_lock :
    (let s := withStation [entryIn .lck] (place c14 .station up)
     let ok := { s with stu := { s.stu with inputs := { s.stu.inputs with lckOk := ⟨true, 0⟩ } } }
     s.loaded = true ∧ stands .lck (entryIn .lck) s = true ∧ (s.cab c14).location = .station ∧
       (s.cab c14).door = .unknown ∧ stands .lck (entryIn .lck) ok = true ∧
       ((after .lckPassage ok).cab c14).door = .locked) := by decide +kernel

/-- Cabin 14 on the down line, its code latched at the edge of READER_SPAN. -/
def arriving : State :=
  let s := place c14 .downLine running
  { s with lists := { s.lists with downLine := [⟨c14, 0⟩] },
           stu := { s.stu with latch := some ⟨14, 0⟩ }, rmu := { s.rmu with rd := BitVec.ofNat 32 s.pfs.working.readerSpan } }

theorem witness_ArrivalTakesTheReadCabin :
    (let behind := { arriving with lists := { arriving.lists with downLine := [⟨3, 0⟩, ⟨c14, 0⟩] } }
     arriving.loaded = true ∧ arriving.stu.latch = some ⟨14, 0⟩ ∧ (14 : BitVec 7).toNat = Cabin.number c14 ∧
       arriving.since 0 = (arriving.pfs.working.readerSpan : Int) ∧ (arriving.cab c14).registered = true ∧
       (arriving.cab c14).location = .downLine ∧ arriving.dru.switch.state = .atA ∧
       behind.lists.downLine.head?.map LineEntry.cabin ≠ some c14 ∧
       (full .att arriving).lists.station.length = 128) := by decide +kernel

/-- Cabin 14 at a location, with the lists as they follow. -/
def placedAt (l : Location) (s : State) : State :=
  let s := place c14 l s
  { s with lists := { s.lists with
      storage := if l = .storage then [c14] else [], upLine := if l = .upLine then [⟨c14, 0⟩] else [],
      summit := if l = .summit then [⟨c14, 0⟩] else [], downLine := if l = .downLine then [⟨c14, 0⟩] else [] } }

/-- A latch of cabin 14's code, an RD after it. -/
def latched14 (rd : Word32) (s : State) : State :=
  { s with stu := { s.stu with latch := some ⟨14, 0⟩ }, rmu := { s.rmu with rd := rd } }

/-- Cases 3 to 5 of R50: a cabin that is LOST, one in storage, a stale code and none, with a down-line head and
without. -/
theorem witness_ArrivalTakesTheReadCabin_otherCases :
    (let lost := latched14 1500 (placedAt .lost running)
     lost.loaded = true ∧ lost.lists.station.length < 128 ∧ (lost.cab c14).location = .lost ∧
       lost.pfs.working.readerSpan = 1500 ∧ distance lost.rmu.rd 0 = 1500 ∧ lost.spt.notices.length < 16 ∧
       (∀ k, (lost.counter k).notify = false) ∧ (after .arrPassage lost).lists.station.length = 1) ∧
    (let stored := latched14 0 (placedAt .storage running)
     let head := placedAt .downLine running
     let stale := latched14 1501 head
     ((after .arrPassage stored).cause .identityConflict).latched = true ∧ head.stu.latch = none ∧
       head.lists.downLine = [⟨c14, 0⟩] ∧ ((after .arrPassage head).cause .reader).latched = true ∧
       distance stale.rmu.rd 0 = 1501 ∧ ((after .arrPassage stale).cause .reader).latched = false ∧
       running.lists.downLine = [] ∧ ((after .arrPassage running).cause .phantomArrival).latched = true ∧
       up.ssv.mode ≠ .run) ∧
    (latched14 1500 (placedAt .lost running)).placed ∧ (latched14 0 (placedAt .storage running)).placed ∧
    (latched14 1501 (placedAt .downLine running)).placed ∧ running.placed := by
  refine ⟨by decide +kernel, by decide +kernel, ?_⟩
  unfold State.placed; decide +kernel

theorem witness_StorageRailPassages :
    (let s := fun e => withStation [e] (place c14 .station up)
     let m := { place c14 .storage up with lists := { up.lists with storage := [c14] } }
     let r := { m with stu := { m.stu with release := some ⟨c14, some 0⟩ } }
     stands .sti (entryIn .sti) (s (entryIn .sti)) = true ∧ (s (unknownIn .sti)).loaded = true ∧
       stands .sti (unknownIn .sti) (s (unknownIn .sti)) = true ∧ up.lists.station = [] ∧
       up.loaded = true ∧ up.releaseKept ∧ up.stu.release = none ∧ up.lists.storage = [] ∧
       (after .stmPassage up).lists.station = [⟨0, .unidentified .none 0, .opn, 0, false⟩] ∧
       (full .att up).releaseKept ∧ (full .att up).lists.station.length = 128 ∧
       r.loaded = true ∧ r.releaseKept ∧ r.stu.release = some ⟨c14, some 0⟩ ∧
       (after .stmPassage (withDrive .release { homeDrive with state := .toB } r)).dru.release.state = .toA ∧
       (full .att r).releaseKept ∧ (full .att r).lists.station.length = 128) := by
  unfold State.releaseKept; decide +kernel

theorem witness_GateEdges :
    (let s := withStation [entryIn .gat] running
     let f := { s with lnu := { s.lnu with flight := some ⟨0, c14, 0, 16777215, false, false⟩ } }
     let g := withDrive .gate { homeDrive with state := .atB } f
     let l := { s with lnu := { s.lnu with flight := some ⟨0, c14, 0, 16777215, true, false⟩ } }
     s.loaded = true ∧ stands .gat (entryIn .gat) s = true ∧ (entryIn .gat).atGate = false ∧ s.lnu.flight = none ∧
       s.dru.gate.state = .atA ∧ g.lnu.flight.isSome ∧ g.dru.gate.state ≠ .atA ∧
       (after .gatTrailingEdge g).dru.gate.state = .toA ∧ l.lnu.flight = some ⟨0, c14, 0, 16777215, true, false⟩ ∧
       up.ssv.mode ≠ .run ∧ up.dru.gate.state ≠ .atA ∧
       running.ssv.mode = .run ∧ running.lists.station = [] ∧ running.lnu.flight = none ∧
       ((after .gatTrailingEdge running).cause .stationSequence).latched = true ∧
       ((after .gatTrailingEdge up).cause .stationSequence).latched = false ∧ up.lists.station = [] ∧
       (after .gatTrailingEdge s).lists.stationCount = s.lists.stationCount + 1 ∧
       (after .gatTrailingEdge running).lists.stationCount = running.lists.stationCount ∧
       (after .gatPassage s).lnu.hold = some ⟨0, 0, false⟩ ∧ (after .gatTrailingEdge (after .gatPassage s)).lnu.hold = none) := by
  decide +kernel

theorem witness_GripWindowClosesAtTrailingEdge :
    (let s := withStation [entryIn .gat] (place c14 .station running)
     let w : GripWindow := ⟨0, some c14, 0, 200⟩
     let t := { s with lnu := { s.lnu with window := some w } }
     let u := { withStation [⟨1, .unidentified .none 0, .grp, 0, false⟩] s with lnu := { s.lnu with window := some w } }
     t.loaded = true ∧ t.lnu.window = some w ∧ (∃ x ∈ t.lists.station, x.id = w.entry) ∧
       (t.cab c14).location = .station ∧ u.lnu.window = some w ∧
       (u.lists.station.any fun x => x.segment == .grp) = true) := by decide +kernel

theorem witness_LaunchDecisionFollowsTheConditions :
    (let e : StationEntry := ⟨0, .cabin c14, .gat, 20013500, true⟩
     let s := launching
     s.loaded = true ∧ stands .gat e s = true ∧ e.atGate = true ∧ s.ssv.mode = .run ∧ s.ssv.demand = .none ∧
       s.rmu.direction = .forward ∧ s.pfs.working.launchVmin ≤ s.rmu.mw.speed ∧ (s.cab c14).door = .locked ∧
       (s.cab c14).grip = .pass ∧ s.lnu.rdL = some 20000000 ∧
       (s.pfs.working.spacing : Int) = distance s.rmu.rd 20000000 ∧
       s.lkc.chan.occupancy + s.lkc.chan.reservedBytes + 5 ≤ 128 ∧ s.dru.gate.state = .atA ∧ s.lnu.flight = none ∧
       up.loaded = true ∧ up.ssv.mode ≠ .run ∧
       distance (atRd 20059999 s).rmu.rd 20000000 < (s.pfs.working.spacing : Int) ∧
       (let r : TxRecord := ⟨.text, List.replicate 41 0x41, .host⟩
        let q := { s with lkc := { s.lkc with chan := { s.lkc.chan with queue := [r, r, r] } } }
        q.loaded = true ∧ 128 < q.lkc.chan.occupancy + q.lkc.chan.reservedBytes + 5 ∧
          after .launchDecision q = q)) := by decide +kernel

theorem witness_NewLaunchesAreOfReadyCabinsInRun :
    step (fed .launchDecision launching) = .next (ran .launchDecision launching) ∧
      (ran .launchDecision launching).ssv.mode ≠ .off ∧
      (ran .launchDecision launching).lnu.rdL ≠ (fed .launchDecision launching).lnu.rdL ∧
      (fed .launchDecision launching).lnu.flight = none ∧ (ran .launchDecision launching).lnu.flight ≠ none :=
  ⟨step_fed_launchDecision launching, by decide +kernel⟩

/-- Cabin 14 past the gate, its launch not yet completed. -/
def leaving : State :=
  let s := withStation [entryIn .att] (place c14 .station running)
  { s with lnu := { s.lnu with flight := some ⟨0, c14, 7, 60000, true, false⟩ } }

theorem witness_AttPassageCompletesTheLaunch :
    leaving.loaded = true ∧ stands .att (entryIn .att) leaving = true ∧
      leaving.lnu.flight = some ⟨0, c14, 7, 60000, true, false⟩ ∧ (entryIn .att).id = 0 ∧
      (let other := fun e => withStation [e] leaving
       let u : StationEntry := { unknownIn .att with id := 9 }
       let c : StationEntry := { entryIn .att with id := 9 }
       stands .att u (other u) = true ∧ u.id ≠ 0 ∧ stands .att c (other c) = true ∧
         (after .attPassage (other u)).lnu.flight = leaving.lnu.flight ∧
         ((after .attPassage (other u)).cause .phantomArrival).latched = true ∧
         ((after .attPassage (other c)).cab c14).location = .unplaced ∧
         (withStation [] leaving).lists.station.find? (fun x => x.segment == .att) = none ∧
         ((after .attPassage (withStation [] leaving)).cause .stationSequence).latched = true ∧
         (∀ k, (leaving.counter k).notify = false) ∧ leaving.spt.notices.length < 16 ∧ up.ssv.mode ≠ .run) := by
  decide +kernel

theorem witness_UpLineGrowsOnlyByACompletedLaunch :
    step (fed .attPassage leaving) = .next (ran .attPassage leaving) ∧
      (∃ x ∈ (ran .attPassage leaving).lists.upLine, x.cabin = c14) ∧
      (∀ x ∈ (fed .attPassage leaving).lists.upLine, x.cabin ≠ c14) :=
  ⟨step_fed_attPassage leaving, by decide +kernel⟩

/-- The SWITCH away from the wanted end, a distance after the last arrival. -/
def throwing (d : Word32) : State :=
  let s := withDrive .switch { homeDrive with state := .atB } (atRd d running)
  { s with stu := { s.stu with wanted := some .line, lastArr := some 0 } }

theorem witness_SwitchThrowWaitsForTheClearance :
    (throwing 3000).loaded = true ∧ (throwing 3000).stu.wanted = some .line ∧
      (throwing 3000).dru.switch.state = .atB ∧
      (distance (throwing 3000).rmu.rd 0 = ((throwing 3000).pfs.working.switchClear : Int)) ∧
      distance (throwing 2999).rmu.rd 0 < ((throwing 2999).pfs.working.switchClear : Int) := by decide +kernel

theorem witness_EndInputTakesTheChannelState :
    (let toB := withDrive .gate { homeDrive with state := .toB, endA := ⟨false, 0⟩, strokeStart := some 0 } homed
     let fault := withDrive .gate { homeDrive with state := .fault } homed
     homed.loaded = true ∧ (homed.dru.get .gate).endLevel .b = !true ∧ (homed.dru.get .gate).endLevel .a = true ∧
       (homed.dru.get .gate).endLevel .a = !false ∧ (homed.dru.get .gate).state = atEnd .a ∧
       (homed.dru.get .opener).state = atEnd .a ∧
       (toB.dru.get .gate).endLevel .b = !true ∧ (toB.dru.get .gate).endLevel .a = false ∧
       (toB.dru.get .gate).state = toEnd .b ∧ (toB.dru.get .gate).task = none ∧
       (up.dru.get .gate).state = .unknown ∧ (up.dru.get .gate).endLevel .a = !true ∧
       (fault.dru.get .gate).state ≠ atEnd .a ∧ (fault.dru.get .gate).endLevel .a = !false) := by decide +kernel

/-- The RELEASE reaching END_B with a release in flight, and lost at END_A. -/
theorem witness_EndInputTakesTheChannelState_release :
    (let s := fun st b => withDrive .release { homeDrive with state := st, endA := ⟨b, 0⟩ }
       { atRd 5 homed with stu := { homed.stu with release := some ⟨c14, none⟩ } }
     (s .toB false).loaded = true ∧ ((s .toB false).dru.get .release).endLevel .b = !true ∧
       (after (.endInputChange .release .b true) (s .toB false)).stu.release = some ⟨c14, some 5⟩ ∧
       (after (.endInputChange .release .b true) (s .toB true)).stu.release = none ∧
       ((s .atA true).dru.get .release).endLevel .a = !false ∧
       (after (.endInputChange .release .a false) (s .atA true)).stu.release = none ∧
       (after (.endInputChange .release .b true) (s .unknown false)).stu.release = some ⟨c14, none⟩) := by decide +kernel

/-- A door channel on a stroke with a task for cabin 14. -/
def tasked (ch : Channel) (st : DriveState) (ph : TaskPhase) (retry : Nat) : State :=
  withDrive ch { DriveChannel.reset with state := st, strokeStart := some 0, retry := retry, task := some ⟨0, some c14, ph, 0⟩ }
    (place c14 .station running)

theorem witness_DoorTasksActAtTheirEnds :
    (let s := tasked .opener .toB .opening 0
     let c := tasked .closer .toB .closing 0
     let r := tasked .opener .toA .returning 0
     let v := fun n => tasked .closer .toA .reversing n
     (s.dru.get .opener).task = some ⟨0, some c14, .opening, 0⟩ ∧ (s.dru.get .opener).state = toEnd .b ∧
       (s.dru.get .opener).endA.level = false ∧ (s.dru.get .opener).endB.level = false ∧
       (s.cab c14).location = .station ∧ (c.dru.get .closer).state = toEnd .b ∧ s.loaded = true ∧
       ((after (.endInputChange .closer .b true) c).cab c14).door = .closed ∧
       (r.dru.get .opener).state = toEnd .a ∧ (v 1).dru.closer.retry < (v 1).pfs.working.doorRetries ∧
       (v 2).dru.closer.retry = (v 2).pfs.working.doorRetries ∧ ((v 2).dru.get .closer).state = toEnd .a) := by
  decide +kernel

theorem witness_DriveTimersExpire :
    (let s := fun ch ph => atMs 1500 (tasked ch .toB ph 0)
     let p := fun (rd : Word32) => atRd rd (atMs 400 (tasked .closer .atA (.pause 0) 0))
     let g := atMs 1500 (withDrive .gate { homeDrive with state := .toB, strokeStart := some 0 } leaving)
     (s .opener .opening).loaded = true ∧ ((s .opener .opening).dru.get .opener).state = .toB ∧
       ((s .opener .opening).dru.get .opener).strokeStart = some 0 ∧
       (s .opener .opening).pfs.working.strokeTime.get .opener = ((s .opener .opening).clock.ms - 0).toNat ∧
       ((s .closer .returning).dru.get .closer).state = .toB ∧ g.lnu.flight.isSome ∧
       (g.dru.get .gate).strokeStart = some 0 ∧
       (p 0).dru.closer.task = some ⟨0, some c14, .pause 0, 0⟩ ∧
       (p 0).pfs.working.retryPause = ((p 0).clock.ms - 0).toNat ∧ (p 0).dru.closer.state = .atA ∧
       (p 0).ssv.mode = .run ∧ distance (p 1200).rmu.rd 0 ≤ ((p 0).pfs.working.closerReach : Int) ∧
       ((p 0).pfs.working.closerReach : Int) < distance (p 60000).rmu.rd 0) := by decide +kernel

theorem witness_CurrentSampleSupervisesTheStroke :
    (let s := fun ch st n => withDrive ch { homeDrive with state := st, run := n } running
     (s .gate .toB 7).loaded = true ∧ (s .gate .toB 7).ssv.mode ≠ .off ∧ (s .gate .atA 0).dru.gate.moving = false ∧
       (s .gate .toB 7).dru.gate.moving = true ∧ (1536 * 8000 / 4096 = 3000) ∧
       (s .gate .toB 7).pfs.working.iLimit.get .gate = 3000 ∧ (s .gate .toB 7).pfs.working.iSamples = 7 + 1 ∧
       (after (.currentSample .gate 1536) (s .gate .toB 7)).dru.gate.state = .blocked ∧
       (after (.currentSample .gate 1536) (s .gate .toB 6)).dru.gate.run = 7 ∧
       (after (.currentSample .gate 1535) (s .gate .toB 7)).dru.gate.run = 0 ∧
       (after (.currentSample .closer 1536) (s .closer .toB 7)).dru.closer.state = .toA) := by decide +kernel

/-- The record channel of a state. -/
def withChan (f : RecordChannel → RecordChannel) (s : State) : State :=
  { s with lkc := { s.lkc with chan := f s.lkc.chan } }

/-- The receiver of a state. -/
def withRx (f : LinkRx → LinkRx) (s : State) : State := { s with lkc := { s.lkc with rx := f s.lkc.rx } }

/-- A cycle with a control word, message slots and a tower word, and its right check. -/
def cycle (control m4 m5 tower : Word16) : LineCycle :=
  Machine.LineCycle.withCheck
    { sync := 0xB4E2, control := control, voiceA := 0, voiceB := 0, msg4 := m4, msg5 := m5, tower := tower, check := 0 }

/-- The receiver is LOCKED and expects the number 3. -/
def locked : State := withRx (fun r => { r with sync := .locked, expected := some 3, outOfLock := none }) up

/-- A control word numbered 3 of a summit that permits the run, in RUN. -/
def good3 : Word16 := controlWord 3 true 0 false 0 0 2

/-- The bits of a good cycle without a message byte. -/
def soundBits (tower : Word16) : List RxBit := LineCycle.bits (cycle good3 0 0 tower)

/-- The bits of a good cycle with two message slots. -/
def slotBits (m4 m5 : Word16) : List RxBit := LineCycle.bits (cycle good3 m4 m5 0)

/-- A cycle with a code violation in its last bit. -/
def brokenBits : List RxBit := (soundBits 0).take 127 ++ [{ level := false, violation := true }]

/-- The candidate that bits begin with is sound, as the statements say it. -/
def soundCandidate (l : List RxBit) : Bool :=
  let x := RxCycle.ofBits l
  x.slots.sync == 0xB4E2 && x.slots.check == cycleCheck x.slots && !x.violation

theorem witness_OwnCycleCarriesTheSources :
    (let r : TxRecord := ⟨.text, [0x41], .host⟩
     let paused := withRx (fun x => { x with held := some (controlWord 0 true 0 true 0 0 2) }) up
     let q := withChan (fun x => { x with queue := [r] }) up
     let p := withChan (fun x => { x with priority := some r }) up
     let w := withChan (fun x => { x with queue := [r], progress := some ⟨false, 2⟩ }) up
     let long := withChan (fun x => { x with queue := [{ r with body := [1, 2, 3, 4] }], progress := some ⟨false, 2⟩ }) up
     let lk := locked
     State.reset.ssv.mode ≠ .off ∧ State.reset.loaded = false ∧ paused.applied.pause = true ∧
       up.lkc.chan.progress = none ∧ up.lkc.chan.priority = none ∧ up.lkc.chan.queue = [] ∧
       q.loaded = true ∧ q.applied.pause = false ∧ q.lkc.chan.progress = none ∧ q.lkc.chan.queue = r :: [] ∧
       p.lkc.chan.priority = some r ∧ w.lkc.chan.progress = some ⟨false, 2⟩ ∧ 2 + 1 = r.body.length + 2 ∧
       (after .lineCycleTransmit w).lkc.txCycle.msg4 = 0xC041 ∧ (after .lineCycleTransmit w).lkc.chan.queue = [] ∧
       long.lkc.chan.progress = some ⟨false, 2⟩ ∧ (after .lineCycleTransmit long).lkc.txCycle.msg5 = 0x8002 ∧
       (after .lineCycleTransmit (after .lineCycleTransmit long)).lkc.txCycle.msg5 = 0xC004 ∧
       (after .lineCycleTransmit q).lkc.txCycle.msg4 = 0x8041 ∧ up.lkc.ownNext = 0 ∧
       (after .lineCycleTransmit up).lkc.ownNext ≠ 0 ∧ lk.lkc.rx.sync = .locked ∧ up.lkc.rx.sync ≠ .locked) := by
  decide +kernel

/-- A waiting census request, and a text in the priority slot whose last byte goes next. -/
def emptying : State :=
  withChan (fun x => { x with priority := some ⟨.text, [0x41], .host⟩, progress := some ⟨true, 2⟩ })
    { up with ltu := { up.ltu with wait := some ⟨0, false⟩ } }

/-- R146 in both orders: the emptied slot takes the census request at the event, or is left to the host's text that is
taken next and fills it; the request then waits for the slot. A text that would be refused, or that stands behind
another command, leaves no slot empty. -/
theorem test_emptied_slot :
    (let text := Instr.sendPriorityText 1 [0x42]
     let first := after .lineCycleTransmit { emptying with pending := [text] }
     let last := after .lineCycleTransmit { emptying with pending := [.tallySample, text] }
     let long := after .lineCycleTransmit { emptying with pending := [.sendPriorityText 1 (List.replicate 16 0x42)] }
     (emptying.ltu.wait.map CensusWait.placed) = some false ∧
       ((after .lineCycleTransmit emptying).ltu.wait.map CensusWait.placed) = some true ∧
       (last.ltu.wait.map CensusWait.placed) = some true ∧ (long.ltu.wait.map CensusWait.placed) = some true ∧
       first.lkc.chan.priority = none ∧ (first.ltu.wait.map CensusWait.placed) = some false ∧
       (after text first).lkc.chan.priority = some ⟨.text, [0x42], .host⟩ ∧
       (after text last).lkc.chan.priority = some ⟨.censusRequest, [], .part⟩) := by decide +kernel

/-- The bits of a rejected candidate are searched again from its next bit, and a receiver that leaves LOCKED searches
those of the bad cycle (R124, R127). -/
theorem test_bits_are_searched_again :
    (let junk : List RxBit := (soundBits 0).take 60
     let s := after (.syncCandidate ((soundBits 0).take 68)) (after (.syncCandidate junk) up)
     let t := after (.syncCandidate ((soundBits 0).drop 68)) s
     let last := withRx (fun r => { r with badRun := 15 }) locked
     let shifted := after (.badCycle (⟨true, false⟩ :: (soundBits 0).take 127)) last
     s.lkc.rx.sync = .hunt ∧ s.lkc.rx.bits.length = 127 ∧ t.lkc.rx.sync = .confirm ∧ t.lkc.rx.bits = [] ∧
       shifted.lkc.rx.sync = .hunt ∧ shifted.lkc.rx.bits = (soundBits 0).take 127 ∧
       (after (.syncCandidate ((soundBits 0).drop 127)) shifted).lkc.rx.sync =
         .confirm) := by decide +kernel

/-- A silent line lets a LOCKED receiver take a bad cycle 125 µs after the boundary, and no sooner (R126). -/
theorem test_silent_line :
    (let at' := fun (us : Word32) => { locked with clock := { locked.clock with timebase := us } }
     (at' 124).silentCycleDue = false ∧ (at' 125).silentCycleDue = true ∧
       (after (.badCycle (at' 125).silentBits) (at' 125)).lkc.rx.badRun = 1 ∧
       (after (.badCycle (at' 125).silentBits) (at' 125)).silentCycleDue = false ∧
       State.silentCycleDue { at' 125 with pins := { up.pins with lineSilent := false } } = false) := by decide +kernel

/-- The tower table with one entry changed. -/
def withTower (i : Nat) (e : TowerEntry) (s : State) : State :=
  { s with lkc := { s.lkc with towers := { s.lkc.towers with entries := s.lkc.towers.entries.set i e } } }

theorem witness_StaleTowerIsSilent :
    (let s := fun i => withTower i ⟨.centre, 1001, 4, none⟩ up
     (s 0).loaded = true ∧ (s 0).lkc.towers.entries[(0 : Fin 40).val]? = some ⟨.centre, 1001, 4, none⟩ ∧
       (s 17).lkc.towers.entries[(17 : Fin 40).val]? = some ⟨.centre, 1001, 4, none⟩ ∧
       (s 17).pfs.working.towerStale + 1 = 1001) := by decide +kernel

theorem witness_CensusRequestIsPlacedAndExpires :
    (let s := fun p => atMs 2000 { up with ltu := { up.ltu with wait := some ⟨0, p⟩ } }
     let busy := withChan (fun x => { x with priority := some ⟨.text, [1], .host⟩ }) (s false)
     (s false).loaded = true ∧ (s false).ltu.wait = some ⟨0, false⟩ ∧ (s false).lkc.chan.priority = none ∧
       (s true).ltu.wait = some ⟨0, true⟩ ∧ busy.lkc.chan.priority.isSome ∧
       (s true).pfs.working.censusWait = ((s true).clock.ms - 0).toNat) := by decide +kernel

theorem witness_FourSoundCyclesLockTheReceiver :
    (let confirm := fun n => withRx (fun r => { r with sync := .confirm, confirm := n }) up
     soundCandidate (soundBits 0) = true ∧ soundCandidate brokenBits = false ∧ (soundBits 0).length = 128 ∧
       brokenBits.length = 128 ∧ up.loaded = true ∧ up.lkc.rx.sync = .hunt ∧ up.lkc.rx.bits = [] ∧
       (confirm 2).lkc.rx.sync = .confirm ∧ (confirm 2).lkc.rx.bits = [] ∧
       (confirm 2).lkc.rx.confirm < 3 ∧ (confirm 3).lkc.rx.confirm = 3 ∧ (confirm 3).ltu.censusDue = true ∧
       (after (.confirmCycle (soundBits 0)) (confirm 3)).lkc.rx.sync = .locked ∧
       (after (.confirmCycle brokenBits) (confirm 3)).lkc.rx.sync = .hunt) := by decide +kernel

/-- The relock of R162: under LINK_LOST the code applied before is IDLE, and a summit that still seizes channel A, as its
held word said already, rings it again; without LINK_LOST the unchanged code is no event. -/
theorem witness_FourSoundCyclesLockTheReceiver_rings :
    (let seizing : Word16 := controlWord 3 true 0 false 1 0 2
     let s := withRx (fun r => { r with sync := .confirm, confirm := 3, held := some seizing }) up
     let lost := reportActive .linkLost .absent s
     let t := after (.confirmCycle (LineCycle.bits (cycle seizing 0 0 0)))
     lost.loaded = true ∧ lost.active .linkLost = true ∧ s.active .linkLost = false ∧ lost.lkc.rx.sync = .confirm ∧
       (LineCycle.bits (cycle seizing 0 0 0)).length = 128 ∧ lost.lkc.rx.bits = [] ∧
       (t lost).phn.a.state = .ringing ∧ (t lost).phn.a.last = some .incoming ∧ (t lost).phn.b.state = .idle ∧
       (t s).phn.a.state = .idle) := by decide +kernel

theorem witness_GoodCycleIsApplied :
    (let x := fun tower => RxCycle.ofBits (soundBits tower)
     locked.loaded = true ∧ locked.lkc.rx.sync = .locked ∧ (locked.lkc.rx.bits ++ soundBits 0).length = 128 ∧
       (x 0).slots.sync = 0xB4E2 ∧ (x 0).slots.check = cycleCheck (x 0).slots ∧ (x 0).violation = false ∧
       locked.lkc.rx.expected = some (ctlNumber (x 0).slots.control) ∧ locked.active .linkLost = false ∧
       ((x 0).slots.tower.extractLsb' 10 6).toNat = 0 ∧
       ((x (19 * 1024)).slots.tower.extractLsb' 10 6).toNat = 19 ∧ locked.lkc.towers.entries.length = 18 ∧
       ((x (18 * 1024 + 1)).slots.tower.extractLsb' 10 6).toNat = 18 ∧
       (locked.lkc.towers.entries[18 - 1]?).isSome ∧ (towerState (x (18 * 1024 + 1)).slots.tower).isSome ∧
       slotPresent (x 0).slots.msg4 = false ∧ slotPresent (x 0).slots.msg5 = false) := by decide +kernel

/-- Bytes of a record taken already, damaged or not. -/
def taking (bytes : List Byte) (damaged : Bool) (s : State) : State :=
  withChan (fun r => { r with assembly := some ⟨bytes, damaged, false⟩ }) s

/-- The end of a record of one body byte, 14, behind bytes taken already. -/
def ending (bytes : List Byte) (s : State) : State :=
  after (.goodCycle (slotBits (slotOf 14 true) 0)) (taking bytes false s)

/-- The records of R103 to R106, R116 and R149 with cabin 14, and the ends that are none. -/
theorem witness_GoodCycleIsApplied_records :
    (let line := fun l => placedAt l locked
     let x := RxCycle.ofBits (slotBits (slotOf 14 true) 0)
     let texts := withChan (fun r => { r with texts := [List.replicate 48 0x41, List.replicate 12 0x41] }) locked
     x.slots.sync = 0xB4E2 ∧ x.slots.check = cycleCheck x.slots ∧ x.violation = false ∧
       locked.lkc.rx.expected = some (ctlNumber x.slots.control) ∧
       slotPresent x.slots.msg4 = true ∧ slotEnd x.slots.msg4 = true ∧ slotPresent x.slots.msg5 = false ∧
       (line .upLine).placed ∧ (ending [0x21, 1] (line .upLine)).lists.summit = [⟨c14, 0⟩] ∧
       ((ending [0x21, 1] (line .upLine)).cause .early).latched = true ∧
       (ending [0x22, 1] (line .summit)).lists.downLine = [⟨c14, 0⟩] ∧
       ((ending [0x21, 1] (line .storage)).cause .lineRecordConflict).latched = true ∧
       (ending [0x32, 2, 1] (line .lost)).lists.summit = [⟨c14, 0⟩] ∧
       (after (.goodCycle (slotBits (slotOf 0x32 false) (slotOf 1 false))) (line .summit)).lkc.chan.assembly.isSome ∧
       (after (.goodCycle (slotBits (slotOf 0 true) 0)) (taking [0x32, 1] false (line .summit))).lists.downLine =
         [⟨c14, 0⟩] ∧
       (ending [0x41, 1] locked).lkc.chan.texts = [[14]] ∧
       ((ending [0x23, 1] locked).cause .lineRecordBad).latched = true ∧
       (taking [0x41, 2] false texts).lkc.chan.fill = 66 ∧
       ((after (.goodCycle (slotBits (slotOf 1 false) 0)) texts).cause .lineOverrun).latched = true ∧
       (after (.goodCycle (slotBits (slotOf 1 false) 0)) (taking (List.replicate 50 0) true locked)).lkc.chan.dropped =
         1) := by
  unfold State.placed; decide +kernel

theorem witness_BadCycleIsCountedAndUnlocks :
    (let s := fun n => withRx (fun r => { r with badRun := n }) locked
     (s 14).loaded = true ∧ (s 14).lkc.rx.sync = .locked ∧ (RxCycle.ofBits brokenBits).violation = true ∧
       ((s 14).lkc.rx.bits ++ brokenBits).length = 128 ∧ ((s 14).lkc.rx.bits ++ brokenBits.take 127).length < 128 ∧
       (s 14).lkc.rx.badRun + 1 < 16 ∧ (s 15).lkc.rx.badRun + 1 = 16 ∧
       (after (.goodCycle brokenBits) (s 15)).lkc.rx.sync = .hunt) := by decide +kernel

theorem witness_LinkLossStopsTheRope :
    (let s := atMs 100 up
     let far := { s with phn := { s.phn with a := { s.phn.a with farCode := .clear } } }
     far.lkc.rx.outOfLock = some 0 ∧ (far.call .a).state = .idle ∧ (after .linkLossExpiry far).call .a = far.call .a ∧
     s.loaded = true ∧ s.stopsFollow ∧ s.lkc.rx.outOfLock = some 0 ∧ s.active .linkLost = false ∧
       s.pfs.working.linkLossMs = (s.clock.ms - 0).toNat ∧
       (after .linkLossExpiry s).active .linkLost = true) := by
  unfold State.stopsFollow; decide +kernel

/-- Channel A in a state of a call. -/
def calling (st : CallState) (k : TimerKind) (far : CallCode) (ms : Word32) : State :=
  atMs ms { up with phn := { up.phn with a := { up.phn.a with state := st, timer := some ⟨k, 0⟩, farCode := far } } }

/-- Channel A in a state of a call when a good cycle brings a far code; the code applied before it was ALERT. -/
def farCoded (st : CallState) (far : CallCode) (code : BitVec 3) : State :=
  let bits := LineCycle.bits (cycle (controlWord 3 true 0 false code 0 2) 0 0 0)
  after (.goodCycle bits) (withRx (fun r => { r with held := some (controlWord 2 true 0 false 2 0 2) })
    { locked with phn := (calling st .ring far 0).phn })

/-- The rows of Table 9-5 with a far code, an undefined code, an unchanged one, and one that is in effect already. -/
theorem witness_FarCodesTimersAndVoiceFrames_codes :
    (let bits := LineCycle.bits (cycle (controlWord 3 true 0 false 1 0 2) 0 0 0)
     let x := RxCycle.ofBits bits
     let goes := fun st far code => ((farCoded st far code).call .a).state
     (locked.lkc.rx.bits ++ bits).length = 128 ∧ x.slots.sync = 0xB4E2 ∧ x.slots.check = cycleCheck x.slots ∧
       x.violation = false ∧ locked.lkc.rx.expected = some (ctlNumber x.slots.control) ∧
       locked.active .linkLost = false ∧ locked.spt.notices.length ≤ 8 ∧
       goes .idle .idle 1 = .ringing ∧ goes .idle .seize 1 = .idle ∧ goes .seizing .idle 1 = .ringing ∧
       goes .seizing .alert 3 = .connected ∧ goes .seizing .idle 2 = .seizing ∧ goes .ringback .alert 0 = .idle ∧
       goes .ringing .seize 4 = .idle ∧ goes .connected .answer 0 = .idle ∧ goes .clearing .seize 0 = .idle ∧
       goes .clearing .seize 3 = .clearing ∧ goes .ringing .seize 5 = .ringing ∧
       ((farCoded .ringing .seize 5).call .a).undefined = 1 ∧ ((farCoded .ringing .seize 7).call .a).farCode = .seize) := by
  decide +kernel

theorem witness_FarCodesTimersAndVoiceFrames :
    (calling .seizing .seize .idle 500).loaded = true ∧
      ((calling .seizing .seize .idle 500).call .a).timer = some ⟨.seize, 0⟩ ∧
      ((calling .seizing .seize .idle 500).call .a).state ≠ .connected ∧
      ((calling .seizing .seize .idle 500).clock.ms - 0).toNat = 500 ∧
      ((calling .ringing .ring .seize 30000).call .a).timer = some ⟨.ring, 0⟩ ∧
      (calling .ringing .ring .seize 30000).pfs.working.ringTime * 1000 = 30000 ∧
      ((calling .clearing .guard .seize 100).call .a).timer = some ⟨.guard, 0⟩ ∧
      ((calling .clearing .guard .seize 100).call .a).farCode = .seize ∧
      ((calling .clearing .guard .idle 100).call .a).farCode ≠ .seize := by decide +kernel

theorem witness_serving : up.serving ∧ running.serving ∧ up.stopsFollow ∧ running.stopsFollow := by
  unfold State.serving State.stopsFollow; decide +kernel

theorem witness_CallRequestsMoveTheCall :
    (let s := fun st => calling st .ring .seize 0
     let lost := after .linkLossExpiry (atMs 100 up)
     up.serving ∧ (up.call .a).state = .idle ∧ up.active .linkLost = false ∧ (s .ringing).serving ∧
       ((s .ringing).call .a).state = .ringing ∧ ((s .clearing).call .a).state = .clearing ∧
       lost.serving ∧ lost.active .linkLost = true ∧ 2 ≤ (2 : Byte).toNat ∧
       (after (.endCall 1 [0]) (s .ringing)).phn.a.state = .clearing) := by
  unfold State.serving; decide +kernel

/-- A part with a cause latched, and inactive again. -/
def latched (c : Cause) (s : State) : State :=
  let t := raiseEvent c .absent s
  { t with spt := { t.spt with notices := [] } }

/-- A part with a cause active. -/
def standing (c : Cause) (s : State) : State := reportActive c .absent s

theorem witness_AcknowledgementsAndHostStops :
    (let act := standing .slip up
     let rest := latched .ropeDerail up
     let mov := atSpeed 1000 rest
     let stop := after (.hostStop 1 [3]) up
     up.serving ∧ up.stopsFollow ∧ act.serving ∧ act.stopsFollow ∧ act.active .slip = true ∧ rest.serving ∧
       rest.stopsFollow ∧ (rest.cause .ropeDerail).standing = true ∧ rest.active .ropeDerail = false ∧
       Cause.category .ropeDerail = .emergency ∧ mov.serving ∧ mov.stopsFollow ∧ mov.atRest = false ∧
       Cause.ofNumber 3 = some .ropeDerail ∧ (up.cause .slip).standing = false ∧ stop.active .hostStopSvc = true ∧
       stop.serving ∧ stop.stopsFollow ∧ ((after (.ackCause 1 [3]) rest).cause .ropeDerail).latched = false) := by
  unfold State.serving State.stopsFollow; decide +kernel

theorem step_fed_ackCause (s : State) (b : List Byte) : step (fed (.ackCause 1 b) s) = .next (ran (.ackCause 1 b) s) := rfl

theorem step_fed_liftRestriction (s : State) :
    step (fed (.liftRestriction 1 []) s) = .next (ran (.liftRestriction 1 []) s) := rfl

/-- RESTRICTED is set, with no cause latched. -/
def restricted : State := { up with ssv := { up.ssv with restricted := true } }

theorem witness_RestrictedChangesByAckLiftAndPowerOn :
    step (fed (.ackCause 1 [46]) (latched .towerSilent up)) = .next (ran (.ackCause 1 [46]) (latched .towerSilent up)) ∧
      step (fed (.liftRestriction 1 []) restricted) = .next (ran (.liftRestriction 1 []) restricted) ∧
      (latched .towerSilent up).ssv.restricted = false ∧
      (ran (.ackCause 1 [46]) (latched .towerSilent up)).ssv.restricted = true ∧
      (ran (.liftRestriction 1 []) restricted).ssv.restricted = false :=
  ⟨step_fed_ackCause _ _, step_fed_liftRestriction _, by decide +kernel⟩

theorem witness_HostIsSupervised :
    (let s := atMs 2000 up
     let p := { up with ssv := { up.ssv with deadline := some ⟨0, false⟩ } }
     up.serving ∧ up.ssv.mode = .service ∧ running.serving ∧ running.ssv.mode = .run ∧ s.loaded = true ∧
       s.stopsFollow ∧ s.ssv.deadline = some ⟨0, true⟩ ∧ s.active .hostSilent = false ∧
       (s.clock.ms - 0).toNat = 2000 ∧ p.ssv.deadline = some ⟨0, false⟩ ∧
       ((atMs 500 p).clock.ms - 0).toNat = p.pfs.working.hkPeriod) := by
  unfold State.serving State.stopsFollow; decide +kernel

theorem witness_ModeAndRestrictionFollowTheirChecks :
    (let start := { State.reset with loaded := true }
     let slow := atSpeed 1 running
     up.serving ∧ up.stopsFollow ∧ up.ssv.mode = .service ∧ up.pfs.commit = none ∧
       homed.spt.notices.length ≤ 13 ∧ running.spt.notices.length ≤ 13 ∧
       up.dru.opener.state ≠ .atA ∧ homed.serving ∧ homed.stopsFollow ∧ homed.ssv.mode = .service ∧
       homed.pfs.status = .valid ∧ homed.drivesHome = true ∧
       (∀ c ∈ Cause.all, c.category = .emergency → (homed.cause c).latched = false) ∧
       running.serving ∧ running.ssv.mode = .run ∧ running.atRest = true ∧ slow.serving ∧ slow.stopsFollow ∧
       slow.ssv.mode = .run ∧ slow.atRest = false ∧ start.serving ∧ start.stopsFollow ∧ start.ssv.mode = .start) := by
  unfold State.serving State.stopsFollow; decide +kernel

theorem witness_ModeAndRestrictionFollowTheirChecks_restricted :
    (let lifted := latched .slip restricted
     committing.serving ∧ committing.stopsFollow ∧ committing.pfs.commit.isSome ∧ up.ssv.restricted = false ∧
       lifted.serving ∧ lifted.stopsFollow ∧ lifted.ssv.restricted = true ∧ (lifted.cause .slip).latched = true ∧
       restricted.serving ∧ restricted.stopsFollow ∧ restricted.ssv.restricted = true ∧ restricted.atRest = true ∧
       (∀ c ∈ Cause.all, c.category = .service ∨ c.category = .emergency → (restricted.cause c).latched = false)) := by
  unfold State.serving State.stopsFollow; decide +kernel

/-- A counter set in a part that is up. -/
def counting (r : Counter) : State := putCounter 0 r up

/-- An enabled counter of the storage of the receive store, by its edge. -/
def fillCounter : Counter :=
  { Counter.reset with enable := true, source := .rxStoreFill, threshold := 1, invert := true, edge := true }

theorem witness_TallySampleAddsItsLevels :
    (let m := counting { fillCounter with member := true }
     let f := { m with tal := { m.tal with frozen := true } }
     let t := putCounter 1 { fillCounter with trigger := true, value := 4294967295 } m
     (f.counter 0).member = true ∧ f.tal.frozen = true ∧ (after .tallySample f).tal.frozen = true ∧
       (t.counter 1).trigger = true ∧ t.tal.frozen = false ∧ (t.counter 1).member = false ∧
       (after .tallySample t).tal.frozen = true ∧ ((after .tallySample t).counter 1).overflow = true ∧
       ((after .tallySample t).counter 1).value = 0) ∧
      (counting fillCounter).loaded = true ∧ (up.counter 0).enable = false ∧
      ((counting fillCounter).counter 0).enable = true ∧ ((counting fillCounter).counter 0).member = false ∧
      ((after .tallySample (counting fillCounter)).counter 0).value = 1 ∧
      ((after .tallySample (after .tallySample (counting fillCounter))).counter 0).value = 1 := by decide +kernel

theorem witness_TallyRequestsSetCounters :
    (let s := counting { Counter.reset with trigger := true, overflow := true }
     let set := fun fields => after (.setTally 1 fields) up
     up.serving ∧ s.serving ∧ ((set [1, 1, 14, 255, 0, 1, 0, 0, 0]).counter 0).threshold = 255 ∧
       ((set [1, 1, 14, 255, 0, 1, 0, 0, 0]).counter 0).source = .speedDm ∧
       set [1, 1, 15, 5, 0, 1, 0, 0, 0] = up.answered (replyIs 0x26 1 .badValue []) ∧
       set [1, 1, 14, 5, 0, 1, 0, 0, 2] = up.answered (replyIs 0x26 1 .badValue []) ∧ (s.counter 0).trigger = true ∧
       (s.counter 0).overflow = true ∧ (0 : Byte).toNat = 0 ∧ 8 < (9 : Byte).toNat ∧
       (∀ j : CounterIx, (up.counter j).trigger = true → (up.counter j).overflow = false)) := by
  unfold State.serving; decide +kernel

theorem step_fed_writeTally (s : State) (b : List Byte) :
    step (fed (.writeTally 1 b) s) = .next (ran (.writeTally 1 b) s) := rfl

theorem witness_HeldCountersStand :
    step (fed (.writeTally 1 [1, 0, 0, 0, 9]) up) = .next (ran (.writeTally 1 [1, 0, 0, 0, 9]) up) ∧
      (ran (.writeTally 1 [1, 0, 0, 0, 9]) up).ssv.mode ≠ .off ∧ ((fed (.writeTally 1 [1, 0, 0, 0, 9]) up).counter 0).enable = false ∧
      ((ran (.writeTally 1 [1, 0, 0, 0, 9]) up).counter 0).value ≠
        ((fed (.writeTally 1 [1, 0, 0, 0, 9]) up).counter 0).value :=
  ⟨step_fed_writeTally _ _, by decide +kernel⟩

theorem witness_UnservedRequestsChangeNothing :
    (let stopped := after (.resetPart 1 []) up
     let fullQ := { up with spt := { up.spt with replies := List.replicate 4 (.held 1) } }
     held.ssv.mode = .off ∧ stopped.spt.stopped = true ∧ up.ssv.mode ≠ .off ∧ up.spt.stopped = false ∧
       fullQ.spt.replies.length = 4 ∧ up.spt.replies.length < 4 ∧
       requestParts (.setMode 1 []) = some (0x24, 1, []) ∧ tableLength 0x24 = some 1 ∧
       requestParts (.setMode 1 [2]) = some (0x24, 1, [2]) ∧ State.reset.loaded = false ∧
       (∀ n ∈ [0x33, 0xFF], 0x32 < BitVec.toNat (n : Byte))) := by decide +kernel

theorem witness_ReadsAnswerAndChangeNothing :
    (let s := { up with lists := { up.lists with storage := [c14] } }
     up.serving ∧ s.serving ∧ (1 : Byte).toNat = 1 ∧ (96 : Byte).toNat = 96 ∧
       (1 : Byte).toNat ≤ s.lists.storage.length ∧ 1 ≤ (24 : Byte).toNat ∧
       (18 : Byte).toNat = up.lkc.towers.entries.length ∧
       (0 : Byte).toNat ≤ Cause.all.countP (fun c => (up.cause c).standing) ∧
       Param.ofNumber 1 0 = some .mwStepUm ∧ Param.ofNumber 50 0 = some .hkWindow) := by
  unfold State.serving; decide +kernel

theorem witness_RepliesGoBeforeNotices :
    (let r : Reply := ⟨0xA4, 1, .ok, [], false⟩
     let s := { up with spt := { up.spt with replies := [.held 1, .ready r] } }
     let n := { up with spt := { up.spt with replies := [.held 1], notices := [⟨0, .linkState .hunt false 0⟩] } }
     let none' := { up with spt := { up.spt with notices := [] } }
     let sent := { s with spt := { s.spt with tx := some ⟨[], false, 0⟩ } }
     up.ssv.mode ≠ .off ∧ up.spt.tx = none ∧ sent.spt.tx = some ⟨[], false, 0⟩ ∧
       s.spt.replies = [.held 1] ++ ReplyEntry.ready r :: [] ∧ n.spt.notices = ⟨0, .linkState .hunt false 0⟩ :: [] ∧
       n.spt.replies = [.held 1] ∧ none'.spt.replies = [] ∧ none'.spt.notices = []) := by decide +kernel

theorem witness_BadFramesAreCounted :
    (let a := { up with spt := { up.spt with rx := .assembling [5] } }
     up.ssv.mode ≠ .off ∧ up.spt.stopped = false ∧ up.spt.rx = .hunting ∧ a.spt.rx = .assembling [5] ∧
       (0xD5 : Byte) ∉ [(0x00 : Byte), 0xFF] ∧ (1 : Byte).toNat < 2 ∧ 250 < (251 : Byte).toNat ∧
       (let l : List Byte := [0x2C, 1, 0, 0]
        (2 : Byte).toNat + 2 ≤ l.length ∧ (0xD5 : Byte) ∉ l ∧
          (l.drop (2 : Byte).toNat).take 2 ≠ wordBytes (crc16 (2 :: l.take (2 : Byte).toNat))) ∧
       [(0x2C : Byte), 1, 0].length < (2 : Byte).toNat + 2 ∧
       (after (.badFrame [0xD5, 1]) up).spt.badFrames = 1) := by decide +kernel

theorem witness_FramesAreTakenAsTheirRequests :
    (let cut := { up with spt := { up.spt with rx := .assembling [3, 0x24] } }
     let f := frameBytes 0x24 1 [2]
     requestParts (.setMode 1 [2]) = some (0x24, 1, [2]) ∧ up.spt.rx.bytes ++ f = f ∧
       cut.spt.rx.bytes ++ f.drop 3 = f ∧ (List.replicate 248 (0 : Byte)).length ≤ 248 ∧
       (after (.badFrame (f.drop 3)) cut).spt.replies = (after (.setMode 1 [2]) cut).spt.replies) := by decide +kernel

theorem witness_CommitFixesAndStoresTheProfile :
    (let p := up.pfs.working
     let worn := { up with pfs := { up.pfs with writes := 20000 } }
     let bad := { up with pfs := { up.pfs with working := { p with gripMin := p.gripMax } } }
     let own := after .profileLoad { State.reset with resetCause := .profileRestore }
     up.serving ∧ up.ssv.mode = .service ∧ up.pfs.commit = none ∧ (p.gripMin < p.gripMax ∧ p.tensionLoLim < p.tensionLo ∧
       p.tensionLo < p.tensionHi ∧ p.tensionHi < p.tensionHiLim ∧ p.tensionHiLim ≤ p.tensionSpan ∧
       p.vInspect ≤ p.vRestrict ∧ p.vRestrict ≤ p.vMax ∧ p.switchClear ≤ p.spacing) ∧ up.pfs.writes < 20000 ∧
       worn.serving ∧ worn.pfs.writes = 20000 ∧ bad.serving ∧ ¬bad.pfs.working.gripMin < bad.pfs.working.gripMax ∧
       (committing.pfs.commit.map Commit.tag) = some (some 1) ∧ committing.spt.replies = [] ++ ReplyEntry.held 1 :: [] ∧
       (own.pfs.commit.map Commit.tag) = some none ∧
       (after (.commitCompletion true) committing).pfs.status = .valid ∧
       running.serving ∧ running.ssv.mode ≠ .service ∧ committing.serving ∧ committing.ssv.mode = .service ∧
       committing.pfs.commit.isSome) := by
  unfold State.serving; decide +kernel

theorem witness_WorkingProfileTakesItsValues :
    up.serving ∧ running.serving ∧ running.ssv.mode ≠ .service ∧ committing.serving ∧ committing.pfs.commit.isSome ∧
      up.ssv.mode = .service ∧ up.pfs.commit = none ∧ Param.ofNumber 1 0 = some .mwStepUm ∧
      Param.mwStepUm.lo ≤ be32 0 0 3 232 ∧ be32 0 0 3 232 ≤ Param.mwStepUm.hi up.pfs.working ∧
      be32 0 0 0 0 < Param.mwStepUm.lo ∧ Param.mwStepUm.hi up.pfs.working < be32 255 0 0 0 := by
  unfold State.serving; decide +kernel

theorem witness_ResetPartStopsTheReceiver :
    up.serving ∧ up.pfs.commit = none ∧ committing.serving ∧ committing.pfs.commit.isSome ∧
      (requestParts (.identify 1 [])).isSome := by
  unfold State.serving; decide +kernel

theorem witness_RegistrationAndServiceCounts :
    (let s := fun l => place c14 l up
     up.serving ∧ running.serving ∧ running.ssv.mode ≠ .service ∧ committing.serving ∧ committing.ssv.mode = .service ∧
       committing.pfs.commit.isSome ∧ (up.cab c14).registered = false ∧ (s .withdrawn).serving ∧
       ((s .withdrawn).cab c14).registered = true ∧ ((s .withdrawn).cab c14).location = .withdrawn ∧
       ((s .unplaced).cab c14).location = .unplaced ∧ (s .storage).serving ∧ ((s .storage).cab c14).location = .storage ∧
       ((s .lost).cab c14).location = .lost ∧
       (0 : Byte).toNat = 0 ∧ 96 < (97 : Byte).toNat ∧
       ((after (.registerCabin 1 [14, 1, 2]) up).cab c14).launches = 258) := by
  unfold State.serving; decide +kernel

theorem witness_CabinsAreMovedByHand :
    (let s := fun l => place c14 l up
     let b := withStation [⟨0, .unidentified .pass 13183, .grp, 0, false⟩] (s .lost)
     let st := { s .storage with lists := { up.lists with storage := [2, c14] } }
     st.serving ∧ (st.cab c14).registered = true ∧ (st.cab c14).location = .storage ∧ st.lnu.flight = none ∧
       st.stu.release = none ∧ st.lists.storage.head? ≠ some c14 ∧ (s .unplaced).ssv.mode = .service ∧
       ((s .unplaced).cab c14).location = .unplaced ∧ (s .upLine).serving ∧ ((s .upLine).cab c14).location = .upLine ∧
       b.serving ∧ b.lists.station[(0 : Byte).toNat]? = some ⟨0, .unidentified .pass 13183, .grp, 0, false⟩ ∧
       (b.cab c14).location = .lost ∧ ((after (.bindEntry 1 [0, 14]) b).cab c14).force = 13183) := by
  unfold State.serving; decide +kernel

/-- An overdue head declared lost: its record goes with it, and the cabin behind it is judged at once. -/
theorem witness_CabinsAreMovedByHand_overdue :
    (let s := atRd 2420001 (place 2 .upLine (placedAt .upLine locked))
     let s := standing .overdueUp { s with
       lists := { s.lists with upLine := [⟨c14, 0⟩, ⟨2, 0⟩] }, ltu := { s.ltu with overUp := some c14 } }
     let behind := fun rd => after (.declareLost 1 [14]) { s with lists := { s.lists with upLine := [⟨c14, 0⟩, ⟨2, rd⟩] } }
     s.serving ∧ (s.cab c14).registered = true ∧ (s.cab c14).location = .upLine ∧ s.upChecked ∧
       (behind 0).ltu.overUp = some 2 ∧ (behind 0).active .overdueUp = true ∧
       (behind 1).ltu.overUp = none ∧ (behind 1).active .overdueUp = false ∧
       (after (.withdrawCabin 1 [3]) s).ltu.overUp = some c14) := by
  unfold State.serving State.upChecked; decide +kernel

theorem witness_StationRequestsStartStrokes :
    (let sw := withDrive .switch { homeDrive with state := .atB } homed
     let f := withDrive .gate { homeDrive with state := .fault, endA := ⟨false, 0⟩ } homed
     let st := { homed with lists := { homed.lists with storage := [c14] } }
     homed.serving ∧ homed.ssv.mode = .service ∧ homed.stu.lastArr = none ∧ homed.dru.switch.state = .atA ∧
       sw.dru.switch.state = .atB ∧ homed.dru.opener.task = none ∧ homed.stu.release = none ∧ homed.lnu.flight = none ∧
       (homed.dru.get .gate).state = .atA ∧ (f.dru.get .gate).state = .fault ∧ (f.dru.get .gate).endA.level = false ∧
       st.serving ∧ st.lists.storage = c14 :: [] ∧ st.dru.release.state = .atA ∧
       (∀ x ∈ st.lists.station, x.segment ≠ .opn)) := by
  unfold State.serving; decide +kernel

theorem exec_powerOn_next (s : State) : exec .powerOn s = .next (after .powerOn s) := rfl

theorem witness_HostHoldHoldsLaunches :
    (running.serving ∧ running.stopsFollow ∧ leaving.serving ∧ leaving.stopsFollow ∧ leaving.lnu.flight.isSome ∧
        (after .powerOn running).ssv.mode = .off) ∧
      exec .powerOn running = .next (after .powerOn running) :=
  ⟨by unfold State.serving State.stopsFollow; decide +kernel, exec_powerOn_next running⟩

/-- A step from a state under the host hold: a candidate that meets every other condition is held. -/
theorem witness_HostHoldHoldsLaunches_step :
    (let s := after (.holdLaunches 1 []) launching
     s.stopsFollow ∧ s.lnu.hostHold = true ∧ s.active .hostHold = true ∧ s.lnu.flight = none ∧
       (after .launchDecision s).lnu.hostHold = true ∧ (after .launchDecision s).lnu.flight = none ∧
       (after .launchDecision launching).lnu.flight ≠ none) ∧
      step (fed .launchDecision (after (.holdLaunches 1 []) launching)) =
        .next (ran .launchDecision (after (.holdLaunches 1 []) launching)) :=
  ⟨by unfold State.stopsFollow; decide +kernel, step_fed_launchDecision _⟩

theorem witness_TextsAreQueuedAndRead :
    (let text : List Byte := List.replicate 48 0x41
     let q := withChan (fun r => { r with queue := [⟨.text, text, .host⟩] }) up
     let p := withChan (fun r => { r with priority := some ⟨.text, [1], .host⟩ }) up
     let t := withChan (fun r => { r with texts := [text] }) up
     up.serving ∧ text ≠ [] ∧ text.length = 48 ∧ up.lkc.chan.queue = [] ∧ q.serving ∧
       ¬((q.lkc.chan.queue.filter fun x => x.origin == .host).map fun x => 1 + x.body.length).sum + (1 + text.length) ≤ 96 ∧
       up.lkc.chan.priority = none ∧ (List.replicate 15 (0x41 : Byte)).length ≤ 15 ∧ p.serving ∧
       p.lkc.chan.priority.isSome ∧ up.lkc.chan.texts = [] ∧ t.serving ∧ t.lkc.chan.texts = text :: []) := by
  unfold State.serving; decide +kernel

theorem step_idle (s : State) (h : s.pending = []) : step s = .next (tick s) := by unfold step; rw [h]

/-! ### Witnesses of further clauses: counts of events, windows, failures, refusals, evaluations and reports -/

/-- A filter at its fourth differing sample of five and at its fifth, at the end of a millisecond and within one; a
conversion at its phase; the raw edges of encoders and reader; a cycle, a stroke timer and the tally at their
instants. -/
theorem witness_IdleStepIsOneMicrosecond_brings :
    (let at' := fun (micro : Nat) (n : Nat) => tick { running with
       pins := { up.pins with station := up.pins.station.put .opn true, ends := up.pins.ends.put .gate ⟨true, false⟩ }
       stu := { up.stu with inputs := up.stu.inputs.put .opn ⟨false, n⟩ }
       dru := up.dru.put .gate { up.dru.gate with endA := ⟨false, n⟩ }
       clock := { up.clock with micro := micro, ms := 98, cyclePhase := 7, scanPhase := 71 } }
     let edges := tick { running with
       pins := { up.pins with bwA := !up.rmu.bwRefA, mwP := true, cidStb := true, cid := 14 }
       clock := { up.clock with micro := 5, cyclePhase := 1, scanPhase := 1 } }
     let cycle := tick { running with clock := { up.clock with micro := 5, cyclePhase := 0, scanPhase := 1 } }
     let timers := tick { running with
       dru := up.dru.put .switch { up.dru.switch with state := .toA, strokeStart := some 0 }
       clock := { up.clock with micro := 999, ms := 1499, cyclePhase := 1, scanPhase := 1 } }
     running.pending = [] ∧ running.ssv.mode ≠ .off ∧ running.loaded = true ∧ running.pfs.working.sensorFilter = 5 ∧
       (at' 999 3).stu.inputs.opn = ⟨false, 4⟩ ∧ (at' 999 3).pending = [.gripSample up.pins.analog[1]] ∧
       (at' 999 4).stu.inputs.opn = ⟨false, 0⟩ ∧
       (at' 999 4).pending = [.gripSample up.pins.analog[1], .opnPassage, .endInputChange .gate .a true] ∧
       (at' 998 4).stu.inputs.opn = ⟨false, 4⟩ ∧ (at' 998 4).pending = [.gripSample up.pins.analog[1]] ∧
       edges.pending = [.measuringWheelPulse, .bullwheelCount .bwA, .readerStrobe 14] ∧
       edges.rmu.mwRef = running.rmu.mwRef ∧
       cycle.pending = [.voicePortFrame .a up.pins.vp1, .voicePortFrame .b up.pins.vp2, .lineCycleTransmit] ∧
       timers.pending.contains (.strokeTimeout .switch) = true ∧ timers.pending.contains .tallySample = true) := by
  decide +kernel

/-- An enabled counter of a source, one event before its wrap. -/
def wrapping (src : TallySource) : Counter := { Counter.reset with enable := true, source := src, value := 4294967295 }

/-- A part whose counters 1 to 3 meet a source at their wrap: the second a freeze trigger, the first and third
members. -/
def atWrap (src : TallySource) (s : State) : State :=
  let r := wrapping src
  putCounter 0 { r with member := true } (putCounter 1 { r with trigger := true } (putCounter 2 { r with member := true } s))

/-- The values of counters 1 to 3, and the freeze. -/
def tallyOf (s : State) : List Nat × Bool := ([0, 1, 2].map fun k => (s.counter k).value.toNat, s.tal.frozen)

/-- Counters of PASSAGE at their wrap: the trigger, the second, freezes the third, a member; the first has wrapped
before. -/
theorem witness_PassageMovesTheOldestEntry_tally :
    (let s := fun g => atWrap .passage (withStation [entryIn g] (place c14 .station up))
     (s .lck).loaded = true ∧ stands .lck (entryIn .lck) (s .lck) = true ∧
       tallyOf (after .lckPassage (s .lck)) = ([0, 0, 4294967295], true) ∧
       tallyOf (after .opnPassage (s .opn)) = ([0, 0, 4294967295], true) ∧
       tallyOf (after .clsPassage (s .grp)) = ([0, 0, 4294967295], true) ∧
       tallyOf (after .stiPassage (s .sti)) = ([0, 0, 4294967295], true) ∧
       tallyOf (after .gatPassage (s .gat)) = ([0, 0, 4294967295], true) ∧
       tallyOf (after .gatTrailingEdge (s .gat)) = tallyOf (s .gat) ∧
       (after .lckPassage (s .lck)).counter 0 = { wrapping .passage with member := true, value := 0, overflow := true }) := by
  decide +kernel

/-- A GRP passage without an entry and with a window open on an unidentified one, whose force is 10,546: with room and
with the list full. -/
theorem witness_PassageWithoutEntryIsSurveyed_window :
    (let u : StationEntry := ⟨300, .unidentified .none 0, .gat, 0, false⟩
     let s := fun l => { withStation l running with lnu := { running.lnu with window := some ⟨300, none, 0, 2000⟩ } }
     let t := after .grpPassage (atWrap .gripFail (s [u]))
     let f := after .grpPassage (s (List.replicate 127 (unknownIn .att) ++ [u]))
     (s [u]).loaded = true ∧ (∀ x ∈ (s [u]).lists.station, x.segment ≠ .grp) ∧ (s [u]).stu.nextId ≠ 300 ∧
       t.lists.station = [⟨300, .unidentified .fail 10546, .gat, 0, false⟩, ⟨0, .unidentified .none 0, .gat, 0, false⟩] ∧
       t.lnu.window = some ⟨0, none, 0, 0⟩ ∧ (t.cause .gripFail).latched = true ∧
       tallyOf t = ([0, 0, 4294967295], true) ∧ f.lists.station.length = 128 ∧
       f.lists.station.getLast? = some ⟨300, .unidentified .fail 10546, .gat, 0, false⟩ ∧ f.lnu.window = none ∧
       f.lnu.lastResult = some ⟨10546, .fail⟩) := by
  decide +kernel

/-- An arrival with the station list full, and what an arrival counts. -/
theorem witness_ArrivalTakesTheReadCabin_full :
    (let f := after .arrPassage (full .att arriving)
     let miss := fun src => tallyOf (after .arrPassage (atWrap src running))
     (full .att arriving).loaded = true ∧ f.lists.downLine = [⟨c14, 0⟩] ∧ f.lists.station.length = 128 ∧
       f.stu.latch = none ∧ (f.cause .stationSequence).latched = true ∧ miss .passage = ([0, 0, 4294967295], true) ∧
       miss .valleyArrival = ([0, 0, 4294967295], true) ∧ miss .readerMiss = ([0, 0, 4294967295], true) ∧
       tallyOf (after .arrPassage (atWrap .readerMiss arriving)) = tallyOf (atWrap .readerMiss arriving) ∧
       (after .arrPassage arriving).stu.lastArr = some 1500) := by
  decide +kernel

/-- A GRP passage with a window open, on the entry that the passage moves, on another, and on a cabin's: 13,183 is a
PASS, 10,546 a FAIL. -/
theorem witness_GripWindowClosesAtTrailingEdge_passage :
    (let moved : StationEntry := ⟨1, .unidentified .none 0, .grp, 7, false⟩
     let u : StationEntry := ⟨300, .unidentified .none 0, .gat, 7, true⟩
     let s := fun w => { withStation [u, moved] (atRd 9 running) with lnu := { running.lnu with window := some w } }
     let p := fun w => after .grpPassage (atWrap .gripFail (s w))
     (s ⟨300, none, 0, 2450⟩).loaded = true ∧ stands .grp moved (s ⟨300, none, 0, 2450⟩) = true ∧
       (p ⟨300, none, 0, 2450⟩).lists.station =
         [⟨300, .unidentified .pass 13183, .gat, 7, true⟩, ⟨1, .unidentified .none 0, .gat, 9, false⟩] ∧
       (p ⟨300, none, 0, 2450⟩).lists.stationCount = 1 ∧
       tallyOf (p ⟨300, none, 0, 2450⟩) = tallyOf (atWrap .gripFail running) ∧
       (p ⟨1, none, 0, 2000⟩).lists.station = [u, ⟨1, .unidentified .fail 10546, .gat, 9, false⟩] ∧
       tallyOf (p ⟨1, none, 0, 2000⟩) = ([0, 0, 4294967295], true) ∧
       (p ⟨5, some c14, 0, 2000⟩).lists.station = [u, ⟨1, .unidentified .none 0, .gat, 9, false⟩] ∧
       (p ⟨5, some c14, 0, 2000⟩).lnu.window = some ⟨1, none, 9, 0⟩ ∧
       (after .grpTrailingEdge (s ⟨300, none, 0, 2450⟩)).lists.stationCount = 1 ∧
       (after .grpTrailingEdge (s ⟨5, some c14, 0, 2450⟩)).lists.stationCount = 0) := by
  decide +kernel

/-- A launch that ends with its notice and count, the last before its due flag; and one behind it whose candidate is
decided at once. -/
theorem witness_AttPassageCompletesTheLaunch_ends :
    (let worn := withChan (fun r => { r with reserved := true })
       { leaving with
       cabins := leaving.cabins.set c14.val { leaving.cab c14 with launches := 19999 } c14.isLt
       pfs := { leaving.pfs with working := { leaving.pfs.working with serviceLaunches := 20000 } } }
     let t := after .attPassage (atWrap .launch worn)
     let next : StationEntry := ⟨5, .cabin 2, .gat, 0, true⟩
     let at2 := withStation [entryIn .att, next] (atSpeed 5000 (place 2 .station worn))
     let follows := { at2 with
       cabins := at2.cabins.set 2 { at2.cab 2 with door := .locked, grip := .pass } (by decide) }
     let u := after .attPassage (atRd 60007 follows)
     worn.loaded = true ∧ stands .att (entryIn .att) worn = true ∧ t.lnu.flight = none ∧
       t.lkc.chan.reserved = false ∧ (t.cab c14).due = true ∧
       t.spt.notices = [⟨0, .cabinEvent .due c14⟩, ⟨0, .cabinEvent .launched c14⟩] ∧
       tallyOf t = ([0, 0, 4294967295], true) ∧ u.lnu.flight = some ⟨5, 2, 60007, 16777215, false, false⟩ ∧
       u.lkc.chan.reserved = true ∧ u.lnu.rdL = some 60007) := by
  decide +kernel

/-- A profile with a due bound of 5, and launch counts of 4 and 5; a channel with both ends active, one at each end, one
at none. -/
theorem witness_StartLoadsTheProfileAndEntersService_loads :
    (let p := { Profile.default with
       params := { Params.default with serviceLaunches := 5 }
       regs := (Profile.default.regs.set 3 (some 4)).set 4 (some 5) }
     let s := { State.reset with
       pfs := { State.reset.pfs with stored := .good p }
       pins := { State.reset.pins with
         ends := ⟨⟨true, true⟩, ⟨true, false⟩, ⟨false, true⟩, ⟨false, false⟩, ⟨false, false⟩⟩ } }
     let t := after .profileLoad s
     s.ssv.mode = .start ∧ s.loaded = false ∧ s.pfs.stored.checkGood = true ∧ (t.cab 3).due = false ∧
       (t.cab 4).due = true ∧ (t.cab 4).launches = 5 ∧ (t.cab 5).registered = false ∧ t.dru.opener.state = .fault ∧
       t.dru.closer.state = .atA ∧ t.dru.switch.state = .atB ∧ t.dru.release.state = .unknown ∧
       (t.cause .driveFault).latched = true ∧ (t.cause .driveFault).last = .channel .opener ∧
       ((after .profileLoad State.reset).cause .driveFault).latched = false) := by
  decide +kernel

/-- Both ends, and a lost end, under a task of cabin 14, a launch and a task that returns. -/
theorem witness_EndInputTakesTheChannelState_fails :
    (let both := fun ch ph => after (.endInputChange ch .b true) (withDrive ch
       { (tasked ch .toB ph 0).dru.get ch with endA := ⟨true, 0⟩ } (tasked ch .toB ph 0))
     let flying := withChan (fun r => { r with reserved := true }) { leaving with lnu := { leaving.lnu with
       flight := some ⟨0, c14, 7, 60000, false, false⟩, rdL := some 7 } }
     let g := fun f => after (.endInputChange .gate .b true) (withDrive .gate { homeDrive with state := .toB } f)
     let lost := after (.endInputChange .gate .a false) (withDrive .gate homeDrive flying)
     (tasked .opener .toB .opening 0).loaded = true ∧ (both .opener .opening).dru.opener.state = .fault ∧
       (both .opener .opening).dru.opener.task = none ∧ ((both .opener .opening).cab c14).door = .unknown ∧
       ((both .opener .opening).cause .doorOpenFail).last = .cabin c14 ∧
       ((both .closer .closing).cause .doorCloseFail).latched = true ∧
       ((both .closer .returning).cause .doorCloseFail).latched = false ∧
       (both .closer .returning).dru.closer.task = none ∧ (g flying).lnu.flight = none ∧
       (g flying).lkc.chan.reserved = false ∧ (g flying).lnu.rdL = some 7 ∧
       (g leaving).lnu.flight = leaving.lnu.flight ∧ lost.lnu.flight = none ∧ (lost.cause .gateUnsafe).latched = true) := by
  decide +kernel

/-- The sample that brings the run to eight: on the opener in its phases, on the closer, and on RELEASE and GATE with a
release and a launch in phase OPENING or behind it. -/
theorem witness_CurrentSampleSupervisesTheStroke_fails :
    (let stop := fun (ch : Channel) s => after (.currentSample ch 1536)
       (withDrive ch { s.dru.get ch with state := .toB, strokeStart := some 0, run := 7 } s)
     let o := fun ph => stop .opener (tasked .opener .toB ph 0)
     let v := after (.currentSample .closer 1536) (atWrap .doorReversal
       (withDrive .closer { (tasked .closer .toA .reversing 0).dru.closer with run := 7 } (tasked .closer .toA .reversing 0)))
     let r := fun x => stop .release { running with stu := { running.stu with release := some ⟨c14, x⟩ } }
     let f := fun left =>
       stop .gate { leaving with lnu := { leaving.lnu with flight := some ⟨0, c14, 7, 60000, left, false⟩ } }
     (o .opening).dru.opener.state = .blocked ∧ (o .opening).dru.opener.task = none ∧
       ((o .opening).cab c14).door = .unknown ∧ ((o .opening).cause .doorOpenFail).latched = true ∧
       ((o .returning).cause .doorOpenFail).latched = false ∧
       ((o .returning).cab c14).door = (running.cab c14).door ∧ v.dru.closer.state = .blocked ∧
       (v.cause .doorCloseFail).latched = true ∧ tallyOf v = tallyOf (atWrap .doorReversal running) ∧
       tallyOf (stop .closer (atWrap .doorReversal (tasked .closer .toB .closing 0))) = ([0, 0, 4294967295], true) ∧
       (stop .closer (tasked .closer .toB .closing 0)).dru.closer.task = some ⟨0, some c14, .reversing, 0⟩ ∧
       (r none).stu.release = none ∧ (r (some 3)).stu.release = some ⟨c14, some 3⟩ ∧ (f false).lnu.flight = none ∧
       (f true).lnu.flight.isSome = true) := by
  decide +kernel

/-- A stroke of 1,500 ms that ends in FAULT with its task, release or launch, and one of 1,499 ms. -/
theorem witness_DriveTimersExpire_fails :
    (let x := fun (ch : Channel) ms s => after (.strokeTimeout ch) (atMs ms
       (withDrive ch { s.dru.get ch with state := .toB, strokeStart := some 0 } s))
     let r := fun y => { running with stu := { running.stu with release := some ⟨c14, y⟩ } }
     running.loaded = true ∧ ((x .opener 1500 (tasked .opener .toB .opening 0)).cab c14).door = .unknown ∧
       (x .opener 1500 (tasked .opener .toB .opening 0)).dru.opener.task = none ∧
       (x .opener 1499 (tasked .opener .toB .opening 0)).dru.opener.state = .toB ∧
       ((x .closer 1500 (tasked .closer .toB .reversing 0)).cause .doorCloseFail).latched = true ∧
       (x .release 1500 (r none)).stu.release = none ∧
       (x .release 1500 (r (some 3))).stu.release = some ⟨c14, some 3⟩ ∧
       (x .gate 1500 leaving).lnu.flight = leaving.lnu.flight) := by
  decide +kernel

/-- A part at a speed in RUN, LINK_LOST latched and no longer active. -/
def relinked (v : Nat) : State := latched .linkLost (atSpeed v running)

theorem cause_mem_all (c : Cause) : c ∈ Cause.all := by cases c <;> decide

/-- The conditions are kept when the event causes of the table are inactive one by one. -/
theorem conditionsKept_of (s : State)
    (h : s.trackJudged ∧ s.gateJudged ∧ s.speedJudged ∧ ∀ c ∈ Cause.all, c.event = true → s.active c = false) :
    s.conditionsKept :=
  ⟨h.1, h.2.1, h.2.2.1, fun c => h.2.2.2 c (cause_mem_all c)⟩

/-- No cause but a HOLD one is active without being latched when the table says so one by one. -/
theorem activesLatched_of (s : State)
    (h : ∀ c ∈ Cause.all, c.category ≠ .hold → s.active c = true → (s.cause c).latched = true) : s.activesLatched :=
  fun c => h c (cause_mem_all c)

/-- No HOLD cause is latched when the table says so one by one. -/
theorem holdsUnlatched_of (s : State)
    (h : ∀ c ∈ Cause.all, c.category = .hold → (s.cause c).latched = false) : s.holdsUnlatched :=
  fun c => h c (cause_mem_all c)

/-- The two states of the next witness have their conditions evaluated. -/
theorem witness_AcknowledgementsAndHostStops_settled (v : Nat) (h : v = 2000 ∨ v = 2001) :
    (relinked v).conditionsKept := by
  apply conditionsKept_of
  unfold State.trackJudged State.gateJudged State.speedJudged
  rcases h with rfl | rfl <;> decide +kernel

/-- V_RESTRICT is 2,000: LINK_LOST acknowledged at it and above it, by its number and with all others. -/
theorem witness_AcknowledgementsAndHostStops_restricted :
    (let t := fun v => after (.ackCause 1 [12]) (relinked v)
     let u := after (.ackAll 1 []) (relinked 2001)
     (relinked 2001).serving ∧ (relinked 2001).stopsFollow ∧ (relinked 2001).overdueKept ∧
       (relinked 2001).overdueFound ∧ Cause.ofNumber (12 : Byte).toNat = some .linkLost ∧
       ((relinked 2001).cause .linkLost).latched = true ∧ (relinked 2001).active .linkLost = false ∧
       (relinked 2001).ssv.restricted = false ∧ (t 2001).ssv.restricted = true ∧
       (t 2001).cause .overspeed = ⟨true, true, 1, some ⟨0, 0, .absent⟩, .absent⟩ ∧
       (t 2000).active .overspeed = false ∧
       (t 2001).spt.notices.contains ⟨0, .modeChanged .run true (t 2001).ssv.lines⟩ = true ∧
       u.spt.replies = [replyIs 0x20 1 .ok [1, 1]] ∧ (u.cause .linkLost).count = 1 ∧ (0 : Byte).toNat = 0 ∧
       46 < (47 : Byte).toNat ∧ (5 : Byte) ≠ 3 ∧ (5 : Byte) ≠ 4) := by
  unfold State.serving State.stopsFollow State.overdueKept State.overdueFound State.upChecked; decide +kernel

/-- A part in RUN, the rope at 9, with GATE_UNSAFE clear, or latched with its first stamps, and with an occurrence
count. -/
def forcing (first : Option FirstStamps) (n : Nat) : State :=
  putCause .gateUnsafe ⟨false, first.isSome, n, first, .absent⟩ (atRd 9 running)

theorem step_fed_gatTrailingEdge (s : State) : step (fed .gatTrailingEdge s) = .next (ran .gatTrailingEdge s) := rfl

/-- A forced pass with its cause clear, standing, and at the counts 254 and 255; the demand goes from none to
SERVICE. -/
theorem witness_CauseReportsAreRecorded_counts :
    (let t := fun s => ran .gatTrailingEdge s
     let stands := fun n => forcing (some ⟨1, 2, .absent⟩) n
     (t (forcing none 0)).ssv.mode ≠ .off ∧ (forcing none 0).spt.notices = [] ∧ (forcing none 0).ssv.demand = .none ∧
       (t (forcing none 0)).ssv.demand = .emergency ∧
       (t (forcing none 0)).cause .gateUnsafe = ⟨false, true, 1, some ⟨9, 0, .channel .gate⟩, .channel .gate⟩ ∧
       (t (forcing none 0)).spt.notices =
         [⟨0, .causeRaised .stationSequence .absent 1 9⟩, ⟨0, .demandChanged .service .none ⟨false, true, false⟩⟩,
           ⟨0, .causeRaised .gateUnsafe (.channel .gate) 1 9⟩,
           ⟨0, .demandChanged .emergency .service ⟨false, true, true⟩⟩] ∧
       ((t (stands 254)).cause .gateUnsafe).count = 255 ∧ ((t (stands 255)).cause .gateUnsafe).count = 255 ∧
       ((t (stands 254)).cause .gateUnsafe).first = some ⟨1, 2, .absent⟩) := by
  decide +kernel

/-- The ends of the operands: a list of one entry read at its end and behind it, entries 1 and 24, the lists 4 and 5,
the tower positions 18 and 19, the cause positions 46 and 47. -/
theorem witness_ReadsAnswerAndChangeNothing_bounds :
    (let s := { placedAt .storage up with lists := { (placedAt .storage up).lists with storageCount := 7 } }
     let read := fun (body : List Byte) => (after (.readList 1 body) s).spt.replies
     s.serving ∧ (1, 7, [cabinField (some c14)]) ∈ s.listReply ∧
       read [1, 0, 1] = [replyIs 4 1 .ok [1, 1, 0, 0, 7, 1, 14]] ∧
       read [1, 1, 24] = [replyIs 4 1 .ok [1, 1, 1, 0, 7, 0]] ∧ read [1, 2, 24] = [replyIs 4 1 .notFound []] ∧
       read [1, 0, 0] = [replyIs 4 1 .badValue []] ∧ read [1, 0, 25] = [replyIs 4 1 .badValue []] ∧
       4 < (5 : Byte).toNat ∧ read [5, 0, 1] = [replyIs 4 1 .badValue []] ∧ (0 : Byte).toNat = 0 ∧
       96 < (97 : Byte).toNat ∧ s.lkc.towers.entries.length = 18 ∧ (46 : Byte).toNat ≤ 46 ∧ 46 < (47 : Byte).toNat ∧
       1 < (2 : Byte).toNat ∧ Param.ofNumber 0 0 = none ∧ Param.ofNumber 51 0 = none ∧
       ((s.cabinReply c14).drop 1).take 1 = [BitVec.ofNat 8 (Location.code .storage)]) := by
  unfold State.serving; decide +kernel

/-- What a write evaluates again, at the bound and beyond it: V_MW from a window of eight at the new step, OVERSPEED at
V_INSPECT, the carriage of 16 samples at TENSION_HI, the up-line head at LINE_LEN, a tower at TOWER_STALE, the table at
TOWER_COUNT, the rail at STORE_CAP. -/
theorem witness_WorkingProfileTakesItsValues_again :
    (let w := fun (q c d : Byte) s => after (.writeParam 1 [q, 0, 0, 0, c, d]) s
     let m := { up with rmu := { up.rmu with mw := { up.rmu.mw with window := List.replicate 8 942, speed := 5002 } } }
     let h := { up with rmu := { up.rmu with tension := List.replicate 16 2048 } }
     let len := fun (d : Byte) => after (.writeParam 1 [41, 0, 0, 0x24, 0x50, d]) (lineHead .upLine 2400000)
     let old := withTower 0 ⟨.centre, 1000, 4, none⟩ up
     let two := { up with lists := { up.lists with storage := [2, c14] } }
     up.serving ∧ up.ssv.mode = .service ∧ up.pfs.commit = none ∧ (w 1 3 232 m).rmu.mw.speed = 1061 ∧
       (w 8 0 100 (atSpeed 100 up)).active .overspeed = false ∧
       (w 8 0 100 (atSpeed 101 up)).active .overspeed = true ∧ (w 13 3 232 h).active .tensionRange = false ∧
       (w 13 3 231 h).active .tensionRange = true ∧ (len 0xE0).ltu.overUp = none ∧ (len 0xDF).ltu.overUp = some c14 ∧
       (len 0xDF).active .overdueUp = true ∧ (w 47 3 232 old).active .towerSilent = false ∧
       (w 47 3 231 old).lkc.towers.entries[0]? = some ⟨.sensorFault, 1000, 0, some 0⟩ ∧
       (w 47 3 231 old).active .towerSilent = true ∧ (w 45 0 1 up).lkc.towers.entries.length = 1 ∧
       (w 45 0 19 old).lkc.towers.entries.length = 19 ∧ (w 20 0 2 two).active .storageFull = false ∧
       (w 20 0 1 two).active .storageFull = true ∧ (after (.restoreDefaults 1 []) (w 1 3 232 m)).rmu.mw.speed = 5002) := by
  unfold State.serving; decide +kernel

/-- The cabin of the launch in flight, and the storage head under a release. -/
theorem witness_CabinsAreMovedByHand_withdraw :
    (let fly := leaving
     let rail := placedAt .storage running
     let head := { rail with stu := { rail.stu with release := some ⟨c14, none⟩ } }
     fly.serving ∧ head.serving ∧ (fly.cab c14).registered = true ∧
       (after (.withdrawCabin 1 [14]) fly).spt.replies = [replyIs 5 1 .wrongState []] ∧
       (after (.withdrawCabin 1 [14]) head).spt.replies = [replyIs 5 1 .wrongState []] ∧ head.ssv.mode ≠ .service ∧
       (after (.reinstateCabin 1 [14]) head).spt.replies = [replyIs 6 1 .wrongMode []]) := by
  unfold State.serving; decide +kernel

/-- Cabin 14 LOST, with another cabin in the station. -/
def lostBeside (c : Cabin) : State := withStation [⟨0, .cabin c, .grp, 0, false⟩] (place c .station (place c14 .lost up))

/-- An identified entry, a position behind the list, a cabin that is in no line list, an unregistered one. -/
theorem witness_CabinsAreMovedByHand_refusals :
    (let st := fun c => (after c (lostBeside 2)).spt.replies
     (lostBeside 2).serving ∧ (lostBeside 2).ssv.mode = .service ∧ (lostBeside 2).lists.station.length = 1 ∧
       st (.reinstateCabin 1 [14]) = [replyIs 6 1 .wrongState []] ∧
       st (.declareLost 1 [14]) = [replyIs 0x13 1 .wrongState []] ∧
       st (.bindEntry 1 [0, 14]) = [replyIs 0x0A 1 .wrongState []] ∧
       st (.bindEntry 1 [1, 14]) = [replyIs 0x0A 1 .notFound []] ∧ ((lostBeside 2).cab 4).registered = false ∧
       st (.declareLost 1 [5]) = [replyIs 0x13 1 .notFound []] ∧ 96 < (97 : Byte).toNat ∧
       st (.retireCabin 1 [14, 2]) = [replyIs 7 1 .badValue []]) := by
  unfold State.serving; decide +kernel

/-- The checks that refuse: SWITCH_CLEAR at 2,999 of 3,000, the SWITCH in FAULT and in UNKNOWN toward STORE, a used
channel, and the interlock of SEG-OPN. -/
theorem witness_StationRequestsStartStrokes_refusals :
    (let clear := fun (rd : Word32) => atRd rd { homed with stu := { homed.stu with lastArr := some 0 } }
     let sw := fun st => withDrive .switch { homeDrive with state := st, endA := ⟨false, 0⟩ } homed
     let busy := { homed with lnu := { homed.lnu with flight := some ⟨0, c14, 0, 16777215, false, false⟩ } }
     let rail := { homed with lists := { homed.lists with storage := [c14] } }
     let opn := withStation [entryIn .opn] rail
     let st := fun c s => (after c s).spt.replies
     (clear 2999).serving ∧ (clear 2999).ssv.mode = .service ∧
       st (.setSwitch 1 [1]) (clear 2999) = [replyIs 0x0B 1 .busy []] ∧
       st (.setSwitch 1 [1]) (clear 3000) = [replyIs 0x0B 1 .ok []] ∧
       st (.setSwitch 1 [1]) (sw .unknown) = [replyIs 0x0B 1 .wrongState []] ∧
       st (.setSwitch 1 [0]) (sw .unknown) = [replyIs 0x0B 1 .ok []] ∧
       st (.setSwitch 1 [0]) (sw .fault) = [replyIs 0x0B 1 .wrongState []] ∧ running.serving ∧
       st (.setSwitch 1 [0]) running = [replyIs 0x0B 1 .wrongMode []] ∧ 1 < (2 : Byte).toNat ∧
       st (.driveTest 1 [5, 1]) busy = [replyIs 0x0E 1 .busy []] ∧
       st (.driveTest 1 [3, 1]) (sw .unknown) = [replyIs 0x0E 1 .wrongState []] ∧
       st (.driveTest 1 [6, 0]) homed = [replyIs 0x0E 1 .badValue []] ∧
       st (.driveTest 1 [5, 1]) running = [replyIs 0x0E 1 .wrongMode []] ∧ opn.serving ∧
       st (.releaseFromStorage 1 []) opn = [replyIs 0x0C 1 .refused []] ∧
       st (.releaseFromStorage 1 []) homed = [replyIs 0x0C 1 .notFound []] ∧
       st (.releaseFromStorage 1 []) { rail with stu := { rail.stu with release := some ⟨c14, none⟩ } } =
         [replyIs 0x0C 1 .busy []] ∧
       st (.releaseFromStorage 1 []) (withDrive .release { homeDrive with state := .blocked } rail) =
         [replyIs 0x0C 1 .wrongState []]) := by
  unfold State.serving; decide +kernel

/-- The states of the reports' witness meet its conditions on the table. -/
theorem witness_CauseReportsAreRecorded :
    step (fed .gatTrailingEdge (forcing none 0)) = .next (ran .gatTrailingEdge (forcing none 0)) ∧
      (ran .gatTrailingEdge (forcing none 0)).ssv.mode ≠ .off ∧
      (fed .gatTrailingEdge (forcing none 0)).activesLatched ∧ (fed .gatTrailingEdge (forcing none 0)).holdsUnlatched ∧
      (ran .gatTrailingEdge (forcing none 0)).spt.notices.length < 16 :=
  ⟨step_fed_gatTrailingEdge _, by decide +kernel, activesLatched_of _ (by decide +kernel),
    holdsUnlatched_of _ (by decide +kernel), by decide +kernel⟩

/-- A Boolean form of the conditions that every step keeps, which the kernel evaluates: those over all causes are asked of
the causes one by one, and those over all entries that are present of the one that is. -/
theorem kept_of (s : State)
    (h : (s.stopsFollow ∧ (∀ c ∈ Cause.all, c.category = .hold → (s.cause c).latched = false) ∧ s.queuesBounded ∧
        s.stationBounded ∧ s.storeBounded ∧ s.ropeBounded ∧ s.placed) ∧
      (((s.lists.station.map StationEntry.id).Nodup ∧ (∀ e ∈ s.lists.station, e.id < s.stu.nextId) ∧
          (∀ f ∈ s.lnu.flight, f.entry < s.stu.nextId ∧ ∀ e ∈ s.lists.station, e.id = f.entry → e.who = .cabin f.cabin) ∧
          (s.loaded = false → s.lists.station = [] ∧ s.lists.storage = [] ∧ s.lists.upLine = [] ∧ s.lists.summit = [] ∧
            s.lists.downLine = [])) ∧
        s.overdueKept ∧ s.overdueFound ∧ (∀ r ∈ s.stu.release, s.lists.storage.head? = some r.cabin) ∧ s.holdKept) ∧
      ((∀ c ∈ Cause.all, c.category ≠ .hold → s.active c = true → (s.cause c).latched = true) ∧
        (s.trackJudged ∧ s.gateJudged ∧ s.speedJudged ∧ ∀ c ∈ Cause.all, c.event = true → s.active c = false) ∧
        s.measuredKept) ∧
      (s.rmu.slip = slipAt s.pfs.working s.rmu.bw.speed s.rmu.mw.speed ∧
        s.rmu.slipStart.isSome = decide (s.pfs.working.slipLimit < s.rmu.slip.natAbs) ∧
        (s.active .slip = true → s.pfs.working.slipLimit < s.rmu.slip.natAbs) ∧
        (s.rmu.slipStart.all fun x =>
          s.active .slip || x == s.rmu.rd || decide (distance s.rmu.rd x < (s.pfs.working.slipHoldMm : Int))) = true ∧
        (s.loaded = false → s.rmu.bw.speed = 0)) ∧
      (s.lkc.rx.outOfLock.isSome = (s.loaded && s.lkc.rx.sync != .locked) ∧
        (s.active .linkLost = true → s.lkc.rx.outOfLock.isSome = true ∧
          ∀ ch ∈ [CallChannel.a, .b], (s.call ch).state = .idle)) ∧
      (∀ ch ∈ [CallChannel.a, .b], (s.call ch).timer.map CallTimer.kind = (s.call ch).state.timerKind ∧
        (s.call ch).origin.isNone = ((s.call ch).state == .idle) ∧ (s.call ch).holdCount ≤ 4 ∧
        ((s.call ch).state ≠ .connected →
          (s.call ch).held = 0 ∧ (s.call ch).output = 0 ∧ (s.call ch).holdCount = 0)) ∧
      s.receiverKept ∧
      (s.loaded = (s.ssv.mode == .service || s.ssv.mode == .run) ∧
        (s.ssv.deadline = none →
          if s.loaded = true then s.active .hostSilent = true else s.ssv.lastKeep = none ∧ s.active .hostSilent = false) ∧
        ∀ d ∈ s.ssv.deadline, s.loaded = true ∧
          if d.entry = true then s.ssv.lastKeep = none ∧ s.active .hostSilent = false
          else s.ssv.lastKeep = some d.ref) ∧
      s.hostStopsKept ∧
      (s.lkc.chan.reserved = s.lnu.flight.isSome ∧
        heldSize s.lkc.chan.queue + (if s.lkc.chan.reserved = true then 5 else 0) ≤ 128 ∧
        heldSize (s.lkc.chan.queue.filter fun x => x.origin == .host) ≤ 96 ∧
        ∀ a ∈ s.lkc.chan.assembly, a.bytes.length ≤ 50 ∧ (a.bytes = [] → a.damaged = true)) ∧
      s.routeKept) : s.Kept := by
  obtain ⟨⟨h1, h2, h3, h4, h5, h6, h7⟩, ⟨⟨k1, k2, k3, k4⟩, h9, h10, h11, h12⟩, ⟨h13, h14, h15⟩, ⟨m1, m2, m3, m4, m5⟩,
    ⟨n1, n2⟩, h17, h18, ⟨q1, q2, q3⟩, h20, ⟨p1, p2, p3, p4⟩, h22⟩ := h
  exact
    { stops := h1, unlatched := holdsUnlatched_of s h2, queues := h3, station := h4, store := h5, rope := h6
      places := h7, entries := ⟨k1, k2, fun f hf => k3 f (by rw [hf]; rfl), k4⟩, overdue := h9, found := h10
      release := fun r hr => h11 r (by rw [hr]; rfl), hold := h12, latched := activesLatched_of s h13
      conditions := conditionsKept_of s h14, measured := h15
      slip := ⟨m1, m2, m3, fun x hx ha => by simpa [hx, ha] using m4, m5⟩
      loss := ⟨n1, fun hl => ⟨(n2 hl).1, fun ch => (n2 hl).2 ch (by cases ch <;> decide)⟩⟩
      calls := fun ch => h17 ch (by cases ch <;> decide)
      receiver := h18, supervision := ⟨q1, q2, fun d hd => q3 d (by rw [hd]; rfl)⟩, hostStops := h20
      channel := ⟨p1, p2, p3, fun a ha => p4 a (by rw [ha]; rfl)⟩, route := h22 }

/-- In RUN, under the host's supervision: SEG-GAT over its cap with a held candidate, a release in flight, an overdue head
of the up-line, and a down-line head that is due in the storage. -/
def burdened : State :=
  let p := running.pfs.working
  let s := place 7 .upLine (place 5 .downLine (place 2 .storage (place c14 .station running)))
  let s := withRx (fun r => { r with sync := .locked, expected := some 3, outOfLock := none, held := some good3 }) s
  after .gatPassage (routeCompute { putCab 5 { s.cab 5 with retire := true } s with
    lists := { s.lists with
      station := entryIn .gat :: [1, 2, 3, 4].map fun n => { unknownIn .gat with id := n, atGate := true }
      storage := [2]
      upLine := [⟨7, 0 - BitVec.ofNat 32 (p.lineLen + p.arrTol + 1)⟩]
      downLine := [⟨5, 0⟩] }
    stu := { s.stu with nextId := 5, release := some ⟨2, none⟩ } })

/-- In RUN, with everything at its bound: the slip at its start, the link lost, the deadline missed, a host stop, 128 bytes
queued with a reservation for the launch in flight, and 50 bytes in assembly. -/
def strained : State :=
  let s := withStation [entryIn .gat] (place c14 .station running)
  let text := fun n => (⟨.text, List.replicate n 0x41, .host⟩ : TxRecord)
  let s := withChan (fun r => { r with
    queue := [text 48, text 43] ++ List.replicate 6 ⟨.launched, [14, 0, 0xEA, 0x60], .part⟩
    reserved := true
    assembly := some ⟨List.replicate 50 0, false, false⟩ }) s
  let s := { s with
    rmu := { s.rmu with
      slip := 666
      slipStart := some 0
      bw := { s.rmu.bw with speed := 3000 }
      mw := { s.rmu.mw with speed := 1000 } }
    stu := { s.stu with nextId := 1 }
    lnu := { s.lnu with rdL := some 0, flight := some ⟨0, c14, 0, 60000, false, false⟩ }
    ssv := { s.ssv with lastKeep := some 7, deadline := none } }
  standing .hostStopEmg (standing .hostSilent (standing .linkLost (standing .slip s)))

/-- In SERVICE and LOCKED, with a bad run of 15, 127 bits of the next cycle, and a connected call. -/
def degraded : State :=
  let s := withRx (fun r => { r with
    sync := .locked
    expected := some 3
    outOfLock := none
    held := some good3
    badRun := 15
    bits := List.replicate 127 ⟨false, true⟩ }) up
  putCall .a { s.phn.a with state := .connected, origin := some .incoming, held := 5, output := 5, holdCount := 4 } s

/-- The conditions hold together at a reset, and in states that stand at their bounds. -/
theorem witness_EveryStepKeepsTheInvariants :
    step State.reset = .next (tick State.reset) ∧ State.reset.Kept ∧ burdened.Kept ∧ strained.Kept ∧ degraded.Kept := by
  refine ⟨step_idle _ rfl, kept_of _ ?_, kept_of _ ?_, kept_of _ ?_, kept_of _ ?_⟩ <;>
  refine ⟨?_, ?_, ?_, ?_, ?_, ?_, ?_, ?_, ?_, ?_, ?_, ?_⟩ <;>
  try simp only [State.stopsFollow, State.queuesBounded, State.stationBounded, State.storeBounded, State.ropeBounded,
    State.placed, State.overdueKept, State.overdueFound, State.upChecked, State.holdKept, State.trackJudged,
    State.gateJudged, State.speedJudged, State.measuredKept, State.carriageJudged, State.towersJudged, State.farJudged,
    State.receiverKept, State.hostStopsKept, State.routeKept]
  all_goals decide +kernel

/-- What the states of the witness show: the causes active, the lists and records, and each bound reached. -/
theorem witness_EveryStepKeepsTheInvariants_bounds :
    burdened.active .stationFull = true ∧ burdened.active .doorNotLocked = true ∧
      (burdened.cause .doorNotLocked).last = .cabin c14 ∧ burdened.heldEntry = some 0 ∧
      burdened.stu.release = some ⟨2, none⟩ ∧ burdened.ltu.overUp = some 7 ∧ burdened.stu.wanted = some .store ∧
      burdened.stu.throwPending = false ∧ strained.active .slip = true ∧ strained.active .linkLost = true ∧
      strained.active .hostSilent = true ∧ strained.active .hostStopEmg = true ∧ strained.ssv.demand = .emergency ∧
      heldSize strained.lkc.chan.queue = 123 ∧ strained.lkc.chan.reserved = true ∧ strained.stu.wanted = some .line ∧
      degraded.lkc.rx.badRun = 15 ∧ degraded.lkc.rx.bits.length = 127 ∧ degraded.ssv.mode = .service ∧
      burdened.pending = [] ∧ strained.pending = [] ∧ degraded.pending = [] := by decide +kernel

/-- Steps from those states: the sixteenth bad cycle in a row unlocks, no text joins a full queue, the wanted route follows
a new down-line head and its retire flag, and a missed deadline makes HOST_SILENT active. -/
theorem witness_EveryStepKeepsTheInvariants_steps :
    (after (.badCycle [⟨false, true⟩]) degraded).lkc.rx.sync = .hunt ∧
      (after (.badCycle [⟨false, true⟩]) degraded).lkc.rx.badRun = 0 ∧
      heldSize (after (.sendLineText 1 [0x41]) strained).lkc.chan.queue = 123 ∧
      (after .arrPassage burdened).stu.wanted = some .line ∧ burdened.lists.downLine.length = 1 ∧
      (after (.declareLost 1 [6]) burdened).stu.wanted = some .line ∧
      (after (.retireCabin 1 [6, 0]) burdened).stu.wanted = some .line ∧
      (after .hostDeadlineMissed { atMs 5000 up with ssv := up.ssv }).active .hostSilent = true := by decide +kernel

/-- A body of the greatest length, read back from its frame. -/
theorem witness_CodingsAreReadBack :
    (List.replicate 248 (7 : Byte)).length ≤ 248 ∧ (frameBytes 0x17 1 (List.replicate 248 7)).length = 254 := by
  decide +kernel

/-! ### Witnesses of the notices, of the commands to a channel and of the counts in the working profile -/

/-- The notices that a command sends, behind those that wait. -/
def sent (c : Instr) (s : State) : List Notice :=
  ((after c s).spt.notices.drop s.spt.notices.length).map QueuedNotice.notice

/-- The notices of a start and of a start at which a channel has both ends active, and the launch counts of the working
profile. -/
theorem witness_StartLoadsTheProfileAndEntersService_notices :
    (let p : Profile := { Profile.default with regs := Profile.default.regs.set 3 (some 4) }
     let s : State := { State.reset with
       pfs := { State.reset.pfs with stored := .good p }
       pins := { State.reset.pins with ends := State.reset.pins.ends.put .opener ⟨true, true⟩ } }
     let run : StopLines := ⟨true, false, false⟩
     s.ssv.mode = .start ∧ s.loaded = false ∧ (after .profileLoad s).spt.notices.length < 16 ∧
       sent .profileLoad State.reset = [.started .powerOn .valid 0, .modeChanged .service false run] ∧
       (sent .profileLoad s).take 2 =
         [.causeRaised .driveFault (.channel .opener) 1 0, .demandChanged .service .none ⟨false, true, false⟩] ∧
       (sent .profileLoad s).drop 2 = [.started .powerOn .valid 0, .modeChanged .service false ⟨false, true, false⟩] ∧
       (after .profileLoad s).pfs.counts[3] = some 4 ∧ (after .profileLoad s).pfs.counts[4] = none) := by
  decide +kernel

/-- State, peak current and stroke start of the SWITCH. -/
def shape (t : State) : DriveState × Nat × Option Word32 :=
  (t.dru.switch.state, t.dru.switch.peak, t.dru.switch.strokeStart)

/-- The SWITCH in a state with its ends at a level, a wanted route, and a rope so far behind the arrival at 0. -/
def switching (st : DriveState) (a b : Bool) (r : Option Route) (rd : Word32) : State :=
  let d : DriveChannel := { homeDrive with
    state := st, endA := ⟨a, 0⟩, endB := ⟨b, 0⟩, peak := 7, retry := 1, strokeStart := some 3, run := 2 }
  withDrive .switch d (atRd rd (atMs 5 { running with stu := { running.stu with wanted := r, lastArr := some 0 } }))

/-- The SWITCH in each state that stands or drives, SWITCH_CLEAR of 3,000 run since the last arrival and 2,999. -/
theorem witness_SwitchThrowWaitsForTheClearance_states :
    (let go := fun st a b r rd => (let t := after .switchThrow (switching st a b r rd); (shape t, t.stu.throwPending))
     (switching .atB false true (some .line) 3000).loaded = true ∧
       (switching .atB false true (some .line) 3000).stu.wanted = some .line ∧
       [go .atB false true none 3000, go .atA true false (some .line) 3000, go .toA false false (some .line) 3000,
         go .atB false true (some .line) 3000, go .atB false true (some .line) 2999, go .toB false false (some .line) 3000,
         go .toA false false (some .store) 3000] =
       [((.atB, 7, some 3), false), ((.atA, 7, some 3), false), ((.toA, 7, some 3), false), ((.toA, 0, some 5), false),
         ((.atB, 7, some 3), true), ((.toA, 7, some 5), false), ((.toB, 7, some 5), false)]) := by
  decide +kernel

/-- The SWITCH at rest between its ends, BLOCKED with the end asked active among them, and in FAULT. -/
theorem witness_SwitchThrowWaitsForTheClearance_atRest :
    (let go := fun st a b r => (let t := after .switchThrow (switching st a b r 3000); (shape t, t.stu.throwPending))
     [go .unknown false false (some .line), go .unknown false false (some .store), go .fault true false (some .line),
         go .blocked false false (some .store), go .blocked false true (some .store)] =
       [((.toA, 0, some 5), false), ((.unknown, 7, some 3), true), ((.fault, 7, some 3), true), ((.toB, 0, some 5), false),
         ((.atB, 7, none), false)] ∧
       sent .switchThrow (switching .blocked false true (some .store) 3000) =
         [.driveEvent .switch .atB .completed 7 1] ∧
       sent .switchThrow (switching .blocked false false (some .store) 3000) = []) := by
  decide +kernel

/-- A pulse from 2,996 takes the rope to the clearance of 3,000, and one from 2,995 to 2,999. -/
theorem witness_PulseMovesThePositionAndMakesItsChecks_throw :
    (let p := fun st a b r rd => after .measuringWheelPulse (switching st a b r rd)
     let shape := fun (t : State) => (t.dru.switch.state, t.stu.throwPending)
     let told := sent .measuringWheelPulse (switching .blocked false true (some .store) 2996)
     (switching .atB false true (some .line) 2996).loaded = true ∧
       (switching .atB false true (some .line) 2996).rmu.rem < 1000 ∧
       shape (p .atB false true (some .line) 2996) = (.toA, false) ∧
       shape (p .atB false true (some .line) 2995) = (.atB, true) ∧
       shape (p .toB false false (some .line) 2996) = (.toA, false) ∧
       shape (p .fault true false (some .line) 2996) = (.fault, true) ∧
       shape (p .unknown false false (some .store) 2996) = (.unknown, true) ∧
       shape (p .atA true false none 2996) = (.atA, false) ∧
       shape (p .blocked false true (some .store) 2996) = (.atB, false) ∧
       told.contains (.driveEvent .switch .atB .completed 7 1) = true) := by
  decide +kernel

/-- The DRIVE_EVENT of each change of an end input, and a change without one. -/
theorem witness_EndInputTakesTheChannelState_notices :
    (let s := fun st a b =>
       withDrive .gate { homeDrive with state := st, endA := ⟨a, 0⟩, endB := ⟨b, 0⟩, peak := 7, retry := 1 } homed
     let told := fun c s => (sent c s).filter (Notice.ofDrive .gate)
     (s .toB false false).loaded = true ∧
       told (.endInputChange .gate .b true) (s .toB false false) = [.driveEvent .gate .atB .completed 7 1] ∧
       told (.endInputChange .gate .b true) (s .unknown false false) = [.driveEvent .gate .atB .foundEnd 7 1] ∧
       told (.endInputChange .gate .b true) (s .toB true false) = [.driveEvent .gate .fault .bothEnds 7 1] ∧
       told (.endInputChange .gate .a false) (s .atA true false) = [.driveEvent .gate .fault .endLost 7 1] ∧
       told (.endInputChange .gate .b true) (s .fault true false) = [] ∧
       told (.endInputChange .gate .b true) (s .toA false false) = []) := by
  decide +kernel

/-- The DRIVE_EVENT of a door task at its end, of a timeout, of an obstruction and of a reversal; a release that is
stuck in BLOCKED at END_A. -/
theorem witness_DriveEventsOfStrokes :
    (let told := fun ch c s => (sent c s).filter (Notice.ofDrive ch)
     let high := fun ch s => told ch (.currentSample ch 1536) (withDrive ch { s.dru.get ch with run := 7 } s)
     let late := atMs 1500 (withDrive .gate { homeDrive with state := .toB, strokeStart := some 0 } running)
     let stuck := withDrive .release { homeDrive with state := .blocked, peak := 7 } (atRd 7997
       { place c14 .storage running with
         lists := { running.lists with storage := [c14] }
         stu := { running.stu with release := some ⟨c14, some 0⟩ } })
     told .opener (.endInputChange .opener .b true) (tasked .opener .toB .opening 1) =
         [.driveEvent .opener .atB .completed 0 1] ∧
       told .closer (.endInputChange .closer .a true) (tasked .closer .toA .returning 1) =
         [.driveEvent .closer .atA .completed 0 1] ∧
       told .gate (.strokeTimeout .gate) late = [.driveEvent .gate .fault .timeout 0 0] ∧
       high .opener (tasked .opener .toB .opening 1) = [.driveEvent .opener .blocked .obstruction 3000 1] ∧
       high .closer (tasked .closer .toB .closing 1) = [.driveEvent .closer .toA .reversal 3000 1] ∧
       told .opener (.currentSample .opener 1535) (tasked .opener .toB .opening 1) = [] ∧ stuck.loaded = true ∧
       told .release .measuringWheelPulse stuck = [.driveEvent .release .atA .completed 7 0] ∧
       told .release .stmPassage stuck = [.driveEvent .release .atA .completed 7 0]) := by
  decide +kernel

/-- A door task that starts on a BLOCKED channel with END_B active, and on one between its ends. -/
theorem witness_PassageMovesTheOldestEntry_notices :
    (let s := fun ch b =>
       withDrive ch { DriveChannel.reset with state := .blocked, endB := ⟨b, 0⟩, peak := 7, retry := 2 }
         (withStation [entryIn (if ch = .opener then .opn else .cls)] (place c14 .station running))
     let told := fun ch c s => (sent c s).filter (Notice.ofDrive ch)
     (s .opener true).loaded = true ∧ (s .opener true).ssv.mode = .run ∧
       told .opener .opnPassage (s .opener true) = [.driveEvent .opener .atB .completed 7 2] ∧
       told .closer .clsPassage (s .closer true) = [.driveEvent .closer .atB .completed 7 0] ∧
       told .opener .opnPassage (s .opener false) = []) := by
  decide +kernel

/-- Counters of PASSAGE, GRIP_FAIL and BAD_CYCLE at their wrap with notify on: the second, a freeze trigger, tells the
freeze it sets; the third, a member of the group, is held by it. -/
theorem witness_TallyOverflowsAreSent :
    (let n := fun src s =>
       let t := atWrap src s
       { t with tal := { t.tal with counters := t.tal.counters.map fun k => { k with notify := true } } }
     let told := fun c s => (sent c s).filter (Notice.ofKind 0xC9)
     let g := withStation [entryIn .gat]
       { place c14 .station running with lnu := { running.lnu with window := some ⟨0, some c14, 0, 2000⟩ } }
     (n .passage up).loaded = true ∧
       told .lckPassage (n .passage up) = [.tallyOverflow 0 .passage 0 false, .tallyOverflow 1 .passage 0 true] ∧
       told .grpTrailingEdge (n .gripFail g) = [.tallyOverflow 0 .gripFail 0 false, .tallyOverflow 1 .gripFail 0 true] ∧
       told .measuringWheelPulse (n .gripFail (atRd 1496 g)) =
         [.tallyOverflow 0 .gripFail 0 false, .tallyOverflow 1 .gripFail 0 true] ∧
       told (.badCycle brokenBits) (n .badCycle locked) =
         [.tallyOverflow 0 .badCycle 0 false, .tallyOverflow 1 .badCycle 0 true] ∧
       told .lckPassage (atWrap .passage up) = []) := by
  decide +kernel

/-- A level counter at its wrap with notify on, with and without freeze trigger, and one short of it. -/
theorem witness_TallySampleAddsItsLevels_notices :
    (let s := fun v trigger => counting { fillCounter with notify := true, trigger := trigger, value := v }
     let told := fun s => sent .tallySample s
     (s 4294967295 true).loaded = true ∧ ((s 4294967295 true).counter 0).member = false ∧
       told (s 4294967295 true) = [.tallyOverflow 0 .rxStoreFill 0 true] ∧
       told (s 4294967295 false) = [.tallyOverflow 0 .rxStoreFill 0 false] ∧ told (s 4294967294 true) = [] ∧
       (after .tallySample (s 4294967294 true)).tal.frozen = false) := by
  decide +kernel

/-- LINK_STATE at the fourth sound cycle, at the sixteenth bad one in a row, and at the loss of the link, with the
CALL_EVENT of each channel not in IDLE. -/
theorem witness_LinkStateNotices :
    (let confirm := withRx (fun r => { r with sync := .confirm, confirm := 3 }) up
     let bad := fun n => withRx (fun r => { r with badRun := n, relocks := 4 }) locked
     let told := fun c s => (sent c s).filter (Notice.ofKind 0xC6)
     let lost := { calling .ringing .ring .seize 100 with lkc := up.lkc }
     told (.confirmCycle (soundBits 0)) confirm = [.linkState .locked false 1] ∧
       told (.confirmCycle brokenBits) confirm = [] ∧ told (.badCycle brokenBits) (bad 14) = [] ∧
       told (.badCycle brokenBits) (bad 15) = [.linkState .hunt false 4] ∧
       told .linkLossExpiry lost = [.linkState .hunt true 0] ∧
       (sent .linkLossExpiry lost).filter (Notice.ofCall .a) = [.callEvent .a .idle none .linkLost] ∧
       (sent .linkLossExpiry lost).filter (Notice.ofCall .b) = []) := by
  decide +kernel

/-- The record discarded at the sixteenth bad cycle: with one held text of 14 bytes the fill falls to 16, and with one
of 15 to 17. -/
theorem witness_BadCycleIsCountedAndUnlocks_pause :
    (let s := fun n => taking (List.replicate 20 0) false
       (withChan (fun r => { r with texts := [List.replicate n 0x41], ownPause := true })
         (withRx (fun r => { r with badRun := 15 }) locked))
     (s 14).loaded = true ∧ (s 14).lkc.chan.fill = 36 ∧
       (after (.badCycle brokenBits) (s 14)).lkc.chan.ownPause = false ∧
       (after (.badCycle brokenBits) (s 15)).lkc.chan.ownPause = true ∧
       (after (.badCycle brokenBits) (s 15)).lkc.chan.assembly = none) := by
  decide +kernel

/-- A message byte that takes the fill to 47, and to 48; a text of two bytes that comes whole, its LINE_TEXT_READY, and
the pause it may leave; a tower word of an undefined state; a LOST cabin that ARRIVED finds. -/
theorem witness_GoodCycleIsApplied_pause :
    (let s := fun n => taking [0x41, 2] false (withChan (fun r => { r with texts := [List.replicate n 0x41] }) locked)
     let one := fun s => after (.goodCycle (slotBits (slotOf 14 false) 0)) s
     let two := fun n => taking [0x41, 1] false (withChan (fun r => { r with texts := [List.replicate n 0x41] }) locked)
     let whole := Instr.goodCycle (slotBits (slotOf 14 true) 0)
     let tower := after (.goodCycle (soundBits (18 * 1024 + 7))) locked
     (s 42).lkc.chan.fill = 46 ∧ (one (s 42)).lkc.chan.fill = 47 ∧ (one (s 42)).lkc.chan.ownPause = false ∧
       (one (s 43)).lkc.chan.fill = 48 ∧ (one (s 43)).lkc.chan.ownPause = true ∧ (two 43).lkc.chan.fill = 47 ∧
       (after whole (two 43)).lkc.chan.ownPause = true ∧
       (sent whole (two 43)).filter (Notice.ofKind 0xC7) = [.lineTextReady 1 2] ∧
       (sent whole (taking [0x21, 1] false (placedAt .lost locked))).filter (Notice.ofKind 0xC4) =
         [.cabinEvent .found c14] ∧
       (sent whole (taking [0x21, 1] false (placedAt .unplaced locked))).filter (Notice.ofKind 0xC4) = [] ∧
       (towerState (RxCycle.ofBits (soundBits (18 * 1024 + 7))).slots.tower).isNone ∧
       tower.lkc.towers = { locked.lkc.towers with invalidState := 1 }) := by
  decide +kernel

/-- The CALL_EVENT of each timer and of each request of the host. -/
theorem witness_CallEventsAreSent :
    (let told := fun c s => (sent c s).filter (Notice.ofCall .a)
     let ring := { calling .ringing .ring .seize 0 with ssv := up.ssv }
     told (.seizeTimeExpiry .a) (calling .seizing .seize .idle 500) = [.callEvent .a .clearing none .noResponse] ∧
       told (.ringTimeExpiry .a) (calling .ringing .ring .seize 30000) = [.callEvent .a .clearing none .noAnswer] ∧
       told (.clearGuardExpiry .a) (calling .clearing .guard .seize 100) =
         [.callEvent .a .ringing (some .incoming) .incoming] ∧
       told (.clearGuardExpiry .a) (calling .clearing .guard .idle 100) = [.callEvent .a .idle none .cleared] ∧
       told (.placeCall 1 [0]) up = [.callEvent .a .seizing (some .outgoing) .placed] ∧
       told (.answerCall 1 [0]) ring = [.callEvent .a .connected none .answered] ∧
       told (.endCall 1 [0]) ring = [.callEvent .a .clearing none .localClear]) := by
  decide +kernel

/-- A part in RUN whose host holds launches. -/
def holding : State :=
  let t := after (.holdLaunches 1 []) running
  { t with spt := { t.spt with replies := [], notices := [] } }

/-- A part with the host hold set: its table is settled, an acknowledgement and a host stop leave HOST_HOLD as it is. -/
theorem witness_AcknowledgementsAndHostStops_holding :
    (let t := after (.ackCause 1 [3]) (latched .ropeDerail holding)
     let u := after (.hostStop 1 [4]) holding
     (latched .ropeDerail holding).conditionsKept ∧ holding.conditionsKept ∧ (latched .ropeDerail holding).serving ∧
       holding.serving ∧ holding.stopsFollow ∧
       (holding.active .hostHold = true ∧ (holding.cause .hostHold).last = .absent ∧
         t.cause .hostHold = holding.cause .hostHold ∧ (t.cause .ropeDerail).latched = false ∧
         u.cause .hostHold = holding.cause .hostHold ∧ u.active .hostStopEmg = true ∧
         (after (.ackAll 1 []) (latched .ropeDerail holding)).spt.replies = [replyIs 0x20 1 .ok [1, 1]])) := by
  refine ⟨conditionsKept_of _ ?_, conditionsKept_of _ ?_, ?_, ?_, ?_, by decide +kernel⟩ <;>
  simp only [State.trackJudged, State.gateJudged, State.speedJudged, State.serving, State.stopsFollow] <;>
  decide +kernel

/-- RUN with the SWITCH at LINE, and at STORE with the clearance of 3,000 and one short of it. -/
theorem witness_ModeAndRestrictionFollowTheirChecks_switch :
    (let s := fun d (rd : Word32) =>
       withDrive .switch d (atRd rd { homed with stu := { homed.stu with lastArr := some 0 } })
     let go := fun d rd => after (.setMode 1 [2]) (s d rd)
     let b : DriveChannel := { homeDrive with state := .atB, endA := ⟨false, 0⟩, endB := ⟨true, 0⟩ }
     (s b 3000).serving ∧ (s b 3000).ssv.mode = .service ∧ (go b 3000).ssv.mode = .run ∧
       (go b 3000).stu.wanted = some .line ∧ (go b 3000).dru.switch.state = .toA ∧
       (go b 3000).stu.throwPending = false ∧ (go b 2999).dru.switch = b ∧ (go b 2999).stu.throwPending = true ∧
       (go homeDrive 2999).dru.switch = homeDrive ∧ (go homeDrive 2999).stu.throwPending = false) := by
  unfold State.serving; decide +kernel

/-- IDENTIFY before the profile load, after a power-on. -/
theorem witness_ReadsAnswerAndChangeNothing_identify :
    (let s := State.reset
     s.ssv.mode ≠ .off ∧ s.spt.stopped = false ∧ s.spt.replies.length < 4 ∧ s.loaded = false ∧
       (after (.identify 1 []) s).spt.replies = [replyIs 0x2C 1 .ok [4, 16, 1, 0, 0, 0, 0, 0]]) := by
  decide +kernel

/-- The launch counts of the working profile: those fixed by a commit take their place at its completion with an equal
read-back, and not at one that ends WORN; UNREGISTER_CABIN takes a number out. -/
theorem witness_CommitFixesAndStoresTheProfile_counts :
    (let s := { committing with pfs := { committing.pfs with
       commit := committing.pfs.commit.map fun k =>
         { k with contents := { k.contents with regs := k.contents.regs.set 3 (some 7) } } } }
     let done' := after (.commitCompletion true) s
     let reg := fun s => after (.registerCabin 1 [4, 0, 9]) s
     (s.pfs.commit.map Commit.tag) = some (some 1) ∧ s.pfs.counts[3] = none ∧ done'.pfs.counts[3] = some 7 ∧
       (after (.commitCompletion false) s).pfs.counts[3] = none ∧ (reg done').serving ∧
       ((reg done').cab 3).launches = 9 ∧ (reg done').pfs.counts[3] = some 7 ∧
       (after (.unregisterCabin 1 [4]) (reg done')).pfs.counts[3] = none ∧
       (after (.unregisterCabin 1 [4]) (reg done')).pfs.status = .modified) := by
  unfold State.serving; decide +kernel

/-- SET_SWITCH from each state that takes it: the stroke, its reversal, the homing, and an end that is active already.
-/
theorem witness_StationRequestsStartStrokes_states :
    (let s := fun st a b => { switching st a b none 3000 with ssv := up.ssv }
     let set := fun n s => shape (after (.setSwitch 1 [n]) s)
     (s .atB false true).serving ∧ (s .atB false true).ssv.mode = .service ∧
       set 1 (s .atB false true) = (.atB, 7, some 3) ∧ set 0 (s .atB false true) = (.toA, 0, some 5) ∧
       set 1 (s .toB false false) = (.toB, 7, some 3) ∧ set 0 (s .toB false false) = (.toA, 7, some 5) ∧
       set 1 (s .toA false false) = (.toB, 7, some 5) ∧ set 0 (s .unknown false false) = (.toA, 0, some 5) ∧
       set 1 (s .blocked false false) = (.toB, 0, some 5) ∧ set 1 (s .blocked false true) = (.atB, 7, none) ∧
       sent (.setSwitch 1 [1]) (s .blocked false true) = [.driveEvent .switch .atB .completed 7 1]) := by
  unfold State.serving; decide +kernel

/-- DRIVE_TEST from each state that takes it. -/
theorem witness_StationRequestsStartStrokes_tests :
    (let s := fun st a b => { switching st a b none 3000 with ssv := up.ssv }
     let test := fun n s => shape (after (.driveTest 1 [3, n]) s)
     test 0 (s .unknown false false) = (.toA, 0, some 5) ∧ test 0 (s .atB false true) = (.toA, 0, some 5) ∧
       test 0 (s .toB false false) = (.toA, 7, some 5) ∧ test 1 (s .toA false false) = (.toB, 7, some 5) ∧
       test 0 (s .blocked false false) = (.toA, 0, some 5) ∧ test 0 (s .blocked true false) = (.atA, 7, none) ∧
       test 0 (s .fault false false) = (.toA, 0, some 5) ∧ test 0 (s .fault true false) = (.atA, 7, none) ∧
       sent (.driveTest 1 [3, 0]) (s .fault true false) = [.driveEvent .switch .atA .completed 7 1]) := by
  decide +kernel

/-- BIND_ENTRY of a LOST cabin sends FOUND, and of an UNPLACED one no notice. -/
theorem witness_CabinsAreMovedByHand_found :
    (let b := fun l => withStation [⟨0, .unidentified .pass 13183, .grp, 0, false⟩] (place c14 l up)
     (b .lost).serving ∧
       (sent (.bindEntry 1 [0, 14]) (b .lost)).filter (Notice.ofKind 0xC4) = [.cabinEvent .found c14] ∧
       (sent (.bindEntry 1 [0, 14]) (b .unplaced)).filter (Notice.ofKind 0xC4) = []) := by
  unfold State.serving; decide +kernel

/-! ### Witnesses of the change counts, of the SWITCH at a computed route and of the GATE's strokes -/

/-- A step on a state with one command in its queue carries that command out. -/
theorem step_fed (c : Instr) (s : State) : step (fed c s) = .next (ran c s) := by cases c <;> rfl

/-- A command that is one event is so at the front of a queue. -/
theorem fed_singleEvent {c : Instr} {s : State} (h : s.singleEvent c) :
    ∀ d rest, (fed c s).pending = d :: rest → (fed c s).singleEvent d := by
  intro d rest e
  obtain ⟨rfl, -⟩ := List.cons.inj e
  exact h

/-- A request at the front of a queue is taken by the next step. -/
theorem fed_takes {c : Instr} {s : State} {kind tag : Byte} {body : List Byte}
    (h : takenParts c = some (kind, tag, body)) : (fed c s).takes kind body := ⟨c, tag, [], rfl, h⟩

/-- The five change counts. -/
def counts (s : State) : List Nat :=
  let l := s.lists
  [l.stationCount, l.storageCount, l.upLineCount, l.summitCount, l.downLineCount].map BitVec.toNat

/-- The completed launch changes two lists, DECLARE_LOST and WITHDRAW_CABIN one, a count wraps, and a cycle that completes
255 bits is one event. -/
theorem witness_UpLineGrowsOnlyByACompletedLaunch_counts :
    step (fed .attPassage leaving) = .next (ran .attPassage leaving) ∧
      (∀ c rest, (fed .attPassage leaving).pending = c :: rest → (fed .attPassage leaving).singleEvent c) ∧
      degraded.singleEvent (.badCycle (List.replicate 128 ⟨false, true⟩)) ∧
      ¬degraded.singleEvent (.badCycle (List.replicate 129 ⟨false, true⟩)) ∧ ¬up.singleEvent (.badFrame []) ∧
      (let full := { up with lists := { (placedAt .summit up).lists with summitCount := 65535 }
                             cabins := (placedAt .summit up).cabins }
       (ran .attPassage leaving).ssv.mode ≠ .off ∧
         counts leaving = [0, 0, 0, 0, 0] ∧ counts (ran .attPassage leaving) = [1, 0, 1, 0, 0] ∧
         counts (ran .gatPassage leaving) = [1, 0, 0, 0, 0] ∧ counts (ran .measuringWheelPulse leaving) = [0, 0, 0, 0, 0] ∧
         counts (ran (.declareLost 1 [14]) (placedAt .downLine up)) = [0, 0, 0, 0, 1] ∧
         counts (ran (.withdrawCabin 1 [14]) (placedAt .storage up)) = [0, 1, 0, 0, 0] ∧
         counts full = [0, 0, 0, 65535, 0] ∧ counts (ran (.declareLost 1 [14]) full) = [0, 0, 0, 0, 0]) :=
  ⟨step_fed _ _, fed_singleEvent (by unfold State.singleEvent; trivial), by unfold State.singleEvent; decide +kernel,
    by unfold State.singleEvent; decide +kernel, fun h => h, by decide +kernel⟩

/-- A launch decision begins a GATE stroke toward END_B, and so does DRIVE_TEST in SERVICE. -/
theorem witness_NewLaunchesAreOfReadyCabinsInRun_gate :
    step (fed .launchDecision launching) = .next (ran .launchDecision launching) ∧
      strokeBegun .gate .b (fed .launchDecision launching) (ran .launchDecision launching) ∧
      (ran .launchDecision launching).dru.gate.strokeStart = some launching.clock.ms ∧
      step (fed (.driveTest 1 [5, 1]) homed) = .next (ran (.driveTest 1 [5, 1]) homed) ∧
      strokeBegun .gate .b (fed (.driveTest 1 [5, 1]) homed) (ran (.driveTest 1 [5, 1]) homed) ∧
      (fed (.driveTest 1 [5, 1]) homed).takes 0x0E (testBody .gate .b) ∧ homed.ssv.mode = .service ∧
      homed.lnu.flight = none ∧ (ran (.driveTest 1 [5, 1]) homed).ssv.mode ≠ .off := by
  refine ⟨step_fed _ _, ?_, ?_, step_fed _ _, ?_, fed_takes (tag := 1) rfl, ?_, ?_, ?_⟩ <;>
    (try unfold strokeBegun) <;> decide +kernel

/-- A retired head of the down-line, the SWITCH in a state, and so far behind the arrival at 0. -/
def retiring (st : DriveState) (rd : Word32) : State :=
  { switching st false false (some .line) rd with
    cabins := (placedAt .downLine running).cabins, lists := (placedAt .downLine running).lists }

/-- The retire flag of the head, its loss, an ARR passage and the entry into RUN compute the route; the SWITCH is thrown
at once with the clearance, and the throw waits without it. -/
theorem witness_SwitchThrowWaitsForTheClearance_computed :
    (let go := fun c s => (let t := ran c s; (t.stu.wanted, t.dru.switch.state, t.stu.throwPending))
     let retire : Instr := .retireCabin 1 [14, 1]
     let s := retiring .atA 3000
     step (fed retire s) = .next (ran retire s) ∧ s.placed ∧ routeComputed s (ran retire s) ∧
       routeComputed homed (ran (.setMode 1 [2]) homed) ∧ routeComputed (fed .arrPassage s) (ran .arrPassage s) ∧
       go retire s = (some .store, .toB, false) ∧ go retire (retiring .atA 2999) = (some .store, .atA, true) ∧
       go retire (retiring .fault 3000) = (some .store, .fault, true) ∧
       go (.declareLost 1 [14]) (retiring .toB 3000) = (some .line, .toA, false) ∧
       go .arrPassage (retiring .atB 3000) = (some .line, .atB, true) ∧
       go (.setMode 1 [2]) homed = (some .line, .atA, false)) := by
  unfold State.placed routeComputed
  refine ⟨step_fed _ _, ?_, ?_, ?_, ⟨?_, .inr (.inr ⟨?_, [], rfl⟩)⟩, ?_, ?_, ?_, ?_, ?_, ?_⟩
  · decide +kernel
  · exact ⟨by decide +kernel, .inr (.inl (by decide +kernel))⟩
  · exact ⟨by decide +kernel, .inl (by decide +kernel)⟩
  all_goals decide +kernel

/-- The SWITCH begins a stroke by the throw, by SET_SWITCH and by DRIVE_TEST. -/
theorem witness_SwitchThrowWaitsForTheClearance_begun :
    (let hand := { switching .atA true false none 3000 with ssv := up.ssv }
     let auto := switching .atA true false (some .store) 3000
     step (fed .switchThrow auto) = .next (ran .switchThrow auto) ∧
       strokeBegun .switch .b (fed .switchThrow auto) (ran .switchThrow auto) ∧
       (ran .switchThrow auto).ssv.mode = .run ∧ Route.wantedEnd .store = .b ∧ Route.wantedEnd .line = .a ∧
       strokeBegun .switch .b (fed (.setSwitch 1 [1]) hand) (ran (.setSwitch 1 [1]) hand) ∧
       (fed (.setSwitch 1 [1]) hand).takes 0x0B [1] ∧
       strokeBegun .switch .b (fed (.unknownKind 0x0E 1 [3, 1]) hand) (ran (.unknownKind 0x0E 1 [3, 1]) hand) ∧
       (fed (.unknownKind 0x0E 1 [3, 1]) hand).takes 0x0E (testBody .switch .b) ∧ hand.ssv.mode = .service ∧
       (ran (.setSwitch 1 [1]) hand).clearAt hand.rmu.rd = true) := by
  unfold strokeBegun
  refine ⟨step_fed _ _, ?_, ?_, ?_, ?_, ?_, fed_takes (tag := 1) rfl, ?_, fed_takes (tag := 1) rfl, ?_, ?_⟩ <;>
    decide +kernel

/-! ### Witnesses of a trailing edge without a window, of a cabin that has gone, of a second deadline and of a bound task -/

/-- A GRP trailing edge with no window open: only the input's level changes. -/
theorem witness_GripWindowClosesAtTrailingEdge_noWindow :
    (let s := { running with stu := { running.stu with inputs := running.stu.inputs.put .grp ⟨true, 4⟩ } }
     s.loaded = true ∧ s.lnu.window = none ∧ after .grpTrailingEdge s ≠ s ∧
       (after .grpTrailingEdge s).stu.inputs.get .grp = ⟨false, 0⟩ ∧ (after .grpTrailingEdge s).lnu = s.lnu) := by
  decide +kernel

/-- The opener reaches END_B for a cabin that has been withdrawn: its door state stays, and the channel returns. -/
theorem witness_DoorTasksActAtTheirEnds_withdrawn :
    (let s := place c14 .withdrawn (tasked .opener .toB .opening 0)
     let t := after (.endInputChange .opener .b true) s
     (s.cab c14).location ≠ .station ∧ (s.dru.get .opener).task = some ⟨0, some c14, .opening, 0⟩ ∧
       (s.dru.get .opener).state = toEnd .b ∧ t.cab c14 = s.cab c14 ∧ (t.dru.get .opener).state = .toA) := by
  decide +kernel

/-- The deadline missed after an early KEEPALIVE: HOST_SILENT is active already, and no occurrence is added. -/
theorem witness_HostIsSupervised_early :
    (let s := { up with pfs := { up.pfs with working := { up.pfs.working with hkWindow := 1 } } }
     let s := after (.keepalive 1 []) (after (.keepalive 1 []) s)
     let t := after .hostDeadlineMissed (atMs 500 s)
     s.active .hostSilent = true ∧ s.ssv.deadline = some ⟨0, false⟩ ∧ (atMs 500 s).stopsFollow ∧
       (s.cause .hostSilent).count = 1 ∧ t.ssv.deadline = none ∧ (t.cause .hostSilent).count = 1 ∧
       (after .hostDeadlineMissed (atMs 499 s)).ssv.deadline = some ⟨0, false⟩) := by
  unfold State.stopsFollow; decide +kernel

/-- BIND_ENTRY of an entry that the closer is at work for, and of another. -/
theorem witness_CabinsAreMovedByHand_task :
    (let s := fun n => withDrive .closer
       { homeDrive with state := .toB, strokeStart := some 0, task := some ⟨n, none, .closing, 0⟩ }
       (withStation [⟨0, .unidentified .none 0, .lck, 0, false⟩] (place c14 .unplaced up))
     let task := fun n => (after (.bindEntry 1 [0, 14]) (s n)).dru.closer.task
     (s 0).serving ∧ task 0 = some ⟨0, some c14, .closing, 0⟩ ∧ task 1 = some ⟨1, none, .closing, 0⟩) := by
  unfold State.serving; decide +kernel

end Sys2Proof.Tests
end

section
/-! PROOFS. How a part that serves requests takes one of a known kind, and what each check of a request's own rule
answers: the layer that every statement on a request goes through (R10, R192). -/

namespace Sys2Proof.Machine

/-! ### A request at a part that serves -/

/-- No check of R192 holds back a request of an allowed length: its own rule answers it. -/
theorem serve_of_serving {s : State} (hs : s.serving) (r : Request) (tag : Byte) {body : List Byte}
    (hl : r.lengthOk body = true) : serve r tag body s = carryOut r tag body (hunting s) := by
  obtain ⟨hmode, hstopped, hloaded, hroom⟩ := hs
  have hlistening : s.listening = true := by simp [State.listening, hmode, hstopped]
  have hroom' : ¬ 4 ≤ (hunting s).spt.replies.length := Nat.not_le.mpr hroom
  simp [serve, judge, hlistening, hroom', hl, hloaded]

/-- A refusal of the request's own rule leaves its reply alone. -/
theorem serve_refused {s : State} (hs : s.serving) (r : Request) (tag : Byte) {body data : List Byte} {st : Status}
    (hl : r.lengthOk body = true) (h : r.handle body (hunting s) = .refuse st data) :
    serve r tag body s = s.answered (replyIs r.kind tag st data) := by
  simp only [serve_of_serving hs r tag hl, carryOut, h]
  rfl

/-- A request carried out is answered OK in the state that its own rule leaves. -/
theorem serve_accepted {s t : State} (hs : s.serving) (r : Request) (tag : Byte) {body data : List Byte}
    (hl : r.lengthOk body = true) (h : r.handle body (hunting s) = .ok t data) :
    serve r tag body s = answer r.kind tag .ok data t := by
  simp only [serve_of_serving hs r tag hl, carryOut, h]

/-! ### The checks of a rule, in their order -/

@[simp] theorem checks_nil (a : Answer) : checks [] a = a := rfl
@[simp] theorem checks_fails (st : Status) (l : List (Bool × Status)) (a : Answer) :
    checks ((true, st) :: l) a = .refuse st [] := rfl
@[simp] theorem checks_passes (st : Status) (l : List (Bool × Status)) (a : Answer) :
    checks ((false, st) :: l) a = checks l a := rfl

@[simp] theorem withArg_some {α : Type} (v : α) (f : α → Answer) : withArg (some v) f = f v := rfl
@[simp] theorem withArg_none {α : Type} (f : α → Answer) : withArg none f = .refuse .badValue [] := rfl

@[simp] theorem State.notService_eq_true {s : State} : s.notService = true ↔ s.ssv.mode ≠ .service := by
  simp [State.notService]
@[simp] theorem State.notService_eq_false {s : State} : s.notService = false ↔ s.ssv.mode = .service := by
  simp [State.notService]

@[simp] theorem State.unknownCabin_eq_true {s : State} {c : Cabin} :
    s.unknownCabin c = true ↔ (s.cab c).registered = false := by
  simp [State.unknownCabin]
@[simp] theorem State.unknownCabin_eq_false {s : State} {c : Cabin} :
    s.unknownCabin c = false ↔ (s.cab c).registered = true := by
  simp [State.unknownCabin]

@[simp] theorem State.aside_eq_true {s : State} {c : Cabin} :
    s.aside c = true ↔ (s.cab c).location = .unplaced ∨ (s.cab c).location = .withdrawn := by
  simp [State.aside]
theorem State.aside_eq_false {s : State} {c : Cabin} :
    s.aside c = false ↔ ¬((s.cab c).location = .unplaced ∨ (s.cab c).location = .withdrawn) := by
  rw [← State.aside_eq_true, Bool.not_eq_true]

/-! ### The cabin operand (R202) -/

/-- The byte that spells a cabin's number stands for that cabin. -/
@[simp] theorem cabinArg_number (c : Cabin) : cabinArg (BitVec.ofNat 8 (c.val + 1)) = some c := by
  have hc : c.val < 96 := c.isLt
  have hnat : (BitVec.ofNat 8 (c.val + 1)).toNat = c.val + 1 := by
    rw [BitVec.toNat_ofNat]; omega
  have hrange : 1 ≤ c.val + 1 ∧ c.val + 1 ≤ 96 := by omega
  simp [cabinArg, hnat, cabinOf, hrange]

theorem cabinArg_outside {m : Byte} (h : m.toNat = 0 ∨ 96 < m.toNat) : cabinArg m = none := by
  have hrange : ¬(1 ≤ m.toNat ∧ m.toNat ≤ 96) := by omega
  exact dif_neg hrange

/-- A rule on one cabin refuses a number outside 1..96 before its own checks (R10 check 1). -/
theorem cabinRule_badValue {m : Byte} (h : m.toNat = 0 ∨ 96 < m.toNat) (f : Cabin → State → Answer) (s : State) :
    cabinRule f [m] s = .refuse .badValue [] := by
  simp [cabinRule, cabinArg_outside h]

/-- A rule on one cabin is its own checks for a number of 1..96. -/
@[simp] theorem cabinRule_number (c : Cabin) (f : Cabin → State → Answer) (s : State) :
    cabinRule f [BitVec.ofNat 8 (c.val + 1)] s = f c s := by
  simp [cabinRule]

end Sys2Proof.Machine
end

section
/-! PROOFS. The registration of cabins and their service counts (R11, R12, R18): what the three rules answer in each
case, and the statement RegistrationAndServiceCounts. -/

namespace Sys2Proof.Machine

/-! ### REGISTER_CABIN (R11) -/

theorem registerCabinRule_badValue {m : Byte} (h : m.toNat = 0 ∨ 96 < m.toNat) (a b : Byte) (s : State) :
    registerCabinRule [m, a, b] s = .refuse .badValue [] := by
  simp [registerCabinRule, cabinArg_outside h]

/-- The checks of REGISTER_CABIN on a number of 1..96, and what it leaves when they pass. -/
theorem registerCabinRule_number (c : Cabin) (a b : Byte) (s : State) :
    registerCabinRule [BitVec.ofNat 8 (c.val + 1), a, b] s =
      checks
        [(s.notService, .wrongMode), (s.committing, .busy), ((s.cab c).registered && !s.aside c, .wrongState)]
        (.ok (modified (putCab c ((s.cab c).registeredAs s.pfs.working (be16 a b)) s)) []) := by
  simp [registerCabinRule]

section
variable {s : State} {c : Cabin} {a b : Byte}

theorem registerCabinRule_wrongMode (hm : s.ssv.mode ≠ .service) :
    registerCabinRule [BitVec.ofNat 8 (c.val + 1), a, b] s = .refuse .wrongMode [] := by
  simp [registerCabinRule_number, State.notService_eq_true.mpr hm]

theorem registerCabinRule_busy (hm : s.ssv.mode = .service) (hc : s.pfs.commit.isSome) :
    registerCabinRule [BitVec.ofNat 8 (c.val + 1), a, b] s = .refuse .busy [] := by
  simp [registerCabinRule_number, State.notService_eq_false.mpr hm, State.committing, hc]

theorem registerCabinRule_wrongState (hm : s.ssv.mode = .service) (hc : s.pfs.commit = none)
    (hr : (s.cab c).registered = true)
    (ha : ¬((s.cab c).location = .unplaced ∨ (s.cab c).location = .withdrawn)) :
    registerCabinRule [BitVec.ofNat 8 (c.val + 1), a, b] s = .refuse .wrongState [] := by
  simp [registerCabinRule_number, State.notService_eq_false.mpr hm, State.committing, hc, hr,
    State.aside_eq_false.mpr ha]

theorem registerCabinRule_accepts (hm : s.ssv.mode = .service) (hc : s.pfs.commit = none)
    (h : (s.cab c).registered = false ∨ (s.cab c).location = .unplaced ∨ (s.cab c).location = .withdrawn) :
    registerCabinRule [BitVec.ofNat 8 (c.val + 1), a, b] s =
      .ok (modified (putCab c ((s.cab c).registeredAs s.pfs.working (be16 a b)) s)) [] := by
  have hfree : ((s.cab c).registered && !s.aside c) = false := by
    obtain hr | ha := h
    · simp [hr]
    · simp [State.aside_eq_true.mpr ha]
  simp [registerCabinRule_number, State.notService_eq_false.mpr hm, State.committing, hc, hfree]

end

/-! ### UNREGISTER_CABIN (R12) -/

section
variable {s : State} {c : Cabin}

theorem unregisterCabinRule_wrongMode (hm : s.ssv.mode ≠ .service) :
    unregisterCabinRule [BitVec.ofNat 8 (c.val + 1)] s = .refuse .wrongMode [] := by
  simp [unregisterCabinRule, State.notService_eq_true.mpr hm]

theorem unregisterCabinRule_busy (hm : s.ssv.mode = .service) (hc : s.pfs.commit.isSome) :
    unregisterCabinRule [BitVec.ofNat 8 (c.val + 1)] s = .refuse .busy [] := by
  simp [unregisterCabinRule, State.notService_eq_false.mpr hm, State.committing, hc]

theorem unregisterCabinRule_notFound (hm : s.ssv.mode = .service) (hc : s.pfs.commit = none)
    (hr : (s.cab c).registered = false) :
    unregisterCabinRule [BitVec.ofNat 8 (c.val + 1)] s = .refuse .notFound [] := by
  simp [unregisterCabinRule, State.notService_eq_false.mpr hm, State.committing, hc,
    State.unknownCabin_eq_true.mpr hr]

theorem unregisterCabinRule_wrongState (hm : s.ssv.mode = .service) (hc : s.pfs.commit = none)
    (hr : (s.cab c).registered = true)
    (ha : ¬((s.cab c).location = .unplaced ∨ (s.cab c).location = .withdrawn)) :
    unregisterCabinRule [BitVec.ofNat 8 (c.val + 1)] s = .refuse .wrongState [] := by
  simp [unregisterCabinRule, State.notService_eq_false.mpr hm, State.committing, hc,
    State.unknownCabin_eq_false.mpr hr, State.aside_eq_false.mpr ha]

theorem unregisterCabinRule_accepts (hm : s.ssv.mode = .service) (hc : s.pfs.commit = none)
    (hr : (s.cab c).registered = true)
    (ha : (s.cab c).location = .unplaced ∨ (s.cab c).location = .withdrawn) :
    unregisterCabinRule [BitVec.ofNat 8 (c.val + 1)] s =
      .ok (modified (forgetCount c (putCab c CabinRecord.unregistered s))) [] := by
  simp [unregisterCabinRule, State.notService_eq_false.mpr hm, State.committing, hc,
    State.unknownCabin_eq_false.mpr hr, State.aside_eq_true.mpr ha]

/-! ### CABIN_SERVICED (R18): neither the mode nor a commit is asked for -/

theorem cabinServicedRule_notFound (hr : (s.cab c).registered = false) :
    cabinServicedRule [BitVec.ofNat 8 (c.val + 1)] s = .refuse .notFound [] := by
  simp [cabinServicedRule, State.unknownCabin_eq_true.mpr hr]

theorem cabinServicedRule_wrongState (hr : (s.cab c).registered = true) (hst : (s.cab c).location ≠ .storage)
    (hw : (s.cab c).location ≠ .withdrawn) :
    cabinServicedRule [BitVec.ofNat 8 (c.val + 1)] s = .refuse .wrongState [] := by
  have helsewhere : (!((s.cab c).location == .storage || (s.cab c).location == .withdrawn)) = true := by
    simp [hst, hw]
  simp only [cabinServicedRule, cabinRule_number, State.unknownCabin_eq_false.mpr hr, helsewhere, checks_passes,
    checks_fails]

theorem cabinServicedRule_accepts (hr : (s.cab c).registered = true)
    (hl : (s.cab c).location = .storage ∨ (s.cab c).location = .withdrawn) :
    cabinServicedRule [BitVec.ofNat 8 (c.val + 1)] s =
      .ok (putCab c { s.cab c with launches := 0, due := false } s) [] := by
  have hthere : (!((s.cab c).location == .storage || (s.cab c).location == .withdrawn)) = false := by
    obtain h | h := hl <;> simp [h]
  simp only [cabinServicedRule, cabinRule_number, State.unknownCabin_eq_false.mpr hr, hthere, checks_passes,
    checks_nil]

end

/-! ### The three commands at a part that serves -/

section
variable {s t : State} (hs : s.serving) (tag : Byte) {m a b : Byte} {st : Status}
include hs

theorem exec_registerCabin_refused (h : registerCabinRule [m, a, b] (hunting s) = .refuse st []) :
    exec (.registerCabin tag [m, a, b]) s = .next (s.answered (replyIs 0x01 tag st [])) :=
  congrArg Host.Outcome.next (serve_refused hs registerCabinRequest tag rfl h)

theorem exec_registerCabin_accepted (h : registerCabinRule [m, a, b] (hunting s) = .ok t []) :
    exec (.registerCabin tag [m, a, b]) s = .next (answer 0x01 tag .ok [] t) :=
  congrArg Host.Outcome.next (serve_accepted hs registerCabinRequest tag rfl h)

theorem exec_unregisterCabin_refused (h : unregisterCabinRule [m] (hunting s) = .refuse st []) :
    exec (.unregisterCabin tag [m]) s = .next (s.answered (replyIs 0x02 tag st [])) :=
  congrArg Host.Outcome.next (serve_refused hs unregisterCabinRequest tag rfl h)

theorem exec_unregisterCabin_accepted (h : unregisterCabinRule [m] (hunting s) = .ok t []) :
    exec (.unregisterCabin tag [m]) s = .next (answer 0x02 tag .ok [] t) :=
  congrArg Host.Outcome.next (serve_accepted hs unregisterCabinRequest tag rfl h)

theorem exec_cabinServiced_refused (h : cabinServicedRule [m] (hunting s) = .refuse st []) :
    exec (.cabinServiced tag [m]) s = .next (s.answered (replyIs 0x08 tag st [])) :=
  congrArg Host.Outcome.next (serve_refused hs cabinServicedRequest tag rfl h)

theorem exec_cabinServiced_accepted (h : cabinServicedRule [m] (hunting s) = .ok t []) :
    exec (.cabinServiced tag [m]) s = .next (answer 0x08 tag .ok [] t) :=
  congrArg Host.Outcome.next (serve_accepted hs cabinServicedRequest tag rfl h)

end

/-- Settles O53, clause by clause: in each case the answer of the request's own rule is carried to the command that
brings the request. -/
theorem registrationAndServiceCounts : Obligations.RegistrationAndServiceCounts := by
  unfold Obligations.RegistrationAndServiceCounts
  intro s tag c a b hs
  dsimp only
  refine ⟨fun hm => ?wrongMode, fun hm hc => ?busy,
    fun hm hc =>
      ⟨fun h => ?register, fun hr ha => ?elsewhere, fun hr => ?unregistered, fun hr ha => ?unregister⟩,
    fun hr hl => ?serviced, fun hr hst hw => ?notServiced, fun hr => ?unknown, fun m hout => ?badValue⟩
  case wrongMode =>
    exact ⟨exec_registerCabin_refused hs tag (registerCabinRule_wrongMode hm),
      exec_unregisterCabin_refused hs tag (unregisterCabinRule_wrongMode hm)⟩
  case busy =>
    exact ⟨exec_registerCabin_refused hs tag (registerCabinRule_busy hm hc),
      exec_unregisterCabin_refused hs tag (unregisterCabinRule_busy hm hc)⟩
  case register =>
    exact ⟨s.pfs.counts, exec_registerCabin_accepted hs tag (registerCabinRule_accepts hm hc h)⟩
  case elsewhere =>
    exact ⟨exec_registerCabin_refused hs tag (registerCabinRule_wrongState hm hc hr ha),
      exec_unregisterCabin_refused hs tag (unregisterCabinRule_wrongState hm hc hr ha)⟩
  case unregistered => exact exec_unregisterCabin_refused hs tag (unregisterCabinRule_notFound hm hc hr)
  case unregister =>
    exact ⟨s.pfs.counts.set c.val none c.isLt,
      exec_unregisterCabin_accepted hs tag (unregisterCabinRule_accepts hm hc hr ha)⟩
  case serviced => exact exec_cabinServiced_accepted hs tag (cabinServicedRule_accepts hr hl)
  case notServiced => exact exec_cabinServiced_refused hs tag (cabinServicedRule_wrongState hr hst hw)
  case unknown => exact exec_cabinServiced_refused hs tag (cabinServicedRule_notFound hr)
  case badValue =>
    exact ⟨exec_registerCabin_refused hs tag (registerCabinRule_badValue hout a b _),
      exec_unregisterCabin_refused hs tag (cabinRule_badValue hout _ _),
      exec_cabinServiced_refused hs tag (cabinRule_badValue hout _ _)⟩

end Sys2Proof.Machine
end

section
/-! PROOFS. What keeps the host hold: demand and stop lines follow the cause table, the host hold flag is shown by
HOST_HOLD, and under it no launch is decided. Each operation of the machine is carried through once (R90, R100, R171,
R172). -/

-- One lemma after the other: side by side, their proofs take more threads than the check's memory limit allows.
set_option Elab.async false

namespace Sys2Proof.Machine

/-! ### The effective demand -/

theorem Demand.rank_le_max (x y : Demand) : x.rank ≤ (x.max y).rank ∧ y.rank ≤ (x.max y).rank := by
  unfold Demand.max
  split <;> omega

/-- The fold of R171 never falls below the demand it starts from, nor below the category of a standing entry that it
meets. -/
theorem foldl_max_rank_le (p : Cause → Bool) (l : List Cause) (d : Demand) :
    d.rank ≤ (l.foldl (fun d c => if p c then d.max c.category else d) d).rank ∧
      ∀ c ∈ l, p c = true → c.category.rank ≤ (l.foldl (fun d c => if p c then d.max c.category else d) d).rank := by
  induction l generalizing d with
  | nil => simp
  | cons x l ih =>
    obtain ⟨hleft, hright⟩ := Demand.rank_le_max d x.category
    rw [List.foldl_cons, List.forall_mem_cons]
    by_cases hx : p x = true
    · rw [if_pos hx]
      obtain ⟨hstart, hmem⟩ := ih (d.max x.category)
      exact ⟨by omega, fun _ => by omega, hmem⟩
    · rw [if_neg hx]
      obtain ⟨hstart, hmem⟩ := ih d
      exact ⟨hstart, fun h => absurd h hx, hmem⟩

/-- A standing cause keeps the effective demand at its category or above (R171). -/
theorem category_le_highestDemand {s : State} {c : Cause} (h : (s.cause c).standing = true) :
    c.category.rank ≤ (highestDemand s.ssv.causes).rank :=
  (foldl_max_rank_le (fun c => (s.cause c).standing) Cause.all .none).2 c c.mem_all h

/-- The demands of HOLD and above, named (Table 10-1). -/
theorem Demand.hold_le_iff (d : Demand) : Demand.rank .hold ≤ d.rank ↔ d = .hold ∨ d = .service ∨ d = .emergency := by
  cases d <;> simp [Demand.rank]

/-- Only the standing field of an entry counts for the effective demand (R171). -/
theorem highestDemand_congr {s t : State} (h : ∀ c, (t.cause c).standing = (s.cause c).standing) :
    highestDemand t.ssv.causes = highestDemand s.ssv.causes := by
  have hentry : ∀ (u : State) (c : Cause), u.ssv.causes[c.ix.val]'c.ix.isLt = u.cause c := fun _ _ => rfl
  simp only [highestDemand, hentry, h]

/-! ### The host hold as the cause table shows it -/

theorem active_of_ssv {s t : State} (h : t.ssv = s.ssv) (c : Cause) : t.active c = s.active c :=
  congrArg CauseEntry.active (cause_of_ssv h c)

theorem stopsFollow_of_ssv {s t : State} (h : t.ssv = s.ssv) (hs : s.stopsFollow) : t.stopsFollow := by
  rwa [State.stopsFollow, h]

/-- Demand and stop lines follow the cause table, and HOST_HOLD is active while the host hold flag is set. -/
def State.holdShown (s : State) : Prop :=
  s.stopsFollow ∧ (s.lnu.hostHold = true → s.active .hostHold = true)

/-- Between two states no launch has been decided: RD_L stands, and no launch in flight has come. -/
def noLaunch (s t : State) : Prop := t.lnu.rdL = s.lnu.rdL ∧ (s.lnu.flight = none → t.lnu.flight = none)

/-- While HOST_HOLD is active the effective demand is HOLD or above (R171). -/
theorem demand_of_hostHold {s : State} (hs : s.stopsFollow) (ha : s.active .hostHold = true) :
    s.ssv.demand = .hold ∨ s.ssv.demand = .service ∨ s.ssv.demand = .emergency := by
  have hstanding : (s.cause .hostHold).standing = true := by
    unfold CauseEntry.standing
    rw [show (s.cause .hostHold).active = true from ha, Bool.true_or]
  rw [hs.1]
  exact (Demand.hold_le_iff _).mp (category_le_highestDemand hstanding)

/-- With the effective demand at HOLD or above the launch decision decides nothing (R89, condition 2). -/
theorem launchEval_of_demand {s : State}
    (h : s.ssv.demand = .hold ∨ s.ssv.demand = .service ∨ s.ssv.demand = .emergency) : launchEval s = s := by
  have hcond : s.launchConditions.all id = false := by
    obtain h | h | h := h <;> simp [State.launchConditions, h]
  unfold launchEval
  split
  · rw [hcond]; rfl
  · rfl

/-- With a launch in flight the launch decision decides nothing (R89, condition 11). -/
theorem launchEval_of_flight {s : State} (h : s.lnu.flight.isSome) : launchEval s = s := by
  have hcond : s.launchConditions.all id = false := by
    simp [State.launchConditions, Option.isNone_eq_false_iff.mpr h]
  unfold launchEval
  split
  · rw [hcond]; rfl
  · rfl

/-! ### The evaluation of the holds -/

theorem reportDetail_follows (c : Cause) (d : Detail) {s : State} (h : s.stopsFollow) :
    (reportDetail c d s).stopsFollow := by
  unfold reportDetail
  split
  · have hstanding : ∀ x, ((putCause c { s.cause c with last := d } s).cause x).standing = (s.cause x).standing := by
      intro x
      rw [cause_putCause]
      by_cases hx : x = c <;> simp [hx, CauseEntry.standing]
    exact ⟨h.1.trans (highestDemand_congr hstanding).symm, h.2⟩
  · exact h

theorem holdOn_follows (x : Cause × Bool × Detail) {s : State} (h : s.stopsFollow) : (holdOn x s).stopsFollow := by
  unfold holdOn
  split
  · split
    · exact reportDetail_follows _ _ h
    · exact reportActive_follows _ _ _ h.2
  · exact h

theorem holdOff_follows (x : Cause × Bool × Detail) {s : State} (h : s.stopsFollow) : (holdOff x s).stopsFollow := by
  unfold holdOff
  split
  · exact reportInactive_follows _ _ h.2
  · exact h

theorem active_holdOn (x : Cause × Bool × Detail) (c : Cause) (s : State) :
    (holdOn x s).active c = if c = x.1 then x.2.1 || s.active c else s.active c := by
  by_cases hc : c = x.1
  · subst hc
    unfold holdOn reportDetail
    (repeat' split) <;> simp_all [State.active, cause_reportActive, cause_putCause, CauseEntry.raised]
  · simp [State.active, cause_holdOn x s hc, hc]

theorem active_holdOff (x : Cause × Bool × Detail) (c : Cause) (s : State) :
    (holdOff x s).active c = if c = x.1 then x.2.1 && s.active c else s.active c := by
  by_cases hc : c = x.1
  · subst hc
    unfold holdOff
    split
    · simp_all [State.active, cause_reportInactive]
    · cases hx : x.2.1 <;> simp_all
  · simp [State.active, cause_holdOff x s hc, hc]

/-- HOST_HOLD is active after the evaluation of the holds exactly while the host hold flag is set (R90). -/
theorem active_holdEval_hostHold (s : State) : (holdEval s).active .hostHold = s.lnu.hostHold := by
  simp only [holdEval, State.holdConditions, List.foldl_cons, List.foldl_nil, active_holdOn, active_holdOff,
    reduceCtorEq, if_false, if_true]
  cases s.lnu.hostHold <;> rfl

theorem foldl_stopsFollow {α : Type} {f : State → α → State} (hf : ∀ s x, s.stopsFollow → (f s x).stopsFollow)
    (l : List α) {s : State} (h : s.stopsFollow) : (l.foldl f s).stopsFollow := by
  induction l generalizing s with
  | nil => exact h
  | cons x l ih => exact ih (hf s x h)

/-- The evaluation of the holds leaves the host hold shown, whatever HOST_HOLD was before. -/
theorem holdEval_shown {s : State} (h : s.stopsFollow) : (holdEval s).holdShown :=
  ⟨foldl_stopsFollow (fun _ x => holdOff_follows x) _ (foldl_stopsFollow (fun _ x => holdOn_follows x) _ h),
    fun hf => by rwa [active_holdEval_hostHold, ← (holdEval_within s).2.2.1]⟩

/-! ### Acknowledgements -/

theorem reportCondition_lines (c : Cause) (b : Bool) (d : Detail) {s : State} (h : s.linesFollow) :
    (reportCondition c b d s).linesFollow := by
  unfold reportCondition
  split
  · exact h
  · split
    · exact (reportActive_follows c d s h).2
    · exact (reportInactive_follows c s h).2

/-- What follows the clearing of causes brings demand and lines to what the table says (R171, R173). -/
theorem afterClearing_follows (b : Bool) {s : State} (h : s.linesFollow) : (afterClearing b s).stopsFollow := by
  unfold afterClearing
  split
  · have hevaluated : (evalDemand (putRestricted true s)).stopsFollow :=
      evalDemand_follows _ (reportCondition_lines _ _ _ h)
    simpa [State.stopsFollow, modeNotice] using hevaluated
  · exact evalDemand_follows s h

theorem active_afterClearing_hostHold (b : Bool) (s : State) :
    (afterClearing b s).active .hostHold = s.active .hostHold := by
  unfold afterClearing
  split
  · have hrestricted : (putRestricted true s).active .hostHold = s.active .hostHold :=
      active_reportCondition_other (by decide) _ _ _
    simpa [State.active, modeNotice] using hrestricted
  · simp [State.active]

theorem active_clearCause_fold {c : Cause} (l : List Cause) (s : State) (h : c ∉ l) :
    (l.foldl (fun s c => clearCause c s) s).active c = s.active c := by
  induction l generalizing s with
  | nil => rfl
  | cons x l ih =>
    obtain ⟨hx, hl⟩ := not_or.mp fun hmem => h (List.mem_cons.mpr hmem)
    rw [List.foldl_cons, ih _ hl]
    simp [State.active, clearCause, cause_putCause, hx]

theorem clearCause_fold_lines (l : List Cause) (s : State) :
    (l.foldl (fun s c => clearCause c s) s).ssv.demand = s.ssv.demand ∧
      (l.foldl (fun s c => clearCause c s) s).ssv.lines = s.ssv.lines := by
  induction l generalizing s with
  | nil => exact ⟨rfl, rfl⟩
  | cons x l ih => exact ih (clearCause x s)

/-- HOST_HOLD is no host stop: while it is active no acknowledgement clears it (R173). -/
theorem ackBarred_hostHold (s : State) : s.ackBarred .hostHold = s.active .hostHold := rfl

/-! ### Changes that keep the host hold -/

/-- A change keeps the host hold: the flag stands, demand and lines go on following the cause table, what shows the
flag stays, and while the flag is set no launch is decided. -/
structure Steady (s t : State) : Prop where
  flag : t.lnu.hostHold = s.lnu.hostHold
  stops : s.stopsFollow → t.stopsFollow
  shown : s.holdShown → t.holdShown
  quiet : s.holdShown → s.lnu.hostHold = true → noLaunch s t

theorem noLaunch_refl (s : State) : noLaunch s s := ⟨rfl, id⟩

theorem noLaunch_of_lnu {s t : State} (h : t.lnu = s.lnu) : noLaunch s t := by simp [noLaunch, h]

theorem Steady.refl (s : State) : Steady s s := ⟨rfl, id, id, fun _ _ => noLaunch_refl s⟩

namespace Steady
variable {s t u : State}

theorem trans (h : Steady s t) (k : Steady t u) : Steady s u where
  flag := k.flag.trans h.flag
  stops := fun hs => k.stops (h.stops hs)
  shown := fun hs => k.shown (h.shown hs)
  quiet := fun hs hf => by
    obtain ⟨hrd, hflight⟩ := h.quiet hs hf
    obtain ⟨krd, kflight⟩ := k.quiet (h.shown hs) (h.flag.trans hf)
    exact ⟨krd.trans hrd, fun hn => kflight (hflight hn)⟩

/-- A further change that keeps flag, stops, HOST_HOLD and launches, whatever the flag is. -/
theorem change (h : Steady s t) (hstops : t.stopsFollow → u.stopsFollow)
    (hactive : t.active .hostHold = true → u.active .hostHold = true) (hflag : u.lnu.hostHold = t.lnu.hostHold)
    (hquiet : noLaunch t u) : Steady s u :=
  h.trans
    { flag := hflag
      stops := hstops
      shown := fun hs => ⟨hstops hs.1, fun hf => hactive (hs.2 (hflag ▸ hf))⟩
      quiet := fun _ _ => hquiet }

/-- A further change outside Stop Supervisor and Launch Unit. -/
theorem still (h : Steady s t) (hssv : u.ssv = t.ssv := by simp) (hlnu : u.lnu = t.lnu := by simp) : Steady s u :=
  h.change (stopsFollow_of_ssv hssv) (active_of_ssv hssv _).trans (by rw [hlnu]) (noLaunch_of_lnu hlnu)

/-- A further change of the Launch Unit that keeps the flag and decides no launch. -/
theorem launchUnit (h : Steady s t) (hflag : u.lnu.hostHold = t.lnu.hostHold) (hquiet : noLaunch t u)
    (hssv : u.ssv = t.ssv := by simp) : Steady s u :=
  h.change (stopsFollow_of_ssv hssv) (active_of_ssv hssv _).trans hflag hquiet

/-- The Stop Supervisor takes a value with the same cause table, demand, mode and lines. -/
theorem putSsv {x : Ssv} (h : Steady s t) (hcauses : x.causes = t.ssv.causes := by rfl)
    (hdemand : x.demand = t.ssv.demand := by rfl) (hmode : x.mode = t.ssv.mode := by rfl)
    (hlines : x.lines = t.ssv.lines := by rfl) : Steady s (putSsv x t) :=
  h.change (by simp [State.stopsFollow, Machine.putSsv, hcauses, hdemand, hmode, hlines])
    (by simp [State.active, State.cause, Machine.putSsv, hcauses]) rfl (noLaunch_refl t)

theorem ite {p : Prop} [Decidable p] (h : p → Steady s t) (k : ¬p → Steady s u) : Steady s (if p then t else u) := by
  split
  · exact h ‹_›
  · exact k ‹_›

/-- A further change that is made where a test holds. -/
theorem optionally {p : Prop} [Decidable p] (h : Steady s t) (k : Steady s t → Steady s u) :
    Steady s (if p then u else t) := ite (fun _ => k h) fun _ => h

theorem foldl {α : Type} {f : State → α → State} (h : Steady s t) (l : List α)
    (k : ∀ u x, Steady s u → Steady s (f u x)) : Steady s (l.foldl f t) := by
  induction l generalizing t with
  | nil => exact h
  | cons x l ih => exact ih (k t x h)

/-- The Launch Unit takes a value with the same flag that decides no launch. -/
theorem putLnu {x : Lnu} (h : Steady s t) (hflag : x.hostHold = t.lnu.hostHold := by rfl)
    (hrd : x.rdL = t.lnu.rdL := by rfl) (hflight : t.lnu.flight = none → x.flight = none := by exact id) :
    Steady s (putLnu x t) :=
  h.launchUnit hflag ⟨hrd, hflight⟩

/-! ### Reports of causes -/

section
variable {c : Cause} {d : Detail} {b : Bool}

theorem reportActive (h : Steady s t) : Steady s (reportActive c d t) :=
  h.change (fun hs => reportActive_follows c d t hs.2)
    (by
      simp only [State.active, cause_reportActive]
      split <;> simp [CauseEntry.raised])
    (by simp) (noLaunch_of_lnu (by simp))

theorem reportInactive (h : Steady s t) (hc : Cause.hostHold ≠ c := by decide) : Steady s (reportInactive c t) :=
  h.change (fun hs => reportInactive_follows c t hs.2) (by simp [State.active, cause_reportInactive, hc])
    (by simp) (noLaunch_of_lnu (by simp))

theorem raiseEvent (h : Steady s t) (hc : Cause.hostHold ≠ c := by decide) : Steady s (raiseEvent c d t) :=
  h.reportActive.reportInactive hc

theorem reportCondition (h : Steady s t) (hc : Cause.hostHold ≠ c := by decide) :
    Steady s (reportCondition c b d t) := by
  unfold Machine.reportCondition
  exact ite (fun _ => h) fun _ => ite (fun _ => h.reportActive) fun _ => h.reportInactive hc

theorem raiseInRun (h : Steady s t) (hc : Cause.hostHold ≠ c := by decide) : Steady s (raiseInRun c d t) :=
  h.optionally (·.raiseEvent hc)

theorem raiseWhen (h : Steady s t) (hc : Cause.hostHold ≠ c := by decide) : Steady s (raiseWhen b c d t) :=
  h.optionally (·.raiseEvent hc)

end

/-! ### Rope Measurement Unit -/

theorem slipPersistence (h : Steady s t) : Steady s (slipPersistence t) := h.still.reportCondition
theorem afterMwSpeed (h : Steady s t) : Steady s (afterMwSpeed t) :=
  h.still.slipPersistence.reportCondition.reportCondition
theorem afterBwSpeed (h : Steady s t) : Steady s (afterBwSpeed t) := h.still.slipPersistence
theorem mwStall (h : Steady s t) : Steady s (mwStall t) := h.optionally (·.still.afterMwSpeed)
theorem bwStall (h : Steady s t) : Steady s (bwStall t) := h.optionally (·.still.afterBwSpeed)
theorem rmuPulse (h : Steady s t) : Steady s (rmuPulse t) := h.mwStall.still.afterMwSpeed
theorem rmuCount {input : BullInput} (h : Steady s t) : Steady s (rmuCount input t) := h.bwStall.still.afterBwSpeed

theorem tensionEval (h : Steady s t) : Steady s (tensionEval t) := by
  unfold Machine.tensionEval
  split
  · exact h
  · exact h.reportCondition.reportCondition

theorem tensionSample {n : Sample} (h : Steady s t) : Steady s (tensionSample n t) := h.still.tensionEval

theorem ropeReport {x : Rmu × Bool} (h : Steady s t) : Steady s (ropeReport x t) :=
  h.still.reportCondition.reportCondition.reportCondition.tensionEval

/-! ### Drive Unit -/

section
variable {ch : Channel} {e : End} {x : DoorTask} {i : Nat} {o : Option Cabin}

theorem driveEvent {r : DriveReason} (h : Steady s t) : Steady s (driveEvent ch r t) := h.still

theorem failTask (h : Steady s t) : Steady s (failTask ch x t) := by
  cases ch <;> exact h.still.raiseEvent

theorem closerBackAtA (h : Steady s t) : Steady s (closerBackAtA x t) := ite (fun _ => h.failTask) fun _ => h.still

theorem driveReached (h : Steady s t) : Steady s (driveReached ch e t) := by
  unfold Machine.driveReached
  split
  · exact h.optionally (·.still)
  · exact h.optionally (·.still)
  · exact h.optionally (·.still)
  · exact ite (fun _ => h.still) fun _ => h.optionally (·.closerBackAtA)
  · split
    · exact h.optionally (·.still)
    · exact h
  · exact h

theorem abandonLaunch (h : Steady s t) : Steady s (abandonLaunch t) := by
  unfold Machine.abandonLaunch
  split
  · exact ite (fun _ => h) fun _ => h.launchUnit rfl ⟨rfl, fun _ => rfl⟩ rfl
  · exact h

theorem driveFailed (h : Steady s t) : Steady s (driveFailed ch t) := by
  cases ch
  case opener | closer =>
    unfold Machine.driveFailed
    dsimp only
    split
    · split
      · exact h.still
      · exact h
      all_goals exact h.failTask
    · exact h
  case switch => exact h
  case release =>
    unfold Machine.driveFailed
    dsimp only
    split
    · exact h.optionally (·.still)
    · exact h
  case gate => exact h.abandonLaunch

theorem reachEnd (h : Steady s t) : Steady s (reachEnd ch e t) := h.still.driveReached

theorem failDrive {st : DriveState} {c : Cause} {r : DriveReason} (h : Steady s t)
    (hc : Cause.hostHold ≠ c := by decide) : Steady s (failDrive ch st c r t) :=
  (h.still.raiseEvent hc).driveEvent.driveFailed

theorem commandBlocked (h : Steady s t) : Steady s (commandBlocked ch e t) :=
  ite (fun _ => h.reachEnd) fun _ => h.still

theorem commandDrive (h : Steady s t) : Steady s (commandDrive ch e t) := by
  by_cases hb : (t.dru.get ch).state = .blocked
  · have hcommand : Machine.commandDrive ch e t = Machine.commandBlocked ch e t := by
      cases e <;> simp [Machine.commandDrive, hb]
    rw [hcommand]
    exact h.commandBlocked
  · refine h.still ?_
    unfold Machine.commandDrive
    split <;> simp_all

theorem taskToB (h : Steady s t) : Steady s (taskToB ch x t) := by
  unfold Machine.taskToB
  split
  · exact h.failTask
  · exact h.failTask
  · exact h.driveReached
  all_goals exact h.commandDrive

theorem endOldTask (h : Steady s t) : Steady s (endOldTask ch t) := by
  unfold Machine.endOldTask
  split
  · exact h
  · exact ite (fun _ => h.still) fun _ => h.failTask

theorem startOpener (h : Steady s t) : Steady s (startOpener i o t) :=
  (h.endOldTask (ch := .opener)).still.taskToB
theorem startCloser (h : Steady s t) : Steady s (startCloser i o t) :=
  (h.endOldTask (ch := .closer)).still.taskToB
theorem bothEnds (h : Steady s t) : Steady s (bothEnds ch t) := ite (fun _ => h) fun _ => h.failDrive

theorem hostHold_ne_endLostCause (ch : Channel) (st : DriveState) : Cause.hostHold ≠ endLostCause ch st := by
  unfold endLostCause
  split <;> decide

theorem endMoved {b : Bool} (h : Steady s t) : Steady s (endMoved ch e b t) := by
  have hlost := h.failDrive (ch := ch) (st := .fault) (r := .endLost) (hostHold_ne_endLostCause ch (t.dru.get ch).state)
  unfold Machine.endMoved
  dsimp only
  split
  · exact h.optionally fun _ => hlost
  · exact h.optionally fun _ => hlost
  · exact h.optionally (·.reachEnd)
  · exact h.optionally (·.reachEnd)
  · exact h.optionally (·.still)
  all_goals exact h

theorem endChange {b : Bool} (h : Steady s t) : Steady s (endChange ch e b t) :=
  ite (fun _ => h) fun _ => ite (fun _ => h.still.bothEnds) fun _ => h.still.endMoved

theorem strokeTimeout (h : Steady s t) : Steady s (strokeTimeout ch t) := h.optionally (·.failDrive)

theorem obstruction (h : Steady s t) : Steady s (obstruction ch t) := ite (fun _ => h.still) fun _ => h.failDrive

theorem currentSample {n : Sample} (h : Steady s t) : Steady s (currentSample ch n t) :=
  h.still.optionally (·.still.obstruction)

theorem retryPauseExpiry (h : Steady s t) : Steady s (retryPauseExpiry t) := by
  unfold Machine.retryPauseExpiry
  split
  · exact ite (fun _ => h.still.taskToB) fun _ => h.failTask
  · exact h

theorem testDrive (h : Steady s t) : Steady s (testDrive ch e t) :=
  ite (fun _ => h.commandBlocked) fun _ => h.commandDrive

theorem driveFound (h : Steady s t) : Steady s (driveFound ch t) := h.still.optionally (·.raiseEvent)

end

/-! ### Launch Unit -/

section
variable {w : GripWindow} {i : Nat} {o : Option Cabin}

theorem writeGrip {r : GripResult} {n : Nat} (h : Steady s t) : Steady s (writeGrip w r n t) := h.still

theorem closeWindow (h : Steady s t) : Steady s (closeWindow w t) :=
  (h.putLnu.writeGrip.optionally (·.still.raiseEvent)).optionally (·.raiseEvent)

theorem closeAnyWindow (h : Steady s t) : Steady s (closeAnyWindow t) := by
  unfold Machine.closeAnyWindow
  split
  · exact h.closeWindow
  · exact h

theorem openWindow (h : Steady s t) : Steady s (openWindow i o t) := h.putLnu

theorem gripSample {n : Sample} (h : Steady s t) : Steady s (gripSample n t) := by
  unfold Machine.gripSample
  split
  · exact h.putLnu
  · exact h

theorem windowDistance (h : Steady s t) : Steady s (windowDistance t) := by
  unfold Machine.windowDistance
  split
  · exact h.optionally (·.closeWindow)
  · exact h

theorem holdDistance (h : Steady s t) : Steady s (holdDistance t) := by
  unfold Machine.holdDistance
  split
  · exact h.optionally (·.putLnu.raiseEvent)
  · exact h

theorem stuckDistance (h : Steady s t) : Steady s (stuckDistance t) := by
  unfold Machine.stuckDistance
  split
  next f hf => exact h.optionally fun h => (h.putLnu (hflight := by simp [hf])).raiseEvent
  next => exact h

theorem forcedPass (h : Steady s t) : Steady s (forcedPass t) := by
  have hmoved : Steady s
      (match t.oldest .gat with
        | some e => moveEntry e.id .att t
        | none => Machine.raiseInRun .stationSequence .absent t) := by
    split
    · exact h.still
    · exact h.raiseInRun
  exact ite (fun _ => hmoved.raiseEvent) fun _ => hmoved.raiseInRun

theorem gateTrailing (h : Steady s t) : Steady s (gateTrailing t) := by
  unfold Machine.gateTrailing
  split
  next f hf =>
    refine ite (fun _ => h.forcedPass) fun _ => Steady.commandDrive ?_
    exact h.still.putLnu (hflight := by simp [hf])
  next => exact h.forcedPass

theorem gatePassage (h : Steady s t) : Steady s (gatePassage t) := h.optionally (·.raiseEvent)

theorem completeLaunch {f : Flight} (h : Steady s t) : Steady s (completeLaunch f t) :=
  h.launchUnit (by simp [Machine.completeLaunch]) (by simp [noLaunch, Machine.completeLaunch])

theorem untrackedPass (h : Steady s t) : Steady s (untrackedPass t) := by
  unfold Machine.untrackedPass
  split
  · exact h.raiseInRun
  · dsimp only
    split
    · exact h.still.raiseEvent
    · exact h.still.raiseInRun

theorem attPassage (h : Steady s t) : Steady s (attPassage t) := by
  unfold Machine.attPassage
  split
  · exact h.completeLaunch
  · exact h.untrackedPass

end

/-! ### Station Track Unit -/

section
variable {g : Segment} {i : Nat} {o : Option Cabin} {b : Bool}

theorem createOrRaise (h : Steady s t) : Steady s (createOrRaise g b t) :=
  ite (fun _ => h.raiseEvent) fun _ => h.still.raiseInRun

theorem advance {src dst : Segment} (h : Steady s t) : Steady s (advance src dst t).1 := by
  unfold Machine.advance
  split
  · exact h.still
  · exact h.createOrRaise

theorem opnPassage (h : Steady s t) : Steady s (opnPassage t) := by
  have ha := h.advance (src := .opn) (dst := .cls)
  unfold Machine.opnPassage
  generalize Machine.advance .opn .cls t = x at ha ⊢
  obtain ⟨u, _ | ⟨id, c⟩⟩ := x
  · exact ha
  · exact ha.optionally (·.startOpener)

theorem clsPassage (h : Steady s t) : Steady s (clsPassage t) := by
  have ha := h.advance (src := .cls) (dst := .lck)
  unfold Machine.clsPassage
  generalize Machine.advance .cls .lck t = x at ha ⊢
  obtain ⟨u, _ | ⟨id, c⟩⟩ := x
  · exact ha
  · exact ha.optionally (·.startCloser)

theorem lckPassage (h : Steady s t) : Steady s (lckPassage t) := by
  have ha := h.advance (src := .lck) (dst := .grp)
  unfold Machine.lckPassage
  generalize Machine.advance .lck .grp t = x at ha ⊢
  obtain ⟨u, _ | ⟨id, c⟩⟩ := x
  · exact ha
  · exact ha.still

theorem grpPassage (h : Steady s t) : Steady s (grpPassage t) := by
  have ha := h.advance (src := .grp) (dst := .gat)
  unfold Machine.grpPassage
  generalize Machine.advance .grp .gat t = x at ha ⊢
  obtain ⟨u, _ | ⟨id, c⟩⟩ := x
  · exact ha.closeAnyWindow
  · exact ha.closeAnyWindow.openWindow

theorem gatPassage (h : Steady s t) : Steady s (gatPassage t) := by
  unfold Machine.gatPassage
  split
  · exact h.still.gatePassage
  · exact h.createOrRaise.gatePassage

theorem stiPassage (h : Steady s t) : Steady s (stiPassage t) := by
  unfold Machine.stiPassage
  split
  · exact h.raiseEvent
  · split
    · exact h.still
    · exact h.still.raiseEvent

theorem endRelease (h : Steady s t) : Steady s (endRelease t) := h.still
theorem appendStation {w : Occupant} (h : Steady s t) : Steady s (appendStation w g t) := h.still
theorem putStu {x : Stu} (h : Steady s t) : Steady s (putStu x t) := h.still
theorem routeCompute (h : Steady s t) : Steady s (routeCompute t) := h.still

theorem stmPassage (h : Steady s t) : Steady s (stmPassage t) := by
  unfold Machine.stmPassage
  dsimp only
  split
  · exact (ite (fun _ => h.raiseEvent) fun _ => h.still).endRelease.commandDrive
  · exact ite (fun _ => h.raiseEvent) fun _ => h.raiseEvent.appendStation

theorem releaseDistance (h : Steady s t) : Steady s (releaseDistance t) := by
  unfold Machine.releaseDistance
  split
  · split
    · exact h.optionally (·.raiseEvent.commandDrive.endRelease)
    · exact h
  · exact h

theorem takeCabin {c : Cabin} (h : Steady s t) : Steady s (takeCabin c t) := h.still

theorem resolveHead {r : Reading} (h : Steady s t) : Steady s (resolveHead r t).1 := by
  unfold Machine.resolveHead
  split
  · exact ite (fun _ => h.takeCabin) fun _ => h.takeCabin.raiseEvent
  · exact h.raiseInRun

theorem resolveArrival {r : Reading} (h : Steady s t) : Steady s (resolveArrival r t).1 := by
  unfold Machine.resolveArrival
  split
  next => exact h.resolveHead
  next c _ =>
    have htaken : Steady s (Machine.takeCabin c t) := h.takeCabin
    split
    · split <;> dsimp only
      · exact htaken
      · exact htaken.raiseEvent
    · dsimp only; exact htaken.raiseEvent
    · dsimp only; exact htaken.raiseEvent
    · exact htaken
    · exact htaken.still
    all_goals exact h.raiseEvent.resolveHead

theorem arrive {r : Reading} (h : Steady s t) : Steady s (arrive r t) := by
  have ha : Steady s (Machine.resolveArrival r t).1 := h.resolveArrival
  unfold Machine.arrive routeArrival
  generalize Machine.resolveArrival r t = x at ha ⊢
  dsimp only
  split
  · exact ha.still
  · exact ha.still
  all_goals exact ha.raiseEvent.appendStation

theorem consumeLatch (h : Steady s t) : Steady s (consumeLatch t) := h.still

theorem arrPassage (h : Steady s t) : Steady s (arrPassage t) :=
  (ite (fun _ => (h.consumeLatch).raiseEvent) fun _ => h.consumeLatch.arrive).putStu.routeCompute

theorem bindWindow {c : Cabin} (h : Steady s t) : Steady s (bindWindow i c t) := by
  unfold Machine.bindWindow
  split
  · exact h.optionally (·.putLnu)
  · exact h

theorem bindEntry {e : StationEntry} {r : GripResult} {n : Nat} {c : Cabin} (h : Steady s t) :
    Steady s (bindEntry e r n c t) :=
  h.still.bindWindow.optionally (·.still)

end

/-! ### Line Tracking Unit -/

section
variable {c : Cabin} {n : Nat}

theorem toSummit (h : Steady s t) : Steady s (toSummit c t) := h.still
theorem toDownLine (h : Steady s t) : Steady s (toDownLine c t) := h.still

theorem applyArrived (h : Steady s t) : Steady s (applyArrived c t) := by
  unfold Machine.applyArrived
  split
  · exact h.toSummit.raiseWhen.raiseWhen
  · exact h.toSummit
  · exact h.still
  all_goals exact h.raiseEvent

theorem applyDeparted (h : Steady s t) : Steady s (applyDeparted c t) := by
  unfold Machine.applyDeparted
  split
  · exact h.toDownLine
  · exact h.toDownLine.raiseEvent
  · exact h.toDownLine
  · exact h.still
  all_goals exact h.raiseEvent

theorem applyNamed {f : Cabin → State → State} (h : Steady s t) (k : ∀ c, Steady s (f c t)) :
    Steady s (applyNamed f n t) := by
  unfold Machine.applyNamed
  split
  · exact h.raiseEvent
  · exact ite (fun _ => k _) fun _ => h.raiseEvent

theorem censusListed (h : Steady s t) : Steady s (censusListed t n) := by
  unfold Machine.censusListed
  split
  · exact h.raiseEvent
  · refine ite (fun _ => ?_) fun _ => h.raiseEvent
    split
    · exact h.toSummit
    · exact h.toSummit
    · exact h
    · exact h.still
    all_goals exact h.raiseEvent

theorem censusMissing (h : Steady s t) : Steady s (censusMissing t c) := h.toDownLine.raiseEvent

theorem applyCensus {l : List Nat} (h : Steady s t) : Steady s (applyCensus l t) :=
  ((h.foldl l fun _ _ => censusListed).foldl _ fun _ _ => censusMissing).optionally (·.still)

theorem censusExpiry (h : Steady s t) : Steady s (censusExpiry t) :=
  h.optionally fun h => Steady.still (h.raiseEvent (c := .censusMismatch) (d := .absent))

theorem discardUp (h : Steady s t) : Steady s (discardUp t) := h.optionally (·.still.reportInactive)
theorem discardDown (h : Steady s t) : Steady s (discardDown t) := h.optionally (·.still.reportInactive)

theorem checkUp (h : Steady s t) : Steady s (checkUp t) := by
  refine ite (fun _ => ?_) fun _ => h
  split
  · exact h.still.reportActive
  · exact h

theorem checkDown (h : Steady s t) : Steady s (checkDown t) := by
  refine ite (fun _ => ?_) fun _ => h
  split
  · exact h.still.reportActive
  · exact h

end

/-! ### The end of an event -/

theorem handUp {old : Lists} (h : Steady s t) : Steady s (handUp old t) := ite (fun _ => h) fun _ => h.discardUp
theorem handDown {old : Lists} (h : Steady s t) : Steady s (handDown old t) :=
  ite (fun _ => h) fun _ => h.discardDown.routeCompute
theorem trackEval (h : Steady s t) : Steady s (trackEval t) := h.reportCondition.reportCondition.reportCondition

/-- The evaluation of the holds shows the flag by its cause (R90). -/
theorem holdEval (h : Steady s t) : Steady s (holdEval t) :=
  h.trans
    { flag := by simp
      stops := fun hs => (holdEval_shown hs).1
      shown := fun hs => holdEval_shown hs.1
      quiet := fun _ _ => by simp [noLaunch] }

/-- While the flag is set, HOST_HOLD keeps the demand from the launch decision (R89, R100). -/
theorem launchEval (h : Steady s t) : Steady s (launchEval t) :=
  h.trans
    { flag := by simp
      stops := stopsFollow_of_ssv (by simp)
      shown := fun hs =>
        ⟨stopsFollow_of_ssv (by simp) hs.1, fun hf => (active_of_ssv (by simp) _).trans (hs.2 (by simpa using hf))⟩
      quiet := fun hs hf => by
        rw [launchEval_of_demand (demand_of_hostHold hs.1 (hs.2 hf))]
        exact noLaunch_refl t }

theorem settleCounts {old : Lists} (h : Steady s t) : Steady s (settleCounts old t) := h.still

theorem settle {old : Lists} (h : Steady s t) : Steady s (settle old t) :=
  h.handUp.handDown.checkUp.checkDown.trackEval.holdEval.launchEval.settleCounts

/-- An event whose effect keeps the host hold keeps it as a whole. -/
theorem event {f : State → State} (h : Steady s t) (k : Steady s t → Steady s (f t)) : Steady s (event f t) :=
  (k h).settle

theorem rdChanged (h : Steady s t) : Steady s (rdChanged t) :=
  h.still.windowDistance.holdDistance.stuckDistance.releaseDistance

theorem wheelPulse (h : Steady s t) : Steady s (wheelPulse t) :=
  ite (fun _ => h.rmuPulse) fun _ => h.rmuPulse.rdChanged

/-! ### Record channel and Line Link Controller -/

section
variable {ch : CallChannel}

theorem handRecord {k : RecordKind} {body : List Byte} (h : Steady s t) : Steady s (handRecord k body t) := by
  cases k with
  | arrived => exact h.applyNamed fun _ => h.applyArrived
  | departed => exact h.applyNamed fun _ => h.applyDeparted
  | census => exact h.applyCensus
  | text => exact h.still (by simp [Machine.handRecord]) (by simp [Machine.handRecord])
  | launched => exact h
  | censusRequest => exact h

theorem dispose {a : Assembly} (h : Steady s t) : Steady s (dispose a t) := by
  refine ite (fun _ => h.still) fun _ => ite (fun _ => h.still.raiseEvent) fun _ => ?_
  split
  · exact h.still.raiseEvent
  · exact h.still.handRecord

theorem evalPause (h : Steady s t) : Steady s (evalPause t) := h.still

theorem takeByte {b : Byte} (h : Steady s t) : Steady s (takeByte b t) :=
  ite (fun _ => ite (fun _ => h.still) fun _ => h.still.raiseEvent) fun _ =>
    ite (fun _ => h.still) fun _ => h.still

theorem takeSlot {w : Word16} (h : Steady s t) : Steady s (takeSlot w t) :=
  h.optionally fun h => h.takeByte.optionally (·.dispose.evalPause)

theorem recordBreak (h : Steady s t) : Steady s (recordBreak t) := by
  unfold Machine.recordBreak
  split
  · exact h
  · exact ite (fun _ => h.still.raiseEvent) fun _ => h.still

theorem towerEval (h : Steady s t) : Steady s (towerEval t) := h.reportCondition.reportCondition.reportCondition

theorem takeTower {w : Word16} (h : Steady s t) : Steady s (takeTower w t) := by
  refine ite (fun _ => h) fun _ => ite (fun _ => h.still) fun _ => ?_
  split
  · exact h.still
  · exact h.still.towerEval

theorem findStale (h : Steady s t) : Steady s (findStale t) := h.still.towerEval
theorem ageTowers (h : Steady s t) : Steady s (ageTowers t) := h.still.findStale
theorem towerStale {i : Nat} (h : Steady s t) : Steady s (towerStale i t) := h.optionally (·.still.towerEval)

theorem transmitCycle (h : Steady s t) : Steady s (transmitCycle t) :=
  Steady.optionally (ite (fun _ => h.still) fun _ => h.still) (·.ageTowers)

theorem linkEval (h : Steady s t) : Steady s (linkEval t) := h.reportCondition.reportCondition.reportCondition

theorem farCode {old new : BitVec 3} (h : Steady s t) : Steady s (farCode ch old new t) := h.still
theorem goodVoice {v : Voice} (h : Steady s t) : Steady s (goodVoice ch v t) := h.still
theorem linkState (h : Steady s t) : Steady s (linkState t) := h.still

theorem applyCycle {old : Applied} {x : LineCycle} (h : Steady s t) : Steady s (applyCycle old x t) :=
  h.still.linkEval.farCode.farCode.goodVoice.goodVoice.takeSlot.takeSlot.takeTower

theorem lockedEntry (h : Steady s t) : Steady s (lockedEntry t) := h.still

theorem enterLocked {x : LineCycle} (h : Steady s t) : Steady s (enterLocked x t) :=
  h.still.reportCondition.linkState.applyCycle.lockedEntry

theorem confirmCycle {x : RxCycle} (h : Steady s t) : Steady s (confirmCycle x t) :=
  h.optionally fun h => ite (fun _ => ite (fun _ => h.enterLocked) fun _ => h.still) fun _ => h.still

theorem leaveLocked (h : Steady s t) : Steady s (leaveLocked t) := h.still.linkState.linkEval.recordBreak

theorem goodCycle {x : LineCycle} (h : Steady s t) : Steady s (goodCycle x t) := h.still.applyCycle
theorem badMarks (h : Steady s t) : Steady s (badMarks t) := h.still

theorem badCycle (h : Steady s t) : Steady s (badCycle t) := by
  unfold Machine.badCycle
  exact h.still.badMarks.optionally (·.leaveLocked)

theorem lockedCycle {x : RxCycle} (h : Steady s t) : Steady s (lockedCycle x t) :=
  h.optionally fun h => ite (fun _ => h.goodCycle) fun _ => h.badCycle

theorem judgeCycle (h : Steady s t) : Steady s (judgeCycle t) := by
  unfold Machine.judgeCycle
  dsimp only
  split
  · exact h.still
  · exact h.event (·.confirmCycle)
  · exact h.event (·.lockedCycle)

theorem passBits (h : Steady s t) : Steady s (passBits t) := h.still

theorem takeCycle (h : Steady s t) : Steady s (takeCycle t) := h.judgeCycle.passBits

theorem takeCycles {n : Nat} (h : Steady s t) : Steady s (takeCycles n t) := by
  induction n generalizing t with
  | zero => exact h
  | succ n ih => exact ite (fun _ => h) fun _ => ih h.takeCycle

/-- The bits of LINE_RX may complete several cycles; each of them is an event that keeps the host hold. -/
theorem receiveBits {bits : List RxBit} (h : Steady s t) : Steady s (receiveBits bits t) := h.still.takeCycles

theorem callLost (h : Steady s t) : Steady s (callLost ch t) := h.still
theorem lineLinkLost (h : Steady s t) : Steady s (lineLinkLost t) := h.still

theorem linkLossExpiry (h : Steady s t) : Steady s (linkLossExpiry t) :=
  h.optionally (·.reportActive.linkEval.callLost.callLost.lineLinkLost.linkState)

end

/-! ### Stop Supervisor and mode -/

section
variable {m : Mode} {b : Bool}

theorem modeNotice (h : Steady s t) : Steady s (modeNotice t) := h.still

/-- A change of mode drives the lines from the mode and the standing demand (R172). -/
theorem driveLines (h : Steady s t) : Steady s (driveLines (Machine.putSsv { t.ssv with mode := m } t)) :=
  h.change (fun hs => ⟨hs.1, rfl⟩) id rfl (noLaunch_refl t)

theorem modeRoute (h : Steady s t) : Steady s (modeRoute t) := h.still
theorem overspeedEval (h : Steady s t) : Steady s (overspeedEval t) := h.reportCondition

theorem changeMode (h : Steady s t) : Steady s (changeMode m t) := h.driveLines.modeNotice.overspeedEval.modeRoute

theorem putRestricted (h : Steady s t) : Steady s (putRestricted b t) :=
  h.putSsv.overspeedEval

/-- An acknowledgement keeps the host hold where it leaves HOST_HOLD aside while that is active (R173). -/
theorem cleared {l : List Cause} (h : Steady s t) (hl : t.active .hostHold = true → Cause.hostHold ∉ l) :
    Steady s (afterClearing b (l.foldl (fun s c => clearCause c s) t)) :=
  h.change
    (fun hs => afterClearing_follows b
      (by simpa [State.linesFollow, clearCause_fold_lines, clearCause_fold_keeps] using hs.2))
    (fun ha => by rwa [active_afterClearing_hostHold, active_clearCause_fold _ _ (hl ha)])
    (by simp [clearCause_fold_keeps]) (noLaunch_of_lnu (by simp [clearCause_fold_keeps]))

theorem ackOne {c : Cause} (h : Steady s t) (hc : t.ackBarred c = false) : Steady s (ackOne c t) := by
  refine h.cleared (l := [c]) fun ha hmem => ?_
  obtain rfl := List.mem_singleton.mp hmem
  rw [ackBarred_hostHold, ha] at hc
  contradiction

theorem ackEvery (h : Steady s t) : Steady s (ackEvery t) := by
  refine h.cleared fun ha hmem => ?_
  have hclear := (List.mem_filter.mp hmem).2
  simp [State.clearable, ackBarred_hostHold, ha] at hclear

theorem keepAlive (h : Steady s t) : Steady s (keepAlive t) :=
  h.optionally fun h => h.reportCondition.putSsv

theorem deadlineMissed (h : Steady s t) : Steady s (deadlineMissed t) :=
  h.optionally fun h => h.reportCondition.putSsv

end

/-! ### Profile Store and the start of the part -/

section
variable {q : Param}

theorem paramWritten (h : Steady s t) : Steady s (paramWritten q t) := by
  have hrope : ∀ q, Steady s (ropeWritten q t) := fun q => h.ropeReport
  unfold Machine.paramWritten
  split
  iterate 14 exact hrope _
  · exact h.routeCompute
  · exact h.still.towerEval
  · exact h.towerEval
  · exact h.findStale
  · exact h

theorem writeParam {v : Nat} (h : Steady s t) : Steady s (writeParam q v t) := h.still.paramWritten

theorem ropeRestored {old : Params} (h : Steady s t) : Steady s (ropeRestored old t) := h.ropeReport
theorem putTowers {l : List TowerEntry} (h : Steady s t) : Steady s (putTowers l t) := h.still

theorem restoreDefaults (h : Steady s t) : Steady s (restoreDefaults t) :=
  h.still.ropeRestored.routeCompute.putTowers.findStale

theorem notify {n : Notice} (h : Steady s t) : Steady s (notify n t) := h.still

theorem enterService (h : Steady s t) : Steady s (enterService t) :=
  h.notify.putSsv.changeMode

theorem takeDrives (h : Steady s t) : Steady s (takeDrives t) :=
  h.driveFound.driveFound.driveFound.driveFound.driveFound

theorem loadProfile (h : Steady s t) : Steady s (loadProfile t) :=
  h.still.takeDrives.enterService

theorem endReset (h : Steady s t) : Steady s (endReset t) :=
  Steady.modeNotice (h.change (fun hs => ⟨hs.1, rfl⟩) id rfl (noLaunch_refl t))

end

end Steady
end Sys2Proof.Machine
end

section
/-! PROOFS. The host hold (R100): every step keeps it, the two requests that set and clear the flag, and the statement
HostHoldHoldsLaunches. -/

-- One lemma after the other: side by side, their proofs take more threads than the check's memory limit allows.
set_option Elab.async false

namespace Sys2Proof.Machine

/-! ### The end of an event under the host hold -/

/-- The end of an event up to the launch decision. -/
def evaluated (old : Lists) (s : State) : State :=
  holdEval (trackEval (checkDown (checkUp (handDown old (handUp old s)))))

theorem settle_eq (old : Lists) (s : State) : settle old s = settleCounts old (launchEval (evaluated old s)) := rfl

theorem evaluated_lnu (old : Lists) (s : State) :
    (evaluated old s).lnu.rdL = s.lnu.rdL ∧ (evaluated old s).lnu.flight = s.lnu.flight := by
  simp [evaluated]

theorem evaluated_shown (old : Lists) {s : State} (h : s.stopsFollow) :
    (evaluated old s).stopsFollow ∧ (evaluated old s).active .hostHold = s.lnu.hostHold := by
  have hbefore : (trackEval (checkDown (checkUp (handDown old (handUp old s))))).stopsFollow :=
    (Steady.refl s).handUp.handDown.checkUp.checkDown.trackEval.stops h
  refine ⟨(holdEval_shown hbefore).1, ?_⟩
  rw [evaluated, active_holdEval_hostHold]
  simp

/-- After an event HOST_HOLD is active exactly while the flag is set, whatever it was before (R90). -/
theorem settle_shown (old : Lists) {s : State} (h : s.stopsFollow) :
    (settle old s).stopsFollow ∧ (settle old s).active .hostHold = s.lnu.hostHold := by
  obtain ⟨hstops, hactive⟩ := evaluated_shown old h
  have hssv : (settle old s).ssv = (evaluated old s).ssv := by simp [settle_eq]
  exact ⟨stopsFollow_of_ssv hssv hstops, (active_of_ssv hssv _).trans hactive⟩

/-- An event whose launch decision decides nothing leaves RD_L and the launch in flight alone. -/
theorem settle_launch {old : Lists} {s : State} (h : launchEval (evaluated old s) = evaluated old s) :
    (settle old s).lnu.rdL = s.lnu.rdL ∧ (settle old s).lnu.flight = s.lnu.flight := by
  rw [settle_eq, h]
  exact evaluated_lnu old s

/-- Under the host hold the end of an event decides no launch (R100). -/
theorem settle_launch_of_hostHold (old : Lists) {s : State} (h : s.stopsFollow) (hf : s.lnu.hostHold = true) :
    (settle old s).lnu.rdL = s.lnu.rdL ∧ (settle old s).lnu.flight = s.lnu.flight := by
  obtain ⟨hstops, hactive⟩ := evaluated_shown old h
  exact settle_launch (launchEval_of_demand (demand_of_hostHold hstops (hactive.trans hf)))

/-- While a launch is in flight the end of an event decides no other (R89, condition 11). -/
theorem settle_launch_of_flight (old : Lists) {s : State} (h : s.lnu.flight.isSome) :
    (settle old s).lnu.rdL = s.lnu.rdL ∧ (settle old s).lnu.flight = s.lnu.flight :=
  settle_launch (launchEval_of_flight ((evaluated_lnu old s).2 ▸ h))

/-! ### A step under the host hold -/

/-- A step keeps the host hold or clears the flag, and one that leaves the flag set decides no launch. -/
def KeepsHold (s t : State) : Prop :=
  s.holdShown → t.holdShown ∧ (s.lnu.hostHold = true → t.lnu.hostHold = true → noLaunch s t)

theorem Steady.keepsHold {s t : State} (h : Steady s t) : KeepsHold s t :=
  fun hs => ⟨h.shown hs, fun hf _ => h.quiet hs hf⟩

theorem KeepsHold.after {s t u : State} (k : KeepsHold t u) (h : Steady s t) : KeepsHold s u := fun hs => by
  obtain ⟨hu, hquiet⟩ := k (h.shown hs)
  refine ⟨hu, fun hf hfu => ?_⟩
  obtain ⟨hrd, hflight⟩ := h.quiet hs hf
  obtain ⟨krd, kflight⟩ := hquiet (h.flag.trans hf) hfu
  exact ⟨krd.trans hrd, fun hn => kflight (hflight hn)⟩

theorem KeepsHold.before {s t u : State} (k : KeepsHold s t) (h : Steady t u) : KeepsHold s u := fun hs => by
  obtain ⟨ht, hquiet⟩ := k hs
  refine ⟨h.shown ht, fun hf hfu => ?_⟩
  have hft : t.lnu.hostHold = true := h.flag.symm.trans hfu
  obtain ⟨hrd, hflight⟩ := hquiet hf hft
  obtain ⟨krd, kflight⟩ := h.quiet ht hft
  exact ⟨krd.trans hrd, fun hn => kflight (hflight hn)⟩

/-! ### Time -/

/-- The sampling of the inputs, over any of them: what each sample keeps, all of them keep. -/
theorem foldl_steady {α : Type} {f : State × List Instr → α → State × List Instr}
    (hf : ∀ x a, Steady x.1 (f x a).1) (l : List α) (x : State × List Instr) : Steady x.1 (l.foldl f x).1 := by
  induction l generalizing x with
  | nil => exact Steady.refl _
  | cons a l ih => exact (hf x a).trans (ih _)

theorem sampleInput_steady (x : State × List Instr) (i : StationInput) : Steady x.1 (sampleInput x i).1 := by
  unfold sampleInput
  dsimp only
  split
  · split <;> exact (Steady.refl x.1).putStu
  · exact (Steady.refl x.1).putStu

theorem sampleEnds_steady (x : State × List Instr) (ch : Channel) : Steady x.1 (sampleEnds x ch).1 :=
  (Steady.refl x.1).still rfl rfl

theorem milliDue_steady (s : State) : Steady s (milliDue s).1 :=
  (foldl_steady sampleInput_steady StationInput.all (s, [])).trans (foldl_steady sampleEnds_steady Channel.all _)

theorem loadedDue_steady (s : State) : Steady s (loadedDue s).1 := by
  unfold loadedDue
  dsimp only
  split
  · exact (milliDue_steady s).still
  · exact (Steady.refl s).still

theorem passMicrosecond_steady (s : State) : Steady s (passMicrosecond s) := by
  unfold passMicrosecond
  dsimp only
  split
  · exact ((Steady.refl s).still.trans (loadedDue_steady _)).still rfl rfl
  · exact (Steady.refl s).still rfl rfl

theorem tick_steady (s : State) : Steady s (tick s) :=
  Steady.ite (fun _ => Steady.refl s) fun _ => passMicrosecond_steady s

/-! ### Requests -/

/-- What a request's own rule answers keeps the host hold. -/
def Answer.keepsHold (s : State) : Answer → Prop
  | .ok t _ => KeepsHold s t
  | .refuse _ _ | .read _ | .hold | .reset => True

/-- A kind of request keeps the host hold, whatever it carries. -/
def Request.keepsHold (r : Request) : Prop := ∀ body s, (r.handle body s).keepsHold s

section
variable {s t : State} {data : List Byte}

theorem Steady.answers (h : Steady s t) : (Answer.ok t data).keepsHold s := h.keepsHold

theorem checks_keepsHold {l : List (Bool × Status)} {a : Answer} (h : a.keepsHold s) : (checks l a).keepsHold s := by
  unfold checks
  split
  · trivial
  · exact h

theorem withArg_keepsHold {α : Type} {x : Option α} {f : α → Answer} (h : ∀ v, (f v).keepsHold s) :
    (withArg x f).keepsHold s := by
  cases x with
  | none => trivial
  | some v => exact h v

theorem cabinRule_keepsHold {f : Cabin → State → Answer} {body : List Byte} (h : ∀ c, (f c s).keepsHold s) :
    (cabinRule f body s).keepsHold s := by
  unfold cabinRule
  split
  · exact withArg_keepsHold h
  · trivial

theorem callRule_keepsHold {f : CallChannel → State → Answer} {body : List Byte} (h : ∀ ch, (f ch s).keepsHold s) :
    (callRule f body s).keepsHold s := by
  unfold callRule
  split
  · exact withArg_keepsHold h
  · trivial

end

/-- A request that keeps the host hold keeps it with its reply (R192). -/
theorem serve_keepsHold {r : Request} (hr : r.keepsHold) (tag : Byte) (body : List Byte) (s : State) :
    KeepsHold s (serve r tag body s) := by
  have hhunting : Steady s (hunting s) := (Steady.refl s).still
  unfold serve judge
  split
  · split
    · exact hhunting.still.keepsHold
    · split
      · exact hhunting.still.keepsHold
      · split
        · exact hhunting.still.keepsHold
        · have hanswer := hr body (hunting s)
          unfold carryOut
          generalize r.handle body (hunting s) = a at hanswer ⊢
          cases a with
          | ok t data => exact KeepsHold.before (hanswer.after hhunting) ((Steady.refl t).still)
          | refuse st data => exact hhunting.still.keepsHold
          | read data => exact hhunting.still.keepsHold
          | hold => exact hhunting.still.keepsHold
          | reset => exact (hhunting.still rfl rfl).keepsHold
  · exact (Steady.refl s).keepsHold

/-! ### The requests of Table 12-3 -/

/-- A request that writes the flag keeps the host hold: one that sets it leaves no room for a launch decision. -/
theorem event_hostHold_keepsHold (b : Bool) (s : State) :
    KeepsHold s (event (putLnu { s.lnu with hostHold := b }) s) := by
  intro hs
  have hstops : (putLnu { s.lnu with hostHold := b } s).stopsFollow := hs.1
  obtain ⟨hafter, hactive⟩ := settle_shown s.lists hstops
  have hflag : (event (putLnu { s.lnu with hostHold := b }) s).lnu.hostHold = b := by simp [event]
  refine ⟨⟨hafter, fun hf => hactive.trans (hflag.symm.trans hf)⟩, fun _ hf => ?_⟩
  obtain ⟨hrd, hflight⟩ := settle_launch_of_hostHold s.lists hstops (hflag.symm.trans hf)
  exact ⟨hrd, fun hn => hflight.trans hn⟩

section
variable (body : List Byte) (s : State)

theorem registerCabinRule_keepsHold : (registerCabinRule body s).keepsHold s := by
  unfold registerCabinRule
  split
  · exact withArg_keepsHold fun c => checks_keepsHold (Steady.refl s).still.answers
  · trivial

theorem unregisterCabinRule_keepsHold : (unregisterCabinRule body s).keepsHold s :=
  cabinRule_keepsHold fun _ => checks_keepsHold (Steady.refl s).still.answers

theorem readCabinRule_keepsHold : (readCabinRule body s).keepsHold s := cabinRule_keepsHold fun _ => trivial

theorem readListRule_keepsHold : (readListRule body s).keepsHold s := by
  unfold readListRule
  split
  · exact withArg_keepsHold fun _ => checks_keepsHold trivial
  · trivial

theorem withdrawCabinRule_keepsHold : (withdrawCabinRule body s).keepsHold s :=
  cabinRule_keepsHold fun _ => checks_keepsHold ((Steady.refl s).event (·.still)).answers

theorem reinstateCabinRule_keepsHold : (reinstateCabinRule body s).keepsHold s :=
  cabinRule_keepsHold fun _ => checks_keepsHold ((Steady.refl s).event (·.still)).answers

theorem retireCabinRule_keepsHold : (retireCabinRule body s).keepsHold s := by
  unfold retireCabinRule
  split
  · refine withArg_keepsHold fun c => withArg_keepsHold fun on => checks_keepsHold ?_
    split
    · trivial
    · exact ((Steady.refl s).event (·.still)).answers
  · trivial

theorem cabinServicedRule_keepsHold : (cabinServicedRule body s).keepsHold s :=
  cabinRule_keepsHold fun _ => checks_keepsHold (Steady.refl s).still.answers

theorem bindEntryRule_keepsHold : (bindEntryRule body s).keepsHold s := by
  unfold bindEntryRule
  split
  · refine withArg_keepsHold fun c => ?_
    split
    · trivial
    · split
      · trivial
      · unfold bindAnswer
        split
        · trivial
        · exact checks_keepsHold ((Steady.refl s).event (·.bindEntry)).answers
  · trivial

theorem setSwitchRule_keepsHold : (setSwitchRule body s).keepsHold s := by
  unfold setSwitchRule
  split
  · refine withArg_keepsHold fun r => checks_keepsHold ?_
    split
    · trivial
    · exact (Steady.refl s).commandDrive.answers
  · trivial

theorem releaseFromStorageRule_keepsHold : (releaseFromStorageRule body s).keepsHold s := by
  unfold releaseFromStorageRule
  split
  · trivial
  · split
    · trivial
    · exact checks_keepsHold (Steady.refl s).putStu.commandDrive.answers

theorem driveTestRule_keepsHold : (driveTestRule body s).keepsHold s := by
  unfold driveTestRule
  split
  · exact withArg_keepsHold fun _ => withArg_keepsHold fun _ => checks_keepsHold (Steady.refl s).testDrive.answers
  · trivial

theorem holdLaunchesRule_keepsHold : (holdLaunchesRule body s).keepsHold s := event_hostHold_keepsHold true s
theorem resumeLaunchesRule_keepsHold : (resumeLaunchesRule body s).keepsHold s := event_hostHold_keepsHold false s

theorem declareLostRule_keepsHold : (declareLostRule body s).keepsHold s :=
  cabinRule_keepsHold fun _ => checks_keepsHold ((Steady.refl s).event (·.still)).answers

theorem readTowersRule_keepsHold : (readTowersRule body s).keepsHold s := by
  unfold readTowersRule
  split
  · exact checks_keepsHold trivial
  · trivial

theorem sendLineTextRule_keepsHold : (sendLineTextRule body s).keepsHold s :=
  checks_keepsHold ((Steady.refl s).event (·.still)).answers

theorem sendPriorityTextRule_keepsHold : (sendPriorityTextRule body s).keepsHold s :=
  checks_keepsHold (Steady.refl s).still.answers

theorem readLineTextRule_keepsHold : (readLineTextRule body s).keepsHold s := by
  unfold readLineTextRule
  split
  · trivial
  · exact (Steady.refl s).still.answers

theorem placeCallRule_keepsHold : (placeCallRule body s).keepsHold s :=
  callRule_keepsHold fun _ => checks_keepsHold (Steady.refl s).still.answers

theorem answerCallRule_keepsHold : (answerCallRule body s).keepsHold s :=
  callRule_keepsHold fun _ => checks_keepsHold (Steady.refl s).still.answers

theorem endCallRule_keepsHold : (endCallRule body s).keepsHold s := by
  refine callRule_keepsHold fun ch => ?_
  split
  · trivial
  · trivial
  all_goals exact (Steady.refl s).still.answers

theorem ackCauseRule_keepsHold : (ackCauseRule body s).keepsHold s := by
  unfold ackCauseRule
  split
  · refine withArg_keepsHold fun c => ?_
    unfold ackAnswer
    split
    · trivial
    next hbarred =>
      split
      · trivial
      · split
        · trivial
        · exact ((Steady.refl s).event (·.ackOne (by simpa using hbarred))).answers
  · trivial

theorem ackAllRule_keepsHold : (ackAllRule body s).keepsHold s := ((Steady.refl s).event (·.ackEvery)).answers

theorem hostStopRule_keepsHold : (hostStopRule body s).keepsHold s := by
  unfold hostStopRule
  split
  · refine withArg_keepsHold fun c => ?_
    split
    · trivial
    · exact ((Steady.refl s).event (·.reportActive)).answers
  · trivial

theorem liftRestrictionRule_keepsHold : (liftRestrictionRule body s).keepsHold s := by
  unfold liftRestrictionRule
  split
  · trivial
  · exact checks_keepsHold ((Steady.refl s).event (·.putRestricted.modeNotice)).answers

theorem keepaliveRule_keepsHold : (keepaliveRule body s).keepsHold s := ((Steady.refl s).event (·.keepAlive)).answers

theorem setModeRule_keepsHold : (setModeRule body s).keepsHold s := by
  unfold setModeRule
  split
  · refine withArg_keepsHold fun m => ?_
    split
    · trivial
    · split
      · trivial
      · split
        · exact checks_keepsHold ((Steady.refl s).event (·.changeMode)).answers
        · exact checks_keepsHold ((Steady.refl s).event (·.changeMode)).answers
  · trivial

theorem readCausesRule_keepsHold : (readCausesRule body s).keepsHold s := by
  unfold readCausesRule
  split
  · exact withArg_keepsHold fun _ => checks_keepsHold trivial
  · trivial

theorem setTallyRule_keepsHold : (setTallyRule body s).keepsHold s := by
  unfold setTallyRule
  split
  · exact withArg_keepsHold fun _ => withArg_keepsHold fun _ => (Steady.refl s).still.answers
  · trivial

theorem writeTallyRule_keepsHold : (writeTallyRule body s).keepsHold s := by
  unfold writeTallyRule
  split
  · exact withArg_keepsHold fun _ => (Steady.refl s).still.answers
  · trivial

theorem clearOverflowRule_keepsHold : (clearOverflowRule body s).keepsHold s := by
  unfold clearOverflowRule
  split
  · exact withArg_keepsHold fun _ => (Steady.refl s).still.answers
  · trivial

theorem freezeTallyRule_keepsHold : (freezeTallyRule body s).keepsHold s := (Steady.refl s).still.answers

theorem unfreezeTallyRule_keepsHold : (unfreezeTallyRule body s).keepsHold s :=
  checks_keepsHold (Steady.refl s).still.answers

theorem resetPartRule_keepsHold : (resetPartRule body s).keepsHold s := checks_keepsHold trivial

theorem readParamRule_keepsHold : (readParamRule body s).keepsHold s := by
  unfold readParamRule
  split
  · exact withArg_keepsHold fun _ => trivial
  · trivial

theorem writeParamRule_keepsHold : (writeParamRule body s).keepsHold s := by
  unfold writeParamRule
  split
  · exact withArg_keepsHold fun _ => checks_keepsHold ((Steady.refl s).event (·.writeParam)).answers
  · trivial

theorem commitProfileRule_keepsHold : (commitProfileRule body s).keepsHold s := by
  unfold commitProfileRule
  split
  · trivial
  · split
    · trivial
    · unfold commitAnswer
      split
      · trivial
      · exact checks_keepsHold trivial

theorem restoreDefaultsRule_keepsHold : (restoreDefaultsRule body s).keepsHold s :=
  checks_keepsHold ((Steady.refl s).event (·.restoreDefaults)).answers

end

/-- Every request of Table 12-3 keeps the host hold. -/
theorem requestOf_keepsHold {n : Nat} {r : Request} (h : requestOf n = some r) : r.keepsHold := by
  have hread : ∀ kind length always (f : State → List Byte),
      Request.keepsHold ⟨kind, length, always, fun _ s => .read (f s)⟩ := fun _ _ _ _ _ _ => trivial
  unfold requestOf at h
  split at h <;> cases h
  · exact registerCabinRule_keepsHold
  · exact unregisterCabinRule_keepsHold
  · exact readCabinRule_keepsHold
  · exact readListRule_keepsHold
  · exact withdrawCabinRule_keepsHold
  · exact reinstateCabinRule_keepsHold
  · exact retireCabinRule_keepsHold
  · exact cabinServicedRule_keepsHold
  · exact hread _ _ _ ropeData
  · exact bindEntryRule_keepsHold
  · exact setSwitchRule_keepsHold
  · exact releaseFromStorageRule_keepsHold
  · exact hread _ _ _ trackData
  · exact driveTestRule_keepsHold
  · exact hread _ _ _ drivesData
  · exact holdLaunchesRule_keepsHold
  · exact resumeLaunchesRule_keepsHold
  · exact hread _ _ _ launchData
  · exact declareLostRule_keepsHold
  · exact hread _ _ _ lineTrackData
  · exact hread _ _ _ linkData
  · exact readTowersRule_keepsHold
  · exact sendLineTextRule_keepsHold
  · exact sendPriorityTextRule_keepsHold
  · exact readLineTextRule_keepsHold
  · exact hread _ _ _ channelStateData
  · exact placeCallRule_keepsHold
  · exact answerCallRule_keepsHold
  · exact endCallRule_keepsHold
  · exact hread _ _ _ callsData
  · exact ackCauseRule_keepsHold
  · exact ackAllRule_keepsHold
  · exact hostStopRule_keepsHold
  · exact liftRestrictionRule_keepsHold
  · exact keepaliveRule_keepsHold
  · exact setModeRule_keepsHold
  · exact readCausesRule_keepsHold
  · exact setTallyRule_keepsHold
  · exact writeTallyRule_keepsHold
  · exact hread _ _ _ tallyData
  · exact clearOverflowRule_keepsHold
  · exact freezeTallyRule_keepsHold
  · exact unfreezeTallyRule_keepsHold
  · exact hread _ _ _ identityData
  · exact hread _ _ _ statusData
  · exact resetPartRule_keepsHold
  · exact readParamRule_keepsHold
  · exact writeParamRule_keepsHold
  · exact commitProfileRule_keepsHold
  · exact restoreDefaultsRule_keepsHold

theorem takeRequest_keepsHold (kind tag : Byte) (body : List Byte) (s : State) :
    KeepsHold s (takeRequest kind tag body s) := by
  unfold takeRequest
  split
  next r hr => exact serve_keepsHold (requestOf_keepsHold hr) tag body s
  next => exact (Steady.refl s).still.keepsHold

/-- A command that brings a request is that request, taken by its KIND. -/
theorem exec_of_takenParts {c : Instr} {kind tag : Byte} {body : List Byte} (h : takenParts c = some (kind, tag, body))
    (s : State) : exec c s = .next (takeRequest kind tag body s) := by
  cases c <;> cases h <;> rfl

/-- The characters of a BAD_FRAME may carry several requests; the host hold is shown after each of them. -/
theorem scanBytes_shown (n : Nat) (l : List Byte) {s : State} (h : s.holdShown) :
    (scanBytes takeRequest n l s).holdShown := by
  have hhunting : (hunting s).holdShown := h
  induction n generalizing l s with
  | zero => unfold scanBytes; exact hhunting
  | succ n ih =>
    cases l with
    | nil => unfold scanBytes; exact hhunting
    | cons b l =>
      unfold scanBytes
      split
      · split
        · exact h
        · exact ih l (s := countBad s) h h
        next kind tag body rest _ =>
          have htaken := (takeRequest_keepsHold kind tag body s h).1
          dsimp only
          split
          · exact ih rest htaken htaken
          · exact htaken
      · exact ih l h h

/-! ### Resets (R102, R195) -/

theorem highestDemand_clear : highestDemand (Vector.replicate 46 CauseEntry.clear) = .none := by decide

/-- A part held in reset: no cause stands, the lines are those of mode OFF, and the host hold is cleared. -/
theorem enterReset_shown (r : ResetCause) (s : State) : (enterReset r s).holdShown :=
  ⟨⟨highestDemand_clear.symm, rfl⟩, fun hf => nomatch hf⟩

theorem loseSupply_shown (s : State) : (loseSupply s).holdShown :=
  ⟨⟨highestDemand_clear.symm, rfl⟩, fun hf => nomatch hf⟩

/-- The four commands that begin a reset: the part is held in reset with a clear flag, or stands as it was. -/
theorem exec_reset {c : Instr} (hc : c = .powerOn ∨ c = .resetnAsserted ∨ c = .hostResetEntry ∨ c = .supplyLoss)
    (s : State) : ∃ t, exec c s = .next t ∧ (t = s ∨ t.holdShown ∧ t.lnu.hostHold = false) := by
  obtain rfl | rfl | rfl | rfl := hc
  · exact ⟨_, rfl, .inr ⟨enterReset_shown _ s, rfl⟩⟩
  · refine ⟨_, rfl, ?_⟩
    unfold pinReset
    split
    · exact .inl rfl
    · exact .inr ⟨enterReset_shown _ s, rfl⟩
  · refine ⟨_, rfl, ?_⟩
    split
    · exact .inr ⟨enterReset_shown _ s, rfl⟩
    · exact .inl rfl
  · refine ⟨_, rfl, ?_⟩
    split
    · exact .inr ⟨loseSupply_shown s, rfl⟩
    · exact .inl rfl

theorem exec_reset_keepsHold {c : Instr}
    (hc : c = .powerOn ∨ c = .resetnAsserted ∨ c = .hostResetEntry ∨ c = .supplyLoss) (s : State) :
    ∃ t, exec c s = .next t ∧ KeepsHold s t := by
  obtain ⟨t, ht, rfl | ⟨hshown, hclear⟩⟩ := exec_reset hc s
  · exact ⟨t, ht, (Steady.refl t).keepsHold⟩
  · exact ⟨t, ht, fun _ => ⟨hshown, fun _ hf => absurd (hclear.symm.trans hf) Bool.false_ne_true⟩⟩

/-! ### Every other command -/

section
variable {s t : State} {f : State → State}

theorem Steady.whenLoaded (h : Steady s t) (k : Steady s t → Steady s (f t)) : Steady s (whenLoaded f t) :=
  h.optionally k

theorem Steady.onEvent (h : Steady s t) (k : Steady s t → Steady s (f t)) : Steady s (onEvent f t) :=
  h.whenLoaded (·.event k)

theorem Steady.converted {x : Fin 7} {n : Sample} (h : Steady s t) (k : ∀ u, Steady s u → Steady s (f u)) :
    Steady s (converted x n f t) :=
  ite (fun _ => h) fun _ => h.still.whenLoaded (k _)

end

/-- The commands that bring no request and begin no reset are events that keep the host hold; BAD_FRAME stands apart. -/
theorem exec_steady {c : Instr} (hpart : takenParts c = none) (hframe : ∀ chars, c ≠ .badFrame chars)
    (hreset : ¬(c = .powerOn ∨ c = .resetnAsserted ∨ c = .hostResetEntry ∨ c = .supplyLoss)) (s : State) :
    ∃ t, exec c s = .next t ∧ Steady s t := by
  have h := Steady.refl s
  cases c
  case powerOn => exact absurd (.inl rfl) hreset
  case resetnAsserted => exact absurd (.inr (.inl rfl)) hreset
  case hostResetEntry => exact absurd (.inr (.inr (.inl rfl))) hreset
  case supplyLoss => exact absurd (.inr (.inr (.inr rfl))) hreset
  case badFrame chars => exact absurd rfl (hframe chars)
  case endOfReset => exact ⟨_, rfl, h.optionally (·.endReset)⟩
  case profileLoad => exact ⟨_, rfl, h.optionally (·.event (·.loadProfile))⟩
  case measuringWheelPulse => exact ⟨_, rfl, h.onEvent (·.wheelPulse)⟩
  case bullwheelCount => exact ⟨_, rfl, h.onEvent (·.rmuCount)⟩
  case quadratureJump => exact ⟨_, rfl, h.whenLoaded (·.still)⟩
  case measuringWheelStall => exact ⟨_, rfl, h.onEvent (·.mwStall)⟩
  case bullwheelStall => exact ⟨_, rfl, h.onEvent (·.bwStall)⟩
  case tensionSample => exact ⟨_, rfl, h.converted fun _ h => h.event (·.tensionSample)⟩
  case gripSample => exact ⟨_, rfl, h.converted fun _ h => h.gripSample⟩
  case currentSample => exact ⟨_, rfl, h.converted fun _ h => h.event (·.currentSample)⟩
  case arrPassage => exact ⟨_, rfl, h.onEvent (·.still.arrPassage)⟩
  case opnPassage => exact ⟨_, rfl, h.onEvent (·.still.opnPassage)⟩
  case clsPassage => exact ⟨_, rfl, h.onEvent (·.still.clsPassage)⟩
  case lckPassage => exact ⟨_, rfl, h.onEvent (·.still.lckPassage)⟩
  case grpPassage => exact ⟨_, rfl, h.onEvent (·.still.grpPassage)⟩
  case grpTrailingEdge => exact ⟨_, rfl, h.onEvent (·.still.closeAnyWindow)⟩
  case gatPassage => exact ⟨_, rfl, h.onEvent (·.still.gatPassage)⟩
  case gatTrailingEdge => exact ⟨_, rfl, h.onEvent (·.still.gateTrailing)⟩
  case attPassage => exact ⟨_, rfl, h.onEvent (·.still.attPassage)⟩
  case stiPassage => exact ⟨_, rfl, h.onEvent (·.still.stiPassage)⟩
  case stmPassage => exact ⟨_, rfl, h.onEvent (·.still.stmPassage)⟩
  case readerStrobe => exact ⟨_, rfl, h.whenLoaded (·.still)⟩
  case endInputChange => exact ⟨_, rfl, h.onEvent (·.endChange)⟩
  case strokeTimeout => exact ⟨_, rfl, h.onEvent (·.strokeTimeout)⟩
  case retryPauseExpiry => exact ⟨_, rfl, h.onEvent (·.retryPauseExpiry)⟩
  case launchDecision => exact ⟨_, rfl, h.whenLoaded (·.launchEval)⟩
  case switchThrow => exact ⟨_, rfl, h.whenLoaded (·.still)⟩
  case tallySample => exact ⟨_, rfl, h.whenLoaded (·.still)⟩
  case lineCycleTransmit =>
    exact ⟨_, rfl, Steady.ite (fun _ => h) fun _ =>
      Steady.ite (fun _ => h.event (·.transmitCycle)) fun _ => h.transmitCycle⟩
  case towerStale => exact ⟨_, rfl, h.onEvent (·.towerStale)⟩
  case censusRequestPlacement => exact ⟨_, rfl, h.whenLoaded (·.still)⟩
  case syncCandidate => exact ⟨_, rfl, h.whenLoaded (·.receiveBits)⟩
  case confirmCycle => exact ⟨_, rfl, h.whenLoaded (·.receiveBits)⟩
  case goodCycle => exact ⟨_, rfl, h.whenLoaded (·.receiveBits)⟩
  case badCycle => exact ⟨_, rfl, h.whenLoaded (·.receiveBits)⟩
  case linkLossExpiry => exact ⟨_, rfl, h.onEvent (·.linkLossExpiry)⟩
  case censusWaitExpiry => exact ⟨_, rfl, h.onEvent (·.censusExpiry)⟩
  case seizeTimeExpiry => exact ⟨_, rfl, h.whenLoaded (·.still)⟩
  case ringTimeExpiry => exact ⟨_, rfl, h.whenLoaded (·.still)⟩
  case clearGuardExpiry => exact ⟨_, rfl, h.whenLoaded (·.still)⟩
  case voicePortFrame => exact ⟨_, rfl, h.whenLoaded (·.still)⟩
  case hostDeadlineMissed => exact ⟨_, rfl, h.onEvent (·.deadlineMissed)⟩
  case commitCompletion => exact ⟨_, rfl, h.still⟩
  case frameGapTimeout => exact ⟨_, rfl, h.still⟩
  case breakReceived => exact ⟨_, rfl, h.still⟩
  case frameTransmit => exact ⟨_, rfl, h.still⟩
  all_goals cases hpart

/-- Every command but BAD_FRAME keeps the host hold or clears its flag. -/
theorem exec_keepsHold {c : Instr} (hframe : ∀ chars, c ≠ .badFrame chars) (s : State) :
    ∃ t, exec c s = .next t ∧ KeepsHold s t := by
  cases hpart : takenParts c with
  | some x =>
    obtain ⟨kind, tag, body⟩ := x
    exact ⟨_, exec_of_takenParts hpart s, takeRequest_keepsHold kind tag body s⟩
  | none =>
    by_cases hreset : c = .powerOn ∨ c = .resetnAsserted ∨ c = .hostResetEntry ∨ c = .supplyLoss
    · exact exec_reset_keepsHold hreset s
    · obtain ⟨t, ht, hsteady⟩ := exec_steady hpart hframe hreset s
      exact ⟨t, ht, hsteady.keepsHold⟩

/-- Every step but a BAD_FRAME keeps the host hold or clears its flag. -/
theorem step_keepsHold {s t : State} (h : step s = .next t)
    (hframe : ∀ chars rest, s.pending ≠ .badFrame chars :: rest) :
    KeepsHold s t := by
  unfold step at h
  split at h
  next =>
    obtain rfl := Host.Outcome.next.inj h
    exact (tick_steady s).keepsHold
  next c rest hpending =>
    have hc : ∀ chars, c ≠ .badFrame chars := fun chars hc => hframe chars rest (hc ▸ hpending)
    obtain ⟨u, hu, hkeeps⟩ := exec_keepsHold hc { s with pending := rest }
    obtain rfl := Host.Outcome.next.inj (hu.symm.trans h)
    exact hkeeps

/-- After every step, a BAD_FRAME among them, the host hold is shown. -/
theorem step_shown {s t : State} (h : step s = .next t) (hs : s.holdShown) : t.holdShown := by
  by_cases hframe : ∃ chars rest, s.pending = .badFrame chars :: rest
  · obtain ⟨chars, rest, hpending⟩ := hframe
    unfold step at h
    rw [hpending] at h
    obtain rfl := Host.Outcome.next.inj h
    unfold receive
    split
    · exact scanBytes_shown _ _ (s := { s with pending := rest }) hs
    · exact hs
  · exact (step_keepsHold h (fun chars rest hp => hframe ⟨chars, rest, hp⟩) hs).1

/-! ### HOLD_LAUNCHES and RESUME_LAUNCHES (R100) -/

/-- The effect of a request that writes the flag, taken by a receiver that hunts again. -/
def State.flagWritten (s : State) (flag : Bool) : State := putLnu { s.lnu with hostHold := flag } (hunting s)

/-- The state that such a request leaves: the end of its event, and the reply OK. -/
def State.holdWritten (s : State) (flag : Bool) (kind tag : Byte) : State :=
  answer kind tag .ok [] (settle s.lists (s.flagWritten flag))

section
variable {s : State} (tag : Byte)

theorem exec_holdLaunches (hs : s.serving) : exec (.holdLaunches tag []) s = .next (s.holdWritten true 0x10 tag) :=
  congrArg Host.Outcome.next (serve_accepted hs holdLaunchesRequest tag rfl rfl)

theorem exec_resumeLaunches (hs : s.serving) : exec (.resumeLaunches tag []) s = .next (s.holdWritten false 0x11 tag) :=
  congrArg Host.Outcome.next (serve_accepted hs resumeLaunchesRequest tag rfl rfl)

variable (s) (flag : Bool) (kind : Byte)

@[simp] theorem flagWritten_lnu : (s.flagWritten flag).lnu = { s.lnu with hostHold := flag } := rfl

theorem flagWritten_same : sameBut [.window, .rx, .replies] s (s.flagWritten flag) := by
  intro b hb
  cases b <;> simp_all [Block.same, State.flagWritten, hunting, putSpt]

theorem answer_same (kind tag : Byte) (st : Status) (data : List Byte) (s : State) :
    sameBut [.window, .rx, .replies] s (answer kind tag st data s) := by
  intro b hb
  cases b <;> simp_all [Block.same, answer, joinReply, putSpt]

/-- What the two requests change beside the flag is the receiver, the reply queue and what any event may end with. -/
theorem holdWritten_same : sameBut ([.window, .rx, .replies] ++ Block.settled) s (s.holdWritten flag kind tag) :=
  sameBut_trans (sameBut_mono (flagWritten_same s flag) fun _ => List.mem_append_left _)
    (sameBut_trans (sameBut_mono (settle_same _ _) fun _ => List.mem_append_right _)
      (sameBut_mono (answer_same kind tag .ok [] _) fun _ => List.mem_append_left _))

/-- The reply touches neither the Stop Supervisor nor the Launch Unit. -/
theorem holdWritten_settled :
    (s.holdWritten flag kind tag).ssv = (settle s.lists (s.flagWritten flag)).ssv ∧
      (s.holdWritten flag kind tag).lnu = (settle s.lists (s.flagWritten flag)).lnu := by
  simp [State.holdWritten]

theorem holdWritten_window : (s.holdWritten flag kind tag).lnu.hostHold = flag ∧
    (s.holdWritten flag kind tag).lnu.window = s.lnu.window ∧
    (s.holdWritten flag kind tag).lnu.lastResult = s.lnu.lastResult := by
  simp [holdWritten_settled]

theorem holdWritten_replies :
    (s.holdWritten flag kind tag).spt.replies = s.spt.replies ++ [replyIs kind tag .ok []] := by
  have hkept : (settle s.lists (s.flagWritten flag)).spt.replies = s.spt.replies := by
    simp [State.flagWritten, hunting]
  simp only [State.holdWritten, answer, joinReply, putSpt, hkept]
  rfl

variable {s}

theorem flagWritten_follows (hs : s.stopsFollow) : (s.flagWritten flag).stopsFollow := hs

theorem holdWritten_shown (hs : s.stopsFollow) : (s.holdWritten flag kind tag).stopsFollow ∧
    (s.holdWritten flag kind tag).active .hostHold = flag := by
  obtain ⟨hstops, hactive⟩ := settle_shown s.lists (flagWritten_follows flag hs)
  obtain ⟨hssv, -⟩ := holdWritten_settled s tag flag kind
  exact ⟨stopsFollow_of_ssv hssv hstops, (active_of_ssv hssv _).trans hactive⟩

/-- A launch in flight is not affected, and under the flag none is decided. -/
theorem holdWritten_launch (hs : s.stopsFollow) (h : flag = true ∨ s.lnu.flight.isSome) :
    (s.holdWritten flag kind tag).lnu.rdL = s.lnu.rdL ∧ (s.holdWritten flag kind tag).lnu.flight = s.lnu.flight := by
  rw [(holdWritten_settled s tag flag kind).2]
  obtain hflag | hflight := h
  · exact settle_launch_of_hostHold s.lists (flagWritten_follows flag hs) hflag
  · exact settle_launch_of_flight s.lists (s := s.flagWritten flag) hflight

end

theorem exec_launchDecision_of_demand {t : State}
    (h : t.ssv.demand = .hold ∨ t.ssv.demand = .service ∨ t.ssv.demand = .emergency) :
    exec .launchDecision t = .next t := by
  change Host.Outcome.next (whenLoaded launchEval t) = .next t
  unfold whenLoaded
  rw [launchEval_of_demand h, ite_self]

/-- Settles O56: the step clause by `step_shown` and `step_keepsHold`, the two requests by what the end of their event
leaves, the resets by the values that they give the Launch Unit. -/
theorem hostHoldHoldsLaunches : Obligations.HostHoldHoldsLaunches := by
  unfold Obligations.HostHoldHoldsLaunches
  refine ⟨fun s t hs hf hstep ht => ?step, fun s tag hserving hs => ⟨?hold, ?resume, ?reset⟩⟩
  case step =>
    obtain ⟨hstops, hshown⟩ := step_shown hstep ⟨hs, hf⟩
    refine ⟨hshown ht, demand_of_hostHold hstops (hshown ht), fun hflag hframe => ?_⟩
    exact (step_keepsHold hstep hframe ⟨hs, hf⟩).2 hflag ht
  case hold =>
    obtain ⟨hstops, hactive⟩ := holdWritten_shown tag true 0x10 hs
    obtain ⟨hflag, hwindow, hlast⟩ := holdWritten_window s tag true 0x10
    obtain ⟨hrd, hflight⟩ := holdWritten_launch tag true 0x10 hs (.inl rfl)
    have hdemand := demand_of_hostHold hstops hactive
    exact ⟨_, exec_holdLaunches tag hserving, hflag, hactive, hdemand, hrd, hflight, hwindow, hlast,
      holdWritten_replies s tag true 0x10, exec_launchDecision_of_demand hdemand, holdWritten_same s tag true 0x10⟩
  case resume =>
    obtain ⟨-, hactive⟩ := holdWritten_shown tag false 0x11 hs
    obtain ⟨hflag, hwindow, hlast⟩ := holdWritten_window s tag false 0x11
    refine ⟨_, exec_resumeLaunches tag hserving, hflag, hactive, fun hf => ?_, hwindow, hlast,
      holdWritten_replies s tag false 0x11, holdWritten_same s tag false 0x11⟩
    exact (holdWritten_launch tag false 0x11 hs (.inr hf)).symm
  case reset =>
    intro c t hc ht hoff
    obtain ⟨u, hu, rfl | ⟨-, hclear⟩⟩ := exec_reset hc s
    · obtain rfl := Host.Outcome.next.inj (hu.symm.trans ht)
      exact absurd hoff hserving.1
    · obtain rfl := Host.Outcome.next.inj (hu.symm.trans ht)
      exact hclear

end Sys2Proof.Machine
end

section
/-! PROOFS. The three call requests (R167): what a change of state does to the two call channels, what the three rules
answer in each case, and the statement CallRequestsMoveTheCall. -/

namespace Sys2Proof.Machine

/-! ### The record of a call channel -/

theorem call_of_phn {s t : State} (h : t.phn = s.phn) (ch : CallChannel) : t.call ch = s.call ch := by
  cases ch <;> simp [State.call, h]

@[simp] theorem hunting_call (s : State) (ch : CallChannel) : (hunting s).call ch = s.call ch :=
  call_of_phn (by simp) ch

@[simp] theorem notify_call (n : Notice) (s : State) (ch : CallChannel) : (notify n s).call ch = s.call ch :=
  call_of_phn (by simp) ch

@[simp] theorem answer_call (kind tag : Byte) (st : Status) (data : List Byte) (s : State) (ch : CallChannel) :
    (answer kind tag st data s).call ch = s.call ch :=
  call_of_phn (by simp) ch

@[simp] theorem putCall_call_same (ch : CallChannel) (r : CallRecord) (s : State) : (putCall ch r s).call ch = r := by
  cases ch <;> rfl

theorem putCall_call_other {ch o : CallChannel} (h : o ≠ ch) (r : CallRecord) (s : State) :
    (putCall ch r s).call o = s.call o := by
  cases ch <;> cases o
  · exact absurd rfl h
  · rfl
  · rfl
  · exact absurd rfl h

/-- A record that takes a state with no CONNECTED before or after keeps its voice path (R166). -/
theorem CallRecord.entered_of_unconnected {r : CallRecord} {st : CallState} (hr : r.state ≠ .connected)
    (hst : st ≠ .connected) (o : Option CallOrigin) (t : Option CallTimer) (why : CallReason) :
    r.entered st o t why = { r with state := st, origin := o, timer := t, last := some why } := by
  simp [CallRecord.entered, hr, hst]

/-- Entry into CONNECTED silences the voice path (R166). -/
theorem CallRecord.entered_connected (r : CallRecord) (o : Option CallOrigin) (t : Option CallTimer)
    (why : CallReason) :
    r.entered .connected o t why =
      { r.silent with state := .connected, origin := o, timer := t, last := some why } := by
  simp [CallRecord.entered]

/-- Whatever state a record takes, its effective far code stays. -/
theorem CallRecord.entered_farCode (r : CallRecord) (st : CallState) (o : Option CallOrigin) (t : Option CallTimer)
    (why : CallReason) : (r.entered st o t why).farCode = r.farCode := by
  unfold CallRecord.entered
  split <;> rfl

/-! ### A change of state with its reply -/

/-- What an event sends is told by the waiting notices before and after it, and by the clock before it. -/
theorem sends_congr {p : Notice → Bool} {l : List Notice} {s s' t t' : State}
    (hs : s'.spt.notices = s.spt.notices) (hclock : s'.clock = s.clock) (ht : t'.spt.notices = t.spt.notices)
    (h : sends p l s t) : sends p l s' t' := by
  simpa only [sends, hs, hclock, ht] using h

theorem enterCall_sends (ch : CallChannel) (st : CallState) (o : Option CallOrigin) (t : Option TimerKind)
    (why : CallReason) (s : State) :
    sends (Notice.ofCall ch) [.callEvent ch st o why] s (enterCall ch st o t why s) := by
  have hown : Notice.ofCall ch (.callEvent ch st o why) = true := by simp [Notice.ofCall]
  have hsent := sends_noticed (Notice.ofCall ch) (.callEvent ch st o why)
    (putCall ch ((s.call ch).entered st o (t.map fun k => ⟨k, s.clock.ms⟩) why) s)
  rw [if_pos hown] at hsent
  exact sends_congr (by simp) (by simp) (by simp [enterCall, notify_eq_noticed]) hsent

/-- A channel changes its state at a request, which is answered OK. -/
def State.callMoved (s : State) (kind tag : Byte) (ch : CallChannel) (st : CallState) (o : Option CallOrigin)
    (t : Option TimerKind) (why : CallReason) : State :=
  answer kind tag .ok [] (enterCall ch st o t why (hunting s))

section
variable (s : State) (kind tag : Byte) (ch : CallChannel) (st : CallState) (o : Option CallOrigin)
  (t : Option TimerKind) (why : CallReason)

theorem callMoved_call : (s.callMoved kind tag ch st o t why).call ch =
    (s.call ch).entered st o (t.map fun k => ⟨k, s.clock.ms⟩) why := by
  simp [State.callMoved, enterCall]

theorem callMoved_call_other {c : CallChannel} (h : c ≠ ch) :
    (s.callMoved kind tag ch st o t why).call c = s.call c := by
  simp [State.callMoved, enterCall, putCall_call_other h]

theorem callMoved_replies : (s.callMoved kind tag ch st o t why).spt.replies =
    s.spt.replies ++ [replyIs kind tag .ok []] := by
  have hkept : (enterCall ch st o t why (hunting s)).spt.replies = s.spt.replies := by simp [hunting, putSpt]
  simp only [State.callMoved, answer, joinReply, putSpt, hkept]
  rfl

theorem callMoved_sends :
    sends (Notice.ofCall ch) [.callEvent ch st o why] s (s.callMoved kind tag ch st o t why) :=
  sends_congr rfl rfl rfl (enterCall_sends ch st o t why (hunting s))

theorem callMoved_same : sameBut [.phone, .rx, .replies, .notices] s (s.callMoved kind tag ch st o t why) := by
  intro b hb
  cases b <;> simp_all [Block.same, State.callMoved, answer, joinReply, putSpt, hunting]

/-- What every change of a call's state by a request leaves beside the record of its channel (R164, R167). -/
theorem callMoved_effect :
    sends (Notice.ofCall ch) [.callEvent ch st o why] s (s.callMoved kind tag ch st o t why) ∧
      (s.callMoved kind tag ch st o t why).spt.replies = s.spt.replies ++ [replyIs kind tag .ok []] ∧
      (∀ c, c ≠ ch → (s.callMoved kind tag ch st o t why).call c = s.call c) ∧
      sameBut [.phone, .rx, .replies, .notices] s (s.callMoved kind tag ch st o t why) :=
  ⟨callMoved_sends s kind tag ch st o t why, callMoved_replies s kind tag ch st o t why,
    fun _ => callMoved_call_other s kind tag ch st o t why, callMoved_same s kind tag ch st o t why⟩

end

/-! ### The call channel operand (R202) -/

theorem callArg_outside {n : Byte} (h : 2 ≤ n.toNat) : callArg n = none := by
  unfold callArg
  split
  · omega
  · omega
  · rfl

theorem callRule_badValue {n : Byte} (h : 2 ≤ n.toNat) (f : CallChannel → State → Answer) (s : State) :
    callRule f [n] s = .refuse .badValue [] := by
  simp [callRule, callArg_outside h]

/-! ### What the three rules answer (R167) -/

section
variable {s : State} {ch : CallChannel} {b : Byte}

theorem callRule_channel (hb : callArg b = some ch) (f : CallChannel → State → Answer) (s : State) :
    callRule f [b] s = f ch s := by
  simp [callRule, hb]

theorem placeCallRule_refused (hb : callArg b = some ch) (hl : s.active .linkLost = true) :
    placeCallRule [b] s = .refuse .refused [] := by
  simp [placeCallRule, callRule_channel hb, hl]

theorem placeCallRule_busy (hb : callArg b = some ch) (hl : s.active .linkLost = false)
    (hst : (s.call ch).state ≠ .idle) : placeCallRule [b] s = .refuse .busy [] := by
  have hbusy : ((s.call ch).state != .idle) = true := bne_iff_ne.mpr hst
  simp [placeCallRule, callRule_channel hb, hl, hbusy]

theorem placeCallRule_accepts (hb : callArg b = some ch) (hl : s.active .linkLost = false)
    (hst : (s.call ch).state = .idle) :
    placeCallRule [b] s = .ok (enterCall ch .seizing (some .outgoing) (some .seize) .placed s) [] := by
  simp [placeCallRule, callRule_channel hb, hl, hst, placeCall]

theorem answerCallRule_wrongState (hb : callArg b = some ch) (hst : (s.call ch).state ≠ .ringing) :
    answerCallRule [b] s = .refuse .wrongState [] := by
  have helsewhere : ((s.call ch).state != .ringing) = true := bne_iff_ne.mpr hst
  simp [answerCallRule, callRule_channel hb, helsewhere]

theorem answerCallRule_accepts (hb : callArg b = some ch) (hst : (s.call ch).state = .ringing) :
    answerCallRule [b] s = .ok (enterCall ch .connected (s.call ch).origin none .answered s) [] := by
  simp [answerCallRule, callRule_channel hb, hst, toConnected]

theorem endCallRule_reads (hb : callArg b = some ch)
    (hst : (s.call ch).state = .idle ∨ (s.call ch).state = .clearing) : endCallRule [b] s = .read [] := by
  obtain h | h := hst <;> simp [endCallRule, callRule_channel hb, h]

theorem endCallRule_accepts (hb : callArg b = some ch) (hidle : (s.call ch).state ≠ .idle)
    (hclearing : (s.call ch).state ≠ .clearing) :
    endCallRule [b] s = .ok (enterCall ch .clearing (s.call ch).origin (some .guard) .localClear s) [] := by
  rw [endCallRule, callRule_channel hb]
  split
  · contradiction
  · contradiction
  all_goals rfl

end

/-! ### The three commands at a part that serves -/

/-- A request that finds nothing to do leaves its reply OK alone. -/
theorem serve_read {s : State} (hs : s.serving) (r : Request) (tag : Byte) {body data : List Byte}
    (hl : r.lengthOk body = true) (h : r.handle body (hunting s) = .read data) :
    serve r tag body s = s.answered (replyIs r.kind tag .ok data) := by
  simp only [serve_of_serving hs r tag hl, carryOut, h]
  rfl

section
variable {s t : State} (hs : s.serving) (tag : Byte) {b : Byte} {st : Status}
include hs

theorem exec_placeCall_refused (h : placeCallRule [b] (hunting s) = .refuse st []) :
    exec (.placeCall tag [b]) s = .next (s.answered (replyIs 0x1B tag st [])) :=
  congrArg Host.Outcome.next (serve_refused hs placeCallRequest tag rfl h)

theorem exec_placeCall_accepted (h : placeCallRule [b] (hunting s) = .ok t []) :
    exec (.placeCall tag [b]) s = .next (answer 0x1B tag .ok [] t) :=
  congrArg Host.Outcome.next (serve_accepted hs placeCallRequest tag rfl h)

theorem exec_answerCall_refused (h : answerCallRule [b] (hunting s) = .refuse st []) :
    exec (.answerCall tag [b]) s = .next (s.answered (replyIs 0x1C tag st [])) :=
  congrArg Host.Outcome.next (serve_refused hs answerCallRequest tag rfl h)

theorem exec_answerCall_accepted (h : answerCallRule [b] (hunting s) = .ok t []) :
    exec (.answerCall tag [b]) s = .next (answer 0x1C tag .ok [] t) :=
  congrArg Host.Outcome.next (serve_accepted hs answerCallRequest tag rfl h)

theorem exec_endCall_refused (h : endCallRule [b] (hunting s) = .refuse st []) :
    exec (.endCall tag [b]) s = .next (s.answered (replyIs 0x1D tag st [])) :=
  congrArg Host.Outcome.next (serve_refused hs endCallRequest tag rfl h)

theorem exec_endCall_read (h : endCallRule [b] (hunting s) = .read []) :
    exec (.endCall tag [b]) s = .next (s.answered (replyIs 0x1D tag .ok [])) :=
  congrArg Host.Outcome.next (serve_read hs endCallRequest tag rfl h)

theorem exec_endCall_accepted (h : endCallRule [b] (hunting s) = .ok t []) :
    exec (.endCall tag [b]) s = .next (answer 0x1D tag .ok [] t) :=
  congrArg Host.Outcome.next (serve_accepted hs endCallRequest tag rfl h)

end

/-- Settles O36, clause by clause: in each case the answer of the request's own rule is carried to the command that
brings the request, and a change of state is read off `State.callMoved`. -/
theorem callRequestsMoveTheCall : Obligations.CallRequestsMoveTheCall := by
  unfold Obligations.CallRequestsMoveTheCall
  intro s tag ch hs body
  obtain ⟨b, hb, hbody⟩ : ∃ b, callArg b = some ch ∧ body = [b] := by
    cases ch
    · exact ⟨0, rfl, rfl⟩
    · exact ⟨1, rfl, rfl⟩
  clear_value body
  subst hbody
  have hcall : (hunting s).call ch = s.call ch := hunting_call s ch
  refine ⟨fun hst hl => ?place, fun hst => ?answer, fun hidle hclearing => ?hangUp, fun hst => ?nothing,
    fun hl => ?refused, fun hl hst => ?busy, fun hst => ?wrongState, fun n hn => ?badValue⟩
  case place =>
    refine ⟨s.callMoved 0x1B tag ch .seizing (some .outgoing) (some .seize) .placed,
      exec_placeCall_accepted hs tag (placeCallRule_accepts hb hl (hcall ▸ hst)), ?_, callMoved_effect ..⟩
    rw [callMoved_call, CallRecord.entered_of_unconnected (by simp [hst]) (by simp)]
    rfl
  case answer =>
    refine ⟨s.callMoved 0x1C tag ch .connected (s.call ch).origin none .answered,
      exec_answerCall_accepted hs tag (hcall ▸ answerCallRule_accepts hb (hcall ▸ hst)), ?_, callMoved_effect ..⟩
    rw [callMoved_call, CallRecord.entered_connected]
    rfl
  case hangUp =>
    refine ⟨s.callMoved 0x1D tag ch .clearing (s.call ch).origin (some .guard) .localClear,
      exec_endCall_accepted hs tag (hcall ▸ endCallRule_accepts hb (hcall ▸ hidle) (hcall ▸ hclearing)), ?_⟩
    rw [callMoved_call, CallRecord.entered_farCode]
    exact ⟨rfl, rfl, rfl, rfl, rfl, callMoved_effect ..⟩
  case nothing => exact exec_endCall_read hs tag (endCallRule_reads hb (hcall ▸ hst))
  case refused => exact exec_placeCall_refused hs tag (placeCallRule_refused hb hl)
  case busy => exact exec_placeCall_refused hs tag (placeCallRule_busy hb hl (hcall ▸ hst))
  case wrongState => exact exec_answerCall_refused hs tag (answerCallRule_wrongState hb (hcall ▸ hst))
  case badValue =>
    exact ⟨exec_placeCall_refused hs tag (callRule_badValue hn _ _),
      exec_answerCall_refused hs tag (callRule_badValue hn _ _),
      exec_endCall_refused hs tag (callRule_badValue hn _ _)⟩

end Sys2Proof.Machine
end
